-- ==== Sys2Proof/Word.lean ====
section
/-! DEFINITION. The word types of the GZ-3200 model: what the manual treats as bits of a fixed width (R8, R11). -/

namespace Sys2Proof

/-- One byte of memory, of a descriptor or of a packet. -/
abbrev Byte := BitVec 8
/-- A 64-bit register or field value. -/
abbrev Word := BitVec 64
/-- The physical tile number p = 5·d + t, 0–79 (R3). -/
abbrev Tile := Fin 80
/-- The number of an engine die, of a base die, of a stack or of a coupler port (R2, R5). -/
abbrev Die := Fin 16
/-- A logical engine, 0–63 (R4). -/
abbrev Eng := Fin 64
/-- A rank, 12 bits (R6). -/
abbrev Rank := BitVec 12
/-- A membership epoch, 16 bits (R6). -/
abbrev Epoch := BitVec 16
/-- A step number, 48 bits (R6). -/
abbrev StepNo := BitVec 48

end Sys2Proof
end

