-- ==== Sys2Proof/Syntax.lean ====
section
/-! DEFINITION. The commands of the GZ-3200, one constructor per row of the command table, and the operands they take.
What a clock, a pin, the silicon or another agent decides reaches the model as an operand (spec/95). -/

namespace Sys2Proof

/-- The registers of the specification, each under its own name (R12). -/
inductive RegName where
  | FWA_STATUS | FWA_RESIDUE_LOG | SIV_CTRL | SIV_STATUS | SIV_PRE_WIN | SIV_TABLES | SIV_STEP_COUNTS | BKA_STATUS
  | BKA_RESIDUE_LOG | ACB_CTRL | ACB_STATUS | ACB_SLOT_GEOM | ACB_SLOT_STATE | ENG_STEP_CTX | ENG_VERSION_STRIDE
  | ENG_JOB_SEED_LO | ENG_JOB_SEED_HI | ENG_STATUS | ENG_ERR_LOG | ENG_CQ_CTRL | ENG_CQ_PTR | ENG_WD | ENG_TTAB
  | ENG_HYP_BASE | ENG_LR_FACTOR | ENG_SEM | ENG_SEM_ADD | MEM_DECODE_CFG | MEM_SPARE_CFG | MEM_ERR_LOG
  | MEM_ERR_COUNT | MEM_RETIRE_STATUS | MEM_SCRUB | LAR_STATUS | LAR_ERR_LOG | SHN_STATUS | SHN_COUNTS
  | CPL_PORT_STATUS | CPL_LANE_MAP | CPL_LANE_STATE | CPL_CTRL | CPL_COUNTS | CPL_LINK_COUNTS | CPL_ROUTE | CPL_GROUP
  | CPL_XCH_CTRL | RDU_STATUS | RDU_CTRL | SVC_ROLE | SVC_HB_CFG | SVC_COMMIT_CFG | SVC_TENDER_CFG | SVC_TENDER_BASE
  | SVC_CKPT_CFG | SVC_CKPT_STATUS | SVC_CKPT_GEN | SVC_RECOVERY_STATUS | MEM_FLASH_STATUS | MBX_STATE | MBX_BOOT
  | MBX_APERTURE | MBX_CTRL | MBX_HOST_ALIVE | MBX_STATUS | CNT_CTRL | CNT_ARITH | CNT_FABRIC | TRC_CTRL | TRC_STATUS
  | TRC_RSEQ | SNP_TRIG_CFG | SNP_MATCH | SNP_STATUS | CVU_CTRL | CVU_STATUS | CVU_LOG | CVU_COUNTS | SEC_STATUS
  | SEC_DEBUG | PWR_CAP | PWR_STATUS | PWR_RESET_CAUSE | PWR_CLK_STATUS | PWR_TILE_CTRL | PWR_COOLANT
  | SVC_MGMT_STATUS | CNT_BASE_CLEAR
  deriving DecidableEq, Repr

/-- One register: its name, the unit that carries it (physical tile, die, or 0) and its index in a table. -/
structure RegId where
  name : RegName
  inst : Nat
  idx : Nat
  deriving DecidableEq, Repr

/-- An error the array checks of R95–R97 or R176–R177 see: the block, parity or residue, and the sub-array. Which errors
occur is the silicon's; a piece of work has a list of them in the order seen, and one that follows another of the same
output block is seen in that block's recomputation (R98). -/
structure ArrayFault where
  /-- The block's index within the work. -/
  block : Nat
  /-- An edge-store parity error; else a residue mismatch. -/
  parity : Bool
  /-- The sub-array in which it is seen. -/
  sub : Fin 4
  deriving DecidableEq, Repr

/-- What the reads of a stored line or word return beside its contents (R282, R296): every read matches its check; the
first mismatches and a re-read matches; all three mismatch. A stored check that is wrong mismatches whatever this says. -/
inductive ReadOutcome where
  | clean | soft | hard
  deriving DecidableEq, Repr

/-- The requesters of MEM_ERR_LOG.SRC (R300), in code order; an engine names its tile. -/
inductive MemSrc where
  | engine (p : Tile) | peerFabric | host | coupler | flash | controller
  deriving DecidableEq, Repr

/-- One request at a larder bank (R21, R293): the requester 0–6 in the order of R21, the byte offset, and the 128 B line
written, or none for a read. -/
structure LarderReq where
  req : Fin 7
  /-- For the sieve: the request of its widening direction (R474). -/
  widen : Bool := false
  off : BitVec 25
  write : Option (List Byte)
  deriving DecidableEq, Repr

/-- A packet (R346): header fields, payload before padding, and the CRC-32C of its trailer as received. -/
structure Packet where
  ptype : BitVec 4
  vc : BitVec 2
  pflags : BitVec 8
  src : Rank
  dst : Rank
  group : BitVec 8
  alive : BitVec 8
  epoch : Epoch
  tag : BitVec 16
  dstL : BitVec 6
  fmts : BitVec 8
  sg : BitVec 8
  hop : BitVec 8
  pseq : BitVec 32
  offset : BitVec 48
  nelem : BitVec 16
  total : BitVec 32
  payload : List Byte
  crc : BitVec 32
  deriving DecidableEq, Repr

/-- Who issued a Dammel command: a queue pair of the local host, or a queue pair of another rank's host through the
manager's forwarding (R466). -/
inductive Issuer where
  | qp (q : Fin 64)
  | forwarded (rank : Rank) (q : BitVec 8)
  deriving DecidableEq, Repr

/-- An entry of the rank map (R381). -/
structure RankEntry where
  deviceId : BitVec 64 := 0
  /-- 0 ABSENT, 1 ACTIVE, 2 SPARE, 3 JOINING, 4 DRAINING, 5 FAILED. -/
  state : BitVec 4 := 0
  role : BitVec 2 := 0
  partner : Rank := 0
  x : BitVec 8 := 0
  y : BitVec 8 := 0
  deriving DecidableEq, Repr

/-- The manager's records that only the standby is given (R399, R421): the standby order, the fence list, the group epochs,
the next generation number, and the manifest hashes reported for each generation (generation, rank, device, FOREIGN,
SHA-256). -/
structure Mirror where
  order : List Nat := []
  fence : List Nat := []
  epochs : List (Nat × Nat) := []
  genNext : Nat := 1
  hashes : List (Nat × Nat × Nat × Bool × List Byte) := []
  podManifests : List (Nat × List Byte) := []
  keys : List (Nat × List Byte × List Byte) := []
  deriving DecidableEq, Repr

/-- What a PUBLISH carries for one recipient (R386, R387): the new pod epoch, rank-map entries, the recipient's own
CPL_GROUP and CPL_ROUTE values, and for the standby the group tables, the fence list and the standby order. -/
structure Change where
  epoch : Epoch
  ranks : List (Rank × RankEntry) := []
  groups : List (BitVec 8 × BitVec 64) := []
  routes : List (Rank × BitVec 32) := []
  members : List (BitVec 8 × List Rank) := []
  /-- The rank that the recipient takes, if it changes (R380). -/
  newRank : Option Rank := none
  manager : Rank := 0
  standby : Option Rank := none
  mirror : Option Mirror := none
  deriving DecidableEq, Repr

/-- The first 16 bytes of a HOST_CMD or HOST_CPL body (R467). -/
structure HostHdr where
  kind : BitVec 8
  qp : BitVec 8
  rank : Rank
  tag : BitVec 32
  off : BitVec 64
  deriving DecidableEq, Repr

/-- The bodies of the management messages (R386). -/
inductive MgmtBody where
  | heartbeat (role : BitVec 2) (committed : StepNo) (isOpen : Bool)
  | ready (checked fellBack nonfinSkip rangeSat : BitVec 32)
  | commit (decision : BitVec 2) (k : BitVec 8)
  | committed
  | abortStep (code : BitVec 16) (again : Bool)
  | start
  | publish (c : Change)
  | staged (epoch : Epoch)
  | activate (epoch : Epoch)
  | fencePort (ports : BitVec 16)
  /-- The event code; the engine and SEQ of a halting error let the manager judge a hang (R414; DESIGN CHOICE, log 41). -/
  | fault (code : BitVec 16) (eng : BitVec 6) (seq : BitVec 12)
  | takeoverQuery
  | takeoverVote (yes : Bool)
  | trigger (originRank : Rank) (originNum : BitVec 16) (capture : Bool) (sources : BitVec 8)
  | hostCmd (h : HostHdr) (bytes : List Byte)
  | hostCpl (h : HostHdr) (bytes : List Byte)
  deriving DecidableEq, Repr

/-- A management message (R386): the ranks, the group 0 epoch of its packets, the PSEQ of its first packet in the stream
between the two ranks, the step it concerns, and its body. -/
structure Mgmt where
  src : Rank
  dst : Rank
  epoch : Epoch
  pseq : BitVec 32
  step : StepNo
  body : MgmtBody
  deriving DecidableEq, Repr

/-- An entry of the region table (R285, R286, R408): device addresses, the class code, and for a versioned region the
first address of its buffer 1 (its class is then that of the buffer asked about). `input` marks a STEP region that holds
input bytes of the host. -/
structure RegionEnt where
  base : Nat
  limit : Nat
  cls : Nat
  other : Option Nat := none
  input : Bool := false
  deriving DecidableEq, Repr

/-- What the training of a port has found (R338, R339): per physical lane, bit j for lane j, whether it completed training
after its retries and whether it is received inverted, and the sender's physical lane that arrives on it. -/
structure TrainResult where
  trained : BitVec 9
  inverted : BitVec 9
  sender : List Nat
  deriving DecidableEq, Repr

/-- What a link-control flit says (R340, R344); the manual gives its body no byte layout. -/
inductive LinkCtl where
  /-- Cumulative credits by 2·VC + CLASS (R344). -/
  | credits (counts : List Nat)
  /-- The logical lane to be moved, and the answer that names the codeword of the answering side at which it moves (R340). -/
  | swapRequest (lane : Fin 8)
  | swapAnswer (lane : Fin 8) (boundary : Nat)
  deriving DecidableEq, Repr

/-- What the FEC makes of a received codeword (R335, R340): nothing to do, symbols corrected, or not to be corrected. -/
inductive Codeword where
  | clean
  | corrected (symbols : List (Fin 544))
  | uncorrectable
  deriving DecidableEq, Repr

/-- A flit (R342): the fields of FHDR, the 504 B after it, and FCRC; `ctl` is what a link-control body says. -/
structure Flit where
  vc : BitVec 2
  kind : BitVec 2
  fseq : BitVec 10
  ack : BitVec 10
  start : BitVec 6
  nak : Bool
  cls : Bool
  payload : List Byte
  ctl : Option LinkCtl
  fcrc : BitVec 32
  deriving DecidableEq, Repr

/-- Which PLL loses lock (R551); a memory PLL fails its stack, and `copies` are the bytes that the partner sends (R292). -/
inductive PllWhich where
  | engine (d : Die) | memory (s : Die) (copies : List (Nat × List Byte)) | service
  deriving DecidableEq, Repr
/-- Readings of the coolant sensors (R570): temperatures in 0.1 °C, the flow loop in µA, the leak loop in Ω. -/
structure Coolant where
  inlet : Int
  outlet : Int
  flow : Nat
  leak : Nat
  deriving DecidableEq, Repr

/-- What a command's DMA list gave: the bytes read, up to the first list entry whose host access fails, if one does
(R462, R463). -/
structure DmaIn where
  bytes : List Byte := []
  failed : Option Nat := none
  deriving DecidableEq, Repr

/-- What a command's DMA list takes: its bytes of room, and the first list entry whose host access fails, if one does. -/
structure DmaOut where
  space : Nat := 0
  failed : Option Nat := none
  deriving DecidableEq, Repr

/-- What a device presents for its admission (R533): its certificates, and a 256 B report over the nonce drawn. X.509 is outside
the manual (log 8): of the certificates the operand gives what comes of them. -/
structure AdmitIn where
  /-- The identity keys of base dies 0 and 15, X then Y (R522, R524); none where the chain does not lead to the vendor root key, or
  names another device. -/
  keys : Option (BitVec 512 × BitVec 512) := none
  /-- The torus slot that the device answers from. -/
  x : BitVec 8 := 0
  y : BitVec 8 := 0
  nonce : List Byte := []
  report : List Byte := []
  deriving DecidableEq, Repr

/-- The IN list of POD_FORM (R456): the rank map, the manager, the standby, the standby order, and what each device
presents. The manual gives the list after the rank map no byte layout (DESIGN CHOICE, log 40). -/
structure PodIn where
  ranks : List (Rank × RankEntry) := []
  manager : Rank := 0
  standby : Option Rank := none
  order : List Rank := []
  admits : List AdmitIn := []
  failed : Option Nat := none
  deriving DecidableEq, Repr

/-- The IN list of PROGRAM_LOAD (R456): the Traed program's bytes, its precision mode, the queue entries of each engine's
step, and the register values that Dammel writes for it. The manual gives the program no byte layout (DESIGN CHOICE,
log 40). -/
structure ProgramIn where
  image : List (Nat × List Byte) := []
  narrow : Bool := false
  queues : List (Eng × List (List Byte)) := []
  registers : List (RegId × Nat) := []
  failed : Option Nat := none
  deriving DecidableEq, Repr

/-- The IN list of TENSOR_BIND (R456): tensor and other tables as bytes at device addresses, slot geometries by engine,
the region table and the tender's placement (DESIGN CHOICE, log 40). -/
structure BindIn where
  tables : List (Nat × List Byte) := []
  slots : List (Eng × Nat × Nat) := []
  regions : List RegionEnt := []
  tenderBase : Nat := 0
  tenderStride : Nat := 0
  wardBytes : Nat := 0
  wardProgram : Nat := 0
  /-- The buffer-0 address, inside a versioned region, of the 8 bytes that hold the remaining pin count. -/
  pinAt : Option Nat := none
  failed : Option Nat := none
  deriving DecidableEq, Repr

/-- What reaches a replacement in its refill (R418): committed state and program of the rank, those of its ward, the
committed step and the remaining pin count; and the program and the tables that Dammel binds it with (log 40). -/
structure RefillIn where
  load : ProgramIn := {}
  bind : BindIn := {}
  state : List Byte := []
  program : List Byte := []
  wardState : List Byte := []
  wardProgram : List Byte := []
  step : StepNo := 0
  pins : BitVec 8 := 0
  deriving DecidableEq, Repr

/-- The commands of spec/opcode_table.json, one constructor per row. An operand with a default describes what may go wrong in a run of
the command, and its default that nothing does: reads match their checks, codewords arrive intact, no copy of the partner comes. -/
inductive Instr where
  /-- QUEUE_ENTRY_FETCH (R222). The engine reads the command-queue entry at HEAD, checks ECHECK, reads its COUNT descriptors and advances HEAD once the last one is dispatched. -/
  | queueEntryFetch (p : Tile) (errs : List (Nat × Bool))
  /-- FMM (R244). The F-array runs a forward matrix product in its named form, accumulates into the edge store and dequantises through the edge converter. -/
  | fmm (p : Tile) (faults : List ArrayFault)
  /-- BMM (R246). The B-array runs a backward or wide product into a tensor through the widening direction or into a gradient slot. -/
  | bmm (p : Tile) (faults : List ArrayFault) (rd : ReadOutcome)
  /-- CVT_PLAIN (R248). A plain CVT performs a pair conversion with scales taken from the records or from SCALE and ZP. -/
  | cvtPlain (p : Tile)
  /-- CVT_NARROWING (R248). A narrowing CVT runs sieve stages 1 to 6 (whisk, row clip and scale, drip extraction, conversion, counts) and may open a forward check group. -/
  | cvtNarrowing (p : Tile)
  /-- CVT_WEIGHT_CONVERSION (R117). A weight conversion writes packed tiles with row scales, column sums and drip tables. -/
  | cvtWeightConversion (p : Tile)
  /-- ADD (R251). The VU forms A + B elementwise, rounded once into DST_FMT. -/
  | add (p : Tile)
  /-- MUL (R251). The VU forms A × B elementwise. -/
  | mul (p : Tile)
  /-- FMA (R251). The VU forms A × B + C elementwise. -/
  | fma (p : Tile)
  /-- SCALE (R251). The VU multiplies A by the W32 immediate s. -/
  | scale (p : Tile)
  /-- MAX (R250). The VU writes the larger of A and B elementwise. -/
  | max (p : Tile)
  /-- MIN (R250). The VU writes the smaller of A and B elementwise. -/
  | min (p : Tile)
  /-- EXP2 (R250). The VU writes the correctly rounded 2^A. -/
  | exp2 (p : Tile)
  /-- LOG2 (R250). The VU writes the correctly rounded log2 of A. -/
  | log2 (p : Tile)
  /-- RECIP (R250). The VU writes the correctly rounded reciprocal of A. -/
  | recip (p : Tile)
  /-- RSQRT (R250). The VU writes the correctly rounded reciprocal square root of A. -/
  | rsqrt (p : Tile)
  /-- RMSNORM (R251). The VU normalises each row by its root mean square, scales it by γ and keeps r. -/
  | rmsnorm (p : Tile)
  /-- RMSNORM_BWD (R251). The VU forms dx of RMSNORM and adds the dγ contribution into a slot. -/
  | rmsnormBwd (p : Tile) (rd : ReadOutcome := .clean)
  /-- SOFTMAX (R251). The VU writes the row softmax and keeps the row maximum and the sum of exponentials. -/
  | softmax (p : Tile)
  /-- SOFTMAX_BWD (R251). The VU forms the softmax gradient. -/
  | softmaxBwd (p : Tile)
  /-- XENT (R251). The VU forms the loss, log-sum-exp and the scaled dY, and writes a loss record. -/
  | xent (p : Tile)
  /-- SILU (R251). The VU forms x × σ(x). -/
  | silu (p : Tile)
  /-- SILU_BWD (R251). The VU forms the SILU gradient. -/
  | siluBwd (p : Tile)
  /-- DROP (R209). The VU keeps or drops each element by the mixing function and scales the kept elements by KEEP. -/
  | drop (p : Tile)
  /-- DROP_BWD (R209). The VU redraws the dropout mask and applies it to the gradient. -/
  | dropBwd (p : Tile)
  /-- SLOT_ADD (R582). The VU adds A, scaled to SLOT_G, into a gradient slot. -/
  | slotAdd (p : Tile) (rd : ReadOutcome)
  /-- SLOT_IDX_ADD (R582). The VU adds rows of A into the slot rows that an I32 index list names, in list order. -/
  | slotIdxAdd (p : Tile) (rd : ReadOutcome)
  /-- MAXMASK (R251). The VU writes the index of each row's first largest element and replaces that element by -infinity. -/
  | maxmask (p : Tile)
  /-- BINCOUNT (R251). The VU counts I32 indices into bins. -/
  | bincount (p : Tile)
  /-- UPD_MOM (R198). The VU applies the momentum update to a slice, writing the next W, M, forward tiles and, on LAST, the update record. -/
  | updMom (p : Tile)
  /-- UPD_ADA (R198). The VU applies the adaptive update to a slice, writing the next W, M, V, forward tiles and, on LAST, the update record. -/
  | updAda (p : Tile)
  /-- SHN_PERMUTE (R321). The shunter copies a permuted walk of up to five dimensions, leaving padding virtual. -/
  | shnPermute (p : Tile) (rd : ReadOutcome := .clean)
  /-- SHN_PERMUTE_PADMAT (R325). The shunter copies a permuted walk, writing PAD_BITS inside the ownership box and skipping elements outside it. -/
  | shnPermutePadmat (p : Tile) (rd : ReadOutcome := .clean)
  /-- SHN_GATHER (R328). The shunter copies source rows chosen by an index list. -/
  | shnGather (p : Tile) (rd : ReadOutcome := .clean)
  /-- SEND (R355). An XCH SEND waits for a matching CTS, converts its stream to WIRE_FMT and transmits DATA packets until every one is acknowledged. -/
  | send (p : Tile) (rd : ReadOutcome := .clean)
  /-- RECV_INTO (R357). An XCH RECV-INTO sends a CTS, delivers the received elements into a tensor or slot and writes its record. -/
  | recvInto (p : Tile)
  /-- REDUCE_INTO (R358). An XCH REDUCE-INTO sends its chunk contributions into the group's chain reduction and delivers the reduced chunks. -/
  | reduceInto (p : Tile) (rd : ReadOutcome := .clean)
  /-- SYN (R255). The control unit waits for earlier commands on the named units, then signals locally and optionally on a remote engine. -/
  | syn (p : Tile)
  /-- CHK (R256). The control unit runs a CVU over a byte range and compares the result with EXPECT. -/
  | chk (p : Tile)
  /-- MRK (R257). An MRK posts ENG_MARK with its payload to Dammel and may hold fetching until a semaphore count is reached. -/
  | mrk (p : Tile)
  /-- SHADOW_TILE (R126). The B-array recomputes a sampled output tile wide from the pre-image and reference weights, and the sieve compares it with the output. -/
  | shadowTile (p : Tile) (faults : List ArrayFault)
  /-- CHECK_GROUP_EVALUATION (R130). Once every FMM of a check group is written and every checked tile compared, the sieve evaluates the five tests and sets the VERDICT bits. -/
  | checkGroupEvaluation (p : Tile)
  /-- FALLBACK_RECOMPUTATION (R131). At a B-array boundary, an FMM's whole output is recomputed wide from the pre-image and written, and its record is written again. -/
  | fallbackRecomputation (p : Tile) (faults : List ArrayFault)
  /-- GRADIENT_RERUN (R140). The dX BMMs of a group queued again are re-run on the B-array with the new gradient exponent. -/
  | gradientRerun (p : Tile) (faults : List ArrayFault)
  /-- CHECK_SEMAPHORE_SIGNAL (R129). 96 cycles after the group's last write, comparison or fallback, and after earlier groups of its key, the check semaphore is signalled. -/
  | checkSemaphoreSignal (p : Tile)
  /-- DRIP_CORRECTION (R79). After every output block passes its checks, the VU adds the weight drip and activation drip corrections and converts once to the output format. -/
  | dripCorrection (p : Tile)
  /-- ADAPTER_ADDITION (R172). After the FMM's check semaphore is signalled, the VU adds the adapter output Y_a into the FMM's output. -/
  | adapterAddition (p : Tile) (y ya : BitVec 24) (rnd : BitVec 2) (fltNsat : Bool)
  /-- ENG_WATCHDOG (R240). The watchdog count reaches 1,024 × LIMIT without progress, and the queue halts. -/
  | engWatchdog (p : Tile)
  /-- ENG_CQ_FLUSH (R259). A write of 1 to ENG_CQ_CTRL.FLUSH stops fetching, discards unstarted commands and groups, and stops running commands at their next block boundary. -/
  | engCqFlush (p : Tile) (v : BitVec 32)
  /-- ENG_FLUSHED (R259). Once running commands have stopped, the flush sets every slot EMPTY, zeroes the semaphores and SEQ, releases holds, clears HALTED and raises ENG_FLUSHED. -/
  | engFlushed (p : Tile)
  /-- ENG_SEM_ADD (R270). A write adds INC to a semaphore, saturating with a halt at 65,535. -/
  | engSemAdd (p : Tile) (v : BitVec 32)
  /-- ENG_STEP_CTX_WRITE (R217). A write to ENG_STEP_CTX opens or closes a step; while OPEN reads 1 it changes only OPEN, and setting OPEN zeroes the semaphores and expected SEQ. -/
  | engStepCtxWrite (p : Tile) (v : BitVec 64)
  /-- ACB_CTRL_CLEAR (R181). A write of 1 to CLEAR sets every slot EMPTY unless a command is accessing a slot. -/
  | acbCtrlClear (p : Tile) (v : BitVec 32)
  /-- SIV_PRE_WIN_WRITE (R145). A write sets the pre-image window, and is ignored when SIZE or BASE + SIZE is out of range. -/
  | sivPreWinWrite (p : Tile) (v : BitVec 32)
  /-- ACB_SLOT_GEOM_WRITE (R183). A write sets a slot's geometry, and is ignored while the slot is not EMPTY. -/
  | acbSlotGeomWrite (p : Tile) (n : Fin 256) (v : BitVec 64)
  /-- REGISTER_WRITE (R9). A write to a register field without behaviour of its own acts by its access code (RW, W1C, W1S, RWS, RL). -/
  | registerWrite (r : RegId) (v : BitVec 64)
  /-- DRAM_READ (R281). A memory controller reads a 64 B line and compares its line check. -/
  | dramRead (a : BitVec 48) (src : MemSrc) (outcome : ReadOutcome) (copies : List (Nat × List Byte)) (row : List (Fin 32 × Bool) := [])
  /-- DRAM_WRITE (R280). A whole aligned line is written with a fresh line check. -/
  | dramWrite (a : BitVec 48) (src : MemSrc) (line : List Byte)
  /-- DRAM_PARTIAL_WRITE (R280). A write of part of a line is performed as one read-modify-write, or the line is written poisoned when it is hard-failed. -/
  | dramPartialWrite (a : BitVec 48) (src : MemSrc) (bytes : List Byte) (outcome : ReadOutcome) (copies : List (Nat × List Byte) := []) (row : List (Fin 32 × Bool) := [])
  /-- PATROL_SCRUB (R290). Every GAP memory cycles, the controller reads the next line of its stack and checks it. -/
  | patrolScrub (x : Die) (outcome : ReadOutcome) (copies : List (Nat × List Byte)) (row : List (Fin 32 × Bool) := [])
  /-- LARDER_ACCESS (R293). A larder bank grants a requester a line under the arbitration order and checks each word's check byte. -/
  | larderAccess (p : Tile) (reqs : List LarderReq) (outcome : ReadOutcome) (copies : List (Nat × List Byte) := [])
  /-- LARDER_PARTIAL_WRITE (R295). A write of part of a word is performed as a read-modify-write within the bank, or writes the word poisoned. -/
  | larderPartialWrite (p : Tile) (req : Fin 7) (a : BitVec 25) (bytes : List Byte) (outcome : ReadOutcome) (copies : List (Nat × List Byte) := [])
  /-- ACB_FABRIC_WRITE (R297). A fabric write to the accumulator buffer is discarded while OPEN = 1 and performed otherwise. -/
  | acbFabricWrite (p : Tile) (a : BitVec 23) (bytes : List Byte)
  /-- STACK_FAILOVER (R292). Dammel declares a stack failed, aborts the step, activates the remap on every die and recovers the stack's regions. -/
  | stackFailover (f : Die) (copies : List (Nat × List Byte)) (reported : Bool := true)
  /-- PORT_TRAINING (R338). All lanes of a port train, exchange lane-identity sequences and form the lane map, after which the port comes up or fails. -/
  | portTraining (c : Die) (r : TrainResult)
  /-- CPL_CTRL_RETRAIN (R339). A write of 1 to RETRAIN trains the port again from the start. -/
  | cplCtrlRetrain (c : Die) (v : BitVec 32)
  /-- CPL_CTRL_ENABLE (R371). A write of 0 to ENABLE turns the lanes OFF and takes the port DOWN. -/
  | cplCtrlEnable (c : Die) (v : BitVec 32)
  /-- LANE_LOSS_OF_LOCK (R340). A receiver loses signal or symbol lock on an ACTIVE lane and requests its replacement. -/
  | laneLossOfLock (c : Die) (lane : Fin 9)
  /-- SER_WINDOW_EXPIRY (R340). At the end of a 2^24-cycle window, corrected-symbol and uncorrectable-codeword counts are judged and may trigger a lane replacement. -/
  | serWindowExpiry (c : Die) (counts : List (Nat × Nat)) (uncorr : Nat)
  /-- LANE_SWAP (R340). A LANE_SWAP link-control flit agrees a codeword boundary at which the logical lane moves to the STANDBY lane. -/
  | laneSwap (c : Die)
  /-- LANE_RETRAIN (R341). Retraining of a lane completes, making it STANDBY, or after three failures FAILED. -/
  | laneRetrain (c : Die) (lane : Fin 9) (ok : Bool)
  /-- ALIGNMENT_CODEWORD (R335). Every 16,384 codewords, the port sends an alignment codeword in place of a flit-bearing one. -/
  | alignmentCodeword (c : Die)
  /-- FLIT_RECEIVE (R343). A receiver accepts a flit with matching FCRC and expected FSEQ, or sets NAK, or drops a duplicate. -/
  | flitReceive (c : Die) (f : Flit) (cw : Codeword := .clean)
  /-- FLIT_TRANSMIT (R345). At each flit slot, the sender chooses a VC with a credit in priority order and transmits a flit. -/
  | flitTransmit (c : Die)
  /-- FLIT_ACK (R343). A receiver sends an acknowledgement after 16 data flits or 64 coupler cycles. -/
  | flitAck (c : Die)
  /-- CREDIT_RETURN (R344). Link-control flits return cumulative credits at least every 64 coupler cycles while credits are owed. -/
  | creditReturn (c : Die)
  /-- DATA (R357). A DATA packet for this rank passes the receive checks and its elements are delivered into the RECV-INTO stream. -/
  | data (c : Die) (pk : Packet) (rd : ReadOutcome := .clean)
  /-- CTS (R355). A CTS is matched with a running SEND or held in the 64-entry table. -/
  | cts (c : Die) (pk : Packet) (rd : ReadOutcome := .clean)
  /-- E2E_ACK (R363). An end-to-end acknowledgement releases packets up to PSEQ, and a SEND completes when all are acknowledged. -/
  | e2eAck (c : Die) (pk : Packet)
  /-- PARTIAL (R359). A reduction unit adds its member's contribution to a partial sum and re-narrows and forwards it, or keeps it as the chunk owner. -/
  | partialSum (c : Die) (pk : Packet) (rd : ReadOutcome := .clean)
  /-- RESULT (R360). A member delivers a re-narrowed chunk RESULT and forwards it unchanged, except at position q - 1. -/
  | result (c : Die) (pk : Packet)
  /-- ABORT (R365). An ABORT packet ends the matching XCH with CPL_XCH_ABORTED and halts the queue. -/
  | abort (c : Die) (pk : Packet)
  /-- PACKET_FORWARD (R352). A packet for another rank is forwarded on a port of that rank's route entry, or dropped when no route exists. -/
  | packetForward (c : Die) (pk : Packet) (rd : ReadOutcome := .clean)
  /-- TENDER_STREAM (R409). A partner accepts tender DATA packets from its ward into the tender buffer other than TBUF. -/
  | tenderStream (c : Die) (pk : Packet)
  /-- E2E_TIMEOUT (R363). A stream makes no acknowledged progress for its timeout, its unacknowledged packets are resent, and after RETRIES the XCH fails. -/
  | e2eTimeout (p : Tile) (k : Nat)
  /-- RDU_TIMEOUT (R363). A forwarded reduction packet exhausts its resends and the reduction fails. -/
  | rduTimeout (c : Die) (k : Nat)
  /-- CPL_XCH_STALL (R365). An XCH sends or receives no packet within STALL and fails. -/
  | cplXchStall (p : Tile) (k : Nat)
  /-- CTS_RESEND (R355). A RECV-INTO sends its CTS again every E2E cycles until the first DATA arrives. -/
  | ctsResend (p : Tile) (k : Nat)
  /-- HEARTBEAT (R388). An accepted HEARTBEAT restarts the sender's heartbeat counter at the manager. -/
  | heartbeat (m : Mgmt)
  /-- HEARTBEAT_SEND (R388). Every PERIOD service cycles, a rank sends HEARTBEAT to the manager and the standby, and the manager to every rank. -/
  | heartbeatSend
  /-- HEARTBEAT_TIMEOUT (R388). A rank's counter reaches TIMEOUT, and the manager declares the rank FAILED, aborts the step and fences it. -/
  | heartbeatTimeout (r : Rank)
  /-- READY_WAIT_EXPIRY (R389). A member misses READY(n) for READY_WAIT and is declared FAILED with SVC_READY_LATE. -/
  | readyWaitExpiry (r : Rank)
  /-- STEP_CLOSE (R409). Once the last update and every tender packet are acknowledged, the rank sends READY(n) with its sums. -/
  | stepClose
  /-- FALLBACK_STORM (R136). At the end of forward work, Dammel sums the fallback counts and raises SIV_FALLBACK_STORM and a trigger when the share is too high. -/
  | fallbackStorm
  /-- READY (R391). The manager collects READY(n), and when all have arrived applies the storm test and sends COMMIT(n) to the standby. -/
  | ready (m : Mgmt)
  /-- COMMIT (R391). A rank applies COMMIT(n): it clears OPEN, inverts CBUF and TBUF, sets the committed step, applies the pin decision and replies COMMITTED. -/
  | commit (m : Mgmt)
  /-- COMMITTED (R391). The manager records COMMITTED(n), and after the standby's reply sends COMMIT to the other ranks. -/
  | committed (m : Mgmt)
  /-- START (R390). START(n) with an accepted RUN_STEP opens step n on every engine. -/
  | start (m : Mgmt)
  /-- ABORT_STEP_MESSAGE (R412). A rank receiving ABORT_STEP(n) flushes every engine, voids the next buffer and arms the repetition when REPEAT is 1. -/
  | abortStepMessage (m : Mgmt) (copies : List (Nat × List Byte))
  /-- FAULT (R411). The manager acts on a FAULT's event code: abort, repeat, replacement, recovery or job fault. -/
  | fault (m : Mgmt)
  /-- PUBLISH (R387). A recipient stages new epochs, rank-map, group and route values, holding them until its open step closes, and replies STAGED. -/
  | publish (m : Mgmt)
  /-- STAGED (R387). The manager records a STAGED reply and proceeds with the publish or fence once all have answered. -/
  | staged (m : Mgmt)
  /-- ACTIVATE (R387). A recipient writes its staged CPL_GROUP and CPL_ROUTE values on all base dies in one pass and sets POD_EPOCH. -/
  | activate (m : Mgmt)
  /-- FENCE_PORT (R393). A neighbour disables the ports facing a fenced device and replies STAGED. -/
  | fencePort (m : Mgmt)
  /-- FENCE_PUBLISH_TIMEOUT (R393). 50 ms after a declaration, the manager publishes the replacement even if some neighbours have not answered. -/
  | fencePublishTimeout (r : Rank)
  /-- MESSAGE_RESEND (R386). Every 20 ms, Dammel resends a management message, or ACTIVATE, that has no reply yet. -/
  | messageResend
  /-- ISOLATION_TIMEOUT (R394). A device that has accepted no manager or standby packet for twice TIMEOUT flushes its engines and becomes ISOLATED. -/
  | isolationTimeout
  /-- STANDBY_TIMEOUT (R400). The standby, having accepted no manager packet for TIMEOUT, sends TAKEOVER_QUERY to every rank. -/
  | standbyTimeout
  /-- TAKEOVER_QUERY (R400). A rank answers with TAKEOVER_VOTE. -/
  | takeoverQuery (m : Mgmt) (silent : Bool)
  /-- TAKEOVER_VOTE (R400). The standby records a vote. -/
  | takeoverVote (m : Mgmt)
  /-- TAKEOVER_VOTE_WINDOW (R401). At the end of the 100 ms vote window, the standby takes over with a majority or raises SVC_TAKEOVER_REFUSED. -/
  | takeoverVoteWindow
  /-- TAKEOVER_RETRY (R400). 200 ms after a refused takeover, the standby asks again. -/
  | takeoverRetry
  /-- TRIGGER_MESSAGE (R494). A receiver fires a local trigger of the message's class with source REMOTE. -/
  | triggerMessage (m : Mgmt)
  /-- HOST_CMD (R466). A worker executes a forwarded command in its forwarding queue and replies with HOST_CPL. -/
  | hostCmd (m : Mgmt)
  /-- HOST_CPL (R466). The manager writes a forwarded completion or event into the issuing queue. -/
  | hostCpl (m : Mgmt)
  /-- FORWARD_TIMEOUT (R466). A forwarded command with no HOST_CPL within TIMEOUT completes with RANK_UNREACHABLE. -/
  | forwardTimeout (tag : BitVec 32)
  /-- TILE_REPLACEMENT (R417). Between abort and repetition, Dammel maps the logical engine onto the spare tile, rewrites window fields and reloads its larder. -/
  | tileReplacement (l : Eng) (copies : List (Nat × List Byte))
  /-- MODULE_REFILL (R418). The partner and the ward stream committed state and program images into the replacement, which then sends COMMITTED. -/
  | moduleRefill (r : Rank) (inp : RefillIn)
  /-- FLASH_INTERVAL (R420). After FLASH_MIN minutes, at the next boundary, the manager withholds START and sends CHECKPOINT to every rank. -/
  | flashInterval (failing : List Nat)
  /-- STORE_INTERVAL (R424). After STORE_MIN minutes, the manager takes a generation, pins it once pod-complete and raises SVC_EXPORT_READY. -/
  | storeInterval
  /-- LIVENESS_WRITE (R416). Every 1 ms, the active service complex writes its liveness count into the standby complex's memory. -/
  | livenessWrite
  /-- SVC_COMPLEX_SWITCH (R416). The liveness count stays unchanged for 300 ms, and the standby complex holds the active one in reset and resumes Dammel from the handover record. -/
  | svcComplexSwitch
  /-- DEVICE_INFO (R456). Dammel returns the device ID, the active boot image and the firmware version. -/
  | deviceInfo (who : Issuer) (tag : BitVec 32) (out : DmaOut)
  /-- QP_CREATE (R450). Dammel creates a queue pair of three host rings. -/
  | qpCreate (who : Issuer) (tag : BitVec 32)
  /-- QP_DESTROY (R456). Dammel destroys a queue pair. -/
  | qpDestroy (who : Issuer) (tag : BitVec 32)
  /-- GET_STATE (R456). Dammel returns SVC_ROLE, the committed step, OPEN and ARMED. -/
  | getState (who : Issuer) (tag : BitVec 32)
  /-- SET_CONFIG (R456). Dammel sets a configuration key and returns its previous value. -/
  | setConfig (who : Issuer) (tag : BitVec 32)
  /-- POD_FORM (R379). The host forms a pod from a rank map and names the manager, the standby and the standby order. -/
  | podForm (who : Issuer) (tag : BitVec 32) (inp : PodIn)
  /-- POD_ADMIT (R533). The manager checks a device's certificates and attestation, and admits it as JOINING and then SPARE. -/
  | podAdmit (who : Issuer) (tag : BitVec 32) (inp : AdmitIn)
  /-- POD_REMOVE (R397). The manager drains a rank and copies it into a spare at the step boundary. -/
  | podRemove (who : Issuer) (tag : BitVec 32)
  /-- GROUP_PLAN (R382). The manager loads the communication group table and publishes the derived entries. -/
  | groupPlan (who : Issuer) (tag : BitVec 32) (inp : DmaIn)
  /-- PROGRAM_LOAD (R456). Dammel loads a Traed program and a job seed and sets the committed step to 0. -/
  | programLoad (who : Issuer) (tag : BitVec 32) (inp : ProgramIn)
  /-- TENSOR_BIND (R456). Dammel writes the tensor, slot and region tables and the tender placement after checking them against the budget. -/
  | tensorBind (who : Issuer) (tag : BitVec 32) (inp : BindIn)
  /-- TENSOR_WRITE (R459). Dammel writes host bytes to a device address, refusing protected region classes. -/
  | tensorWrite (who : Issuer) (tag : BitVec 32) (inp : DmaIn)
  /-- TENSOR_READ (R459). Dammel reads device bytes into host buffers. -/
  | tensorRead (who : Issuer) (tag : BitVec 32) (out : DmaOut)
  /-- STATE_INIT (R460). Dammel writes a rank's initial committed state into CBUF and streams it to the partner's TBUF. -/
  | stateInit (who : Issuer) (tag : BitVec 32) (inp : DmaIn)
  /-- RUN_STEP (R457). Dammel accepts and arms step n, and completes it once on commit, job fault, abort or stop. -/
  | runStep (who : Issuer) (tag : BitVec 32)
  /-- ABORT_STEP (R458). The host's ABORT_STEP on the manager aborts the open step without repetition. -/
  | abortStep (who : Issuer) (tag : BitVec 32)
  /-- INPUT_CONFIRM (R412). The host confirms the rewrite of lost input bytes so that the repetition may start. -/
  | inputConfirm (who : Issuer) (tag : BitVec 32)
  /-- CHECKPOINT (R421). A rank writes its committed buffer to flash as a generation, reads it back, checks it and replies. -/
  | checkpoint (who : Issuer) (tag : BitVec 32) (good : Bool)
  /-- RESTORE (R431). Every rank checks the restore preconditions, writes a generation into CBUF, streams it to the partner and sets c. -/
  | restore (who : Issuer) (tag : BitVec 32) (foreign : List Byte)
  /-- STORE_BLOCKS (R456). Dammel takes generation blocks or a rank manifest from host buffers for an outcome-3 restore. -/
  | storeBlocks (who : Issuer) (tag : BitVec 32) (inp : DmaIn)
  /-- EXPORT (R424). Dammel writes a block or a manifest of a pinned generation into host buffers. -/
  | exportGen (who : Issuer) (tag : BitVec 32) (out : DmaOut)
  /-- EXPORT_RELEASE (R424). The manager releases a generation pinned for export. -/
  | exportRelease (who : Issuer) (tag : BitVec 32)
  /-- COUNTER_READ (R499). Dammel samples and writes the selected counter banks and tables of one or all tiles. -/
  | counterRead (who : Issuer) (tag : BitVec 32) (out : DmaOut)
  /-- TRACE_READ (R491). Dammel writes a die's trace records, oldest first, optionally freezing and rearming the trace. -/
  | traceRead (who : Issuer) (tag : BitVec 32) (out : DmaOut)
  /-- SNAPSHOT_READ (R497). Dammel writes the held snapshot image and optionally releases it. -/
  | snapshotRead (who : Issuer) (tag : BitVec 32) (out : DmaOut)
  /-- TRIGGER (R499). The host fires a MARK or CAPTURE trigger, optionally pod-wide and on the trigger-out pin. -/
  | trigger (who : Issuer) (tag : BitVec 32)
  /-- FW_UPDATE (R530). Dammel checks a received image, writes it to the named non-running image, reads it back and checks it again. -/
  | fwUpdate (who : Issuer) (tag : BitVec 32) (inp : DmaIn) (good : Bool)
  /-- FW_ACTIVATE (R556). Dammel loads and checks the named image, and waits for the handover boundary. -/
  | fwActivate (who : Issuer) (tag : BitVec 32)
  /-- HANDOVER (R557). At the boundary, the running image writes the handover record and jumps to the new image, which resumes from it. -/
  | handover (ok : Bool)
  /-- PWR_HANDOVER_REVERTED (R559). The new image rejects the record or misses READY within 50,000,000 cycles, and the old image resumes. -/
  | pwrHandoverReverted
  /-- ATTEST (R535). Dammel writes a signed 256 B attestation report over the given nonce. -/
  | attest (who : Issuer) (tag : BitVec 32) (out : DmaOut)
  /-- CERT_READ (R536). Dammel writes the DER bytes of a device or intermediate certificate. -/
  | certRead (who : Issuer) (tag : BitVec 32) (out : DmaOut)
  /-- OWNER_ENROL (R532). Dammel checks the owner key and both images and burns OWNER_KEY_HASH in both complexes. -/
  | ownerEnrol (who : Issuer) (tag : BitVec 32) (body : List Byte)
  /-- DEBUG_UNLOCK (R538). Phase 0 draws a challenge; phase 1 checks the owner's signed answer and opens the debug port for the scopes given. -/
  | debugUnlock (who : Issuer) (tag : BitVec 32) (late : Bool)
  /-- SEC_DEBUG_CLOSED (R539). The debug port closes at the end of DURATION. -/
  | secDebugClosed
  /-- SEC_DEBUG_CLOSE (R539). A write of 1 to SEC_DEBUG.CLOSE closes the debug port at once. -/
  | secDebugClose (v : BitVec 64)
  /-- EXTEST (R537). Entering boundary-scan EXTEST stops couplers and host traffic and sets BSCAN. -/
  | extest
  /-- MBX_BOOT_DOORBELL (R455). A write of 1 to DOORBELL executes the bootstrap inbound command and writes its completion. -/
  | mbxBootDoorbell (v : BitVec 32) (inbound : List Byte) (out : DmaOut)
  /-- CMD_TAIL (R451). A CMD_TAIL doorbell lets Dammel read and start commands of that queue pair. -/
  | cmdTail (q : Fin 64) (tail : BitVec 32) (entries : List (List Byte)) (readable : Bool)
  /-- CPL_HEAD (R448). A CPL_HEAD doorbell frees completion entries. -/
  | cplHead (q : Fin 64) (head : BitVec 32)
  /-- EVT_HEAD (R453). An EVT_HEAD doorbell frees event entries. -/
  | evtHead (q : Fin 64) (head : BitVec 32)
  /-- MSIX_COALESCE_TIMEOUT (R464). COAL_TIME after a ring's first unsignalled entry, the ring's MSI-X vector fires. -/
  | msixCoalesceTimeout (q : Fin 64) (evt : Bool)
  /-- MBX_APERTURE_WRITE (R444). A write moves the BAR2 aperture base for later TLPs. -/
  | mbxApertureWrite (v : BitVec 64)
  /-- MBX_HOST_ALIVE_WRITE (R471). Any write restarts the host watchdog. -/
  | mbxHostAliveWrite (v : BitVec 32)
  /-- BAR2_READ (R444). A host read through the aperture reaches DRAM or larder bytes, or returns zeros for masked ranges. -/
  | bar2Read (off : BitVec 36) (len : Nat)
  /-- BAR2_WRITE (R444). A host write through the aperture reaches DRAM or larder bytes, or is dropped for masked ranges. -/
  | bar2Write (off : BitVec 36) (bytes : List Byte)
  /-- CONFIGURATION_REQUEST (R440). The function answers a PCIe configuration request without retry status. -/
  | configurationRequest (reg : BitVec 12) (write : Option (BitVec 32))
  /-- MBX_FLR (R441). A function-level reset destroys queue pairs and resets the mailbox, aperture and MSI-X table, leaving training untouched. -/
  | mbxFlr
  /-- D3HOT_ENTRY (R441). Entry to D3hot disables BAR decoding and DMA. -/
  | d3hotEntry
  /-- MBX_HOST_LOST (R465). After LOST_MS of link down or D3hot, or when the host watchdog expires, the host link counts as lost and events go to the manager. -/
  | mbxHostLost
  /-- PWR_FUND_RESET (R553). A PCIe fundamental reset restarts the endpoint and the service processor, and Dammel resumes from its resident image. -/
  | pwrFundReset
  /-- POWER_ON (R555). From turn-on, the rails ramp, the ROM checks and starts an image, the stacks and tiles come up and MBX_STATE becomes READY. -/
  | powerOn (failing : List Nat)
  /-- PWR_TILE_CTRL_RESET (R554). A write of 1 to bit t of RESET flushes the tile if it is busy and resets it. -/
  | pwrTileCtrlReset (d : Die) (v : BitVec 32)
  /-- PWR_TILE_RESET (R554). The per-tile reset completes, and the tile runs its self-test when SELFTEST is 1. -/
  | pwrTileReset (p : Tile) (pass : Bool)
  /-- PWR_CAP_WRITE (R560). A write sets the power cap, taking effect at the next sample, and is ignored for values out of range. -/
  | pwrCapWrite (v : BitVec 32)
  /-- POWER_SAMPLE (R546). Every 100 µs, the controller averages input power and moves the arithmetic clock step down or up. -/
  | powerSample (watts : Nat) (dv : Nat)
  /-- THERMAL_SAMPLE (R547). Every 100 µs, die temperatures are judged against the 100 °C limit and the 115 °C trip. -/
  | thermalSample (temps : List Nat)
  /-- PWR_INPUT_FAIL (R543). The input stays below 42 V for 1 ms, FAULT is sent and the rails turn off. -/
  | pwrInputFail
  /-- PWR_INPUT_LOW (R543). The input falls below 46 V, and the arithmetic clock is held at the 50 % step. -/
  | pwrInputLow (dv : Nat)
  /-- INPUT_LOW_RELEASE (R543). The input has stayed above 47 V for 100 ms, and the hold ends. -/
  | inputLowRelease (dv : Nat)
  /-- PWR_INPUT_HIGH (R543). The input rises above 60 V, and the module runs unchanged. -/
  | pwrInputHigh (dv : Nat)
  /-- INPUT_OVER_VOLTAGE (R543). Above 66 V the input is disconnected, and the module turns on again below 64 V. -/
  | inputOverVoltage (dv : Nat)
  /-- INPUT_REVERSED (R543). Reversed input is blocked and a fault flag latches in the input stage. -/
  | inputReversed (dv : Nat)
  /-- PRESENT_OPEN (R571). PRESENT opens while running, and the stage acts as on an input failure. -/
  | presentOpen
  /-- PWR_PLL_UNLOCK (R551). A PLL loses lock: an engine die fails all its tiles, a memory PLL fails its stack, and a service PLL stops its complex. -/
  | pwrPllUnlock (w : PllWhich)
  /-- COOLANT_SAMPLE (R568). Every 100 µs, the controller reads the coolant sensors, judges them and sets or lifts step floors. -/
  | coolantSample (x : Coolant)
  /-- PWR_LEAK_OFF (R569). 60 s after PWR_LEAK with the sensor still wet, the rails turn off and FAULT is sent. -/
  | pwrLeakOff (wet : Bool)
  /-- TRIG_IN_EDGE (R492). A rising edge on trigger-in held for 16 service cycles fires a trigger, unless it is an echo. -/
  | trigInEdge (sinceOut : Option Nat)
  /-- SNP_TRIG_IN_STUCK (R495). Trigger-in held asserted for 10,000,000 cycles is ignored as stuck. -/
  | snpTrigInStuck
  /-- TRIG_IN_RELEASE (R495). Trigger-in has read deasserted for 10,000,000 cycles, and is used again. -/
  | trigInRelease
  /-- TRIG_OUT_PULSE_END (R495). 1,000 service cycles after a CAPTURE trigger, the trigger-out drive ends. -/
  | trigOutPulseEnd
  /-- SNP_TRIG_OUT_FAULT (R495). Trigger-out read-back disagrees for 16 cycles, and the driver switches off. -/
  | snpTrigOutFault
  /-- BEACON (R492). BEACON_MS after the previous beacon, a beacon trigger fires. -/
  | beacon
  /-- CNT_CTRL_CLEAR (R480). A write clears the cumulative bank and per-layer table of the selected tiles. -/
  | cntCtrlClear (d : Die) (v : BitVec 32)
  /-- CNT_BASE_CLEAR (R485). A write of 1 clears the base die's counters. -/
  | cntBaseClear (x : Die) (v : BitVec 32)
  /-- TRC_CTRL_ARM (R489). A write of 1 to ARM, or a change of MODE, empties and rearms the trace. -/
  | trcCtrlArm (d : Die) (v : BitVec 32)
  /-- SMBUS_STUCK (R576). A line low for 35 ms is released by resetting the target and clocking out, or marked stuck after three attempts. -/
  | smbusStuck (sda scl : Bool) (freed : Bool)
  /-- SMBUS_RETRY (R576). Every 1 s while a line is stuck, the recovery is tried again. -/
  | smbusRetry (freed : Bool)
  /-- FLASH_CHANNEL_FAILURE (R415). A flash channel fails, and the write rate falls in proportion to the working channels. -/
  | flashChannelFailure (x : Die) (ch : Fin 8)
  /-- MSIX_UNMASK (R464). A host write that unmasks an MSI-X vector whose pending bit is set fires that vector and clears the pending bit. -/
  | msixUnmask (v : Fin 256)
  /-- PCIE_LINK_DOWN (R465). The PCIe link goes down, and the device starts counting LOST_MS towards treating its host link as lost. -/
  | pcieLinkDown
  deriving DecidableEq, Repr

end Sys2Proof
end

