-- ==== Sys2Proof/Config.lean ====
section
/-! DEFINITION. What an implementation fixes and what the manual leaves open: opaque constants, so that no proof can
see a value (log 1, log 3). -/

namespace Sys2Proof.Config

/-- A value the manual leaves open, drawn fresh each time it is needed: `k` is the model's own counter `Dev.free`
(DESIGN CHOICE, log 1). -/
opaque freeNat : Nat → Nat
/-- The same, 32 bits wide: a result in W32 that the manual does not state (log 1). -/
opaque freeW32 : Nat → BitVec 32
/-- A correctly rounded 2^x whose rounding the model's enclosure does not decide, by the argument x (R250, log 9). -/
opaque openExp2 : Rat → BitVec 32
/-- The same for log2 x (log 9). -/
opaque openLog2 : Rat → BitVec 32
/-- The logit that XENT takes for a label that names none of the row, by the row's codes and the label (R251, log 13). -/
opaque outsideLogit : List Nat → Int → BitVec 32
/-- The place of MAXMASK's largest element in a row that holds a NaN, by the row's codes (R251, log 13). -/
opaque nanLargest : List Nat → Nat
/-- The same, one bit: a choice that only another agent or the silicon makes (log 1). -/
opaque freeBool : Nat → Bool
/-- The detail bytes of an event entry, "event-specific detail" (R453, log 1). -/
opaque eventDetail : Nat → BitVec 128
/-- DEVICE_ID in the fuse block, programmed at manufacture (R522, log 3). -/
opaque deviceId : BitVec 64
/-- VENDOR_KEY_HASH in the fuse block (R522, log 3). -/
opaque vendorKeyHash : BitVec 256
/-- IDENTITY_KEY of the complex on base die 0 (false) and on base die 15 (true), drawn at manufacture (R524, log 3). -/
opaque identityKey : Bool → BitVec 256
/-- The firmware images that the module leaves the factory with, A (false) and B (true) (R528, log 3). -/
opaque factoryImage : Bool → List Byte
/-- The DER bytes of a certificate in the boot flash's certificate area: 0 device certificate of base die 0, 1 of base
die 15, 2 the vendor intermediate certificate (R524, R536, log 3). -/
opaque certificate : Nat → List Byte
/-- The 128-bit challenge of DEBUG_UNLOCK, drawn from the true random number generator (R538, log 1). -/
opaque trngChallenge : Nat → BitVec 128
/-- The bytes that DEVICE_INFO writes into its OUT list: the manual names no layout for them (R456, log 1). -/
opaque deviceInfoBytes : Nat → List Byte
/-- The contents of a PCIe configuration register other than Vendor ID, Device ID and class code, which the PCIe
standard fixes and the manual does not (R440, log 1). -/
opaque pcieConfig : Nat → BitVec 32
/-- What a flash reads back after a write that it did not keep (R530, log 1). -/
opaque damagedImage : Nat → List Byte

end Sys2Proof.Config
end

