-- ==== Sys2Proof/Machine/Numbers.lean ====
section
/-! DEFINITION. Number formats, exact values and rounding (R35–R50): every conversion forms its exact value as a
rational number and rounds once. -/

namespace Sys2Proof.Machine

/-- The formats of R35, in the order of their 4-bit codes. -/
inductive Fmt where
  | Q1 | Q2 | Q4 | I8 | U8 | E8 | G16 | W32 | I32
  deriving DecidableEq, Repr

/-- The 4-bit format code (R35); codes 0x9–0xF name no format (R36). -/
def Fmt.ofCode : Nat → Option Fmt
  | 0 => some .Q1 | 1 => some .Q2 | 2 => some .Q4 | 3 => some .I8 | 4 => some .U8
  | 5 => some .E8 | 6 => some .G16 | 7 => some .W32 | 8 => some .I32 | _ => none

/-- The inverse of `Fmt.ofCode` (R35). -/
def Fmt.code : Fmt → Nat
  | .Q1 => 0 | .Q2 => 1 | .Q4 => 2 | .I8 => 3 | .U8 => 4 | .E8 => 5 | .G16 => 6 | .W32 => 7 | .I32 => 8

/-- Width in bits (R35). -/
def Fmt.bits : Fmt → Nat
  | .Q1 => 1 | .Q2 => 2 | .Q4 => 4 | .I8 => 8 | .U8 => 8 | .E8 => 8 | .G16 => 16 | .W32 => 32 | .I32 => 32

/-- Bytes per element of a row layout (R307); packed Q formats have none of their own. -/
def Fmt.bytes (f : Fmt) : Nat := (f.bits + 7) / 8

/-- A weight-code format (R39). -/
def Fmt.isQ : Fmt → Bool
  | .Q1 | .Q2 | .Q4 => true
  | _ => false

/-- The rounding modes of R37; `up` is the rounding toward +infinity of row scales (R111), which no field selects. -/
inductive Rnd where
  | rne | rtz | sr | up
  deriving DecidableEq, Repr

/-- The 2-bit rounding field (R37); 0b11 is rejected (R36). -/
def Rnd.ofCode : Nat → Option Rnd
  | 0 => some .rne | 1 => some .rtz | 2 => some .sr | _ => none

/-- An exact value: a signed magnitude (so that −0 is kept), an infinity or NaN (R42, R43). -/
inductive XR where
  | fin (neg : Bool) (mag : Rat)
  | inf (neg : Bool)
  | nan
  deriving DecidableEq, Repr

/-- 2^e as a rational number. -/
def pow2 (e : Int) : Rat :=
  if 0 ≤ e then ((2 ^ e.toNat : Nat) : Rat) else mkRat 1 (2 ^ (-e).toNat)

/-- ⌊log2 q⌋ of a positive rational. -/
def floorLog2 (q : Rat) : Int :=
  let e : Int := (Nat.log2 q.num.toNat : Int) - (Nat.log2 q.den : Int)
  if q < pow2 e then e - 1 else e

/-- ⌈log2 q⌉ of a positive rational. -/
def ceilLog2 (q : Rat) : Int :=
  let e := floorLog2 q
  if q = pow2 e then e else e + 1

def XR.zero : XR := .fin false 0
def XR.one : XR := .fin false 1

/-- The value of a finite number as a rational; 0 of the others. -/
def XR.val : XR → Rat
  | .fin true m => -m
  | .fin false m => m
  | _ => 0

/-- A rational as an exact value; zero is +0. -/
def XR.ofRat (q : Rat) : XR := if q < 0 then .fin true (-q) else .fin false q
def XR.ofInt (i : Int) : XR := .ofRat (i : Rat)

def XR.isFin : XR → Bool
  | .fin _ _ => true
  | _ => false
def XR.isNan : XR → Bool
  | .nan => true
  | _ => false
def XR.isZero : XR → Bool
  | .fin _ m => m == 0
  | _ => false
/-- The sign bit; NaN has none. -/
def XR.sign : XR → Bool
  | .fin n _ => n
  | .inf n => n
  | .nan => false
def XR.neg : XR → XR
  | .fin n m => .fin (!n) m
  | .inf n => .inf (!n)
  | .nan => .nan
def XR.abs : XR → XR
  | .fin _ m => .fin false m
  | .inf _ => .inf false
  | .nan => .nan

/-- The exact sum; a sum of zero is −0 only when both terms are (R43, IEEE 754). -/
def XR.add : XR → XR → XR
  | .nan, _ => .nan
  | _, .nan => .nan
  | .inf a, .inf b => if a = b then .inf a else .nan
  | .inf a, _ => .inf a
  | _, .inf b => .inf b
  | .fin a x, .fin b y =>
    let v := XR.val (.fin a x) + XR.val (.fin b y)
    if v = 0 then .fin (a && b) 0 else .ofRat v
def XR.sub (a b : XR) : XR := a.add b.neg
/-- The exact product; an infinity times zero is NaN (R154). -/
def XR.mul : XR → XR → XR
  | .nan, _ => .nan
  | _, .nan => .nan
  | .inf a, .inf b => .inf (a != b)
  | .inf a, .fin b y => if y = 0 then .nan else .inf (a != b)
  | .fin a x, .inf b => if x = 0 then .nan else .inf (a != b)
  | .fin a x, .fin b y => .fin (a != b) (x * y)
/-- The exact quotient; x ÷ 0 is an infinity, 0 ÷ 0 NaN (IEEE 754, as RECIP of ±0 in R250). -/
def XR.div : XR → XR → XR
  | .nan, _ => .nan
  | _, .nan => .nan
  | .inf _, .inf _ => .nan
  | .inf a, .fin b _ => .inf (a != b)
  | .fin a _, .inf b => .fin (a != b) 0
  | .fin a x, .fin b y =>
    if y = 0 then (if x = 0 then .nan else .inf (a != b)) else .fin (a != b) (x / y)

/-- a < b of two values that are not NaN; −0 and +0 are equal (R42). -/
def XR.lt : XR → XR → Bool
  | .nan, _ => false
  | _, .nan => false
  | .inf a, .inf b => a && !b
  | .inf a, _ => a
  | _, .inf b => !b
  | a, b => decide (a.val < b.val)
def XR.eq (a b : XR) : Bool := !a.isNan && !b.isNan && !a.lt b && !b.lt a

/-- The rounded integer nearest m ÷ 2^e under a rounding mode acting on the magnitude (R45, R46): `r` holds the 16
random bits of SR. -/
def roundMag (rnd : Rnd) (r : Nat) (m : Rat) (e : Int) : Nat :=
  let x := m * pow2 (-e)
  let n := x.num.toNat
  let fl := n / x.den
  let rem := n % x.den
  match rnd with
  | .rne => if 2 * rem < x.den then fl else if 2 * rem > x.den then fl + 1 else fl + fl % 2
  | .rtz => fl
  | .sr => if rem * 65536 / x.den + r ≥ 65536 then fl + 1 else fl
  | .up => if rem = 0 then fl else fl + 1

/-- A binary floating format: fraction bits, exponent of the smallest normal value, bias, largest finite magnitude. -/
structure FloatFmt where
  mb : Nat
  emin : Int
  bias : Int
  max : Rat
  deriving DecidableEq, Repr

def e8F : FloatFmt := ⟨3, -6, 7, 480⟩
def g16F : FloatFmt := ⟨8, -62, 63, pow2 64 - pow2 55⟩
def w32F : FloatFmt := ⟨23, -126, 127, pow2 128 - pow2 104⟩

/-- The magnitude rounded with an unbounded exponent (R44, R47); the subnormal step is the least (R46). -/
def FloatFmt.round (f : FloatFmt) (rnd : Rnd) (r : Nat) (m : Rat) : Rat :=
  if m = 0 then 0
  else
    let lsb := Max.max (floorLog2 m) f.emin - f.mb
    (roundMag rnd r m lsb : Rat) * pow2 lsb

/-- The exponent and fraction fields of a magnitude that the format represents. -/
def FloatFmt.encode (f : FloatFmt) (m : Rat) : Nat :=
  if m = 0 then 0
  else
    let e := floorLog2 m
    if e < f.emin then (m * pow2 (f.mb - f.emin)).num.toNat
    else
      let n := (m * pow2 (f.mb - e)).num.toNat
      (e + f.bias).toNat * 2 ^ f.mb + (n - 2 ^ f.mb)

/-- The magnitude of an exponent and a fraction field that encode a finite value (R41–R43). -/
def FloatFmt.decode (f : FloatFmt) (code : Nat) : Rat :=
  let ex := code / 2 ^ f.mb
  let fr := code % 2 ^ f.mb
  if ex = 0 then (fr : Rat) * pow2 (f.emin - f.mb)
  else ((2 ^ f.mb + fr : Nat) : Rat) * pow2 ((ex : Int) - f.bias - f.mb)

/-- The value of an E8 code (R41). -/
def decE8 (c : Nat) : XR :=
  let c := c % 256
  if c = 0x80 then .nan else .fin (decide (c ≥ 128)) (e8F.decode (c % 128))
/-- The value of a G16 code (R42). -/
def decG16 (c : Nat) : XR :=
  let c := c % 65536
  let neg := decide (c ≥ 0x8000)
  let m := c % 0x8000
  if m = 0x7F00 then .inf neg else if m > 0x7F00 then .nan else .fin neg (g16F.decode m)
/-- The value of a W32 code (R43). -/
def decW32 (c : Nat) : XR :=
  let c := c % 4294967296
  let neg := decide (c ≥ 0x80000000)
  let m := c % 0x80000000
  if m = 0x7F800000 then .inf neg else if m > 0x7F800000 then .nan else .fin neg (w32F.decode m)

/-- A two's complement integer of n bits. -/
def signed (n c : Nat) : Int :=
  let c := c % 2 ^ n
  if c < 2 ^ (n - 1) then (c : Int) else (c : Int) - ((2 ^ n : Nat) : Int)
/-- The n-bit two's complement code of an integer, modulo 2^n. -/
def unsigned (n : Nat) (i : Int) : Nat := (i % ((2 ^ n : Nat) : Int)).toNat

/-- The G16 code of a value that G16 represents; a NaN is the canonical NaN (R42). -/
def encG16 : XR → Nat
  | .nan => 0x7F80
  | .inf n => if n then 0xFF00 else 0x7F00
  | .fin n m => (if n then 0x8000 else 0) + g16F.encode m
/-- The W32 code of a value that W32 represents; a NaN is the canonical NaN (R43). -/
def encW32 : XR → Nat
  | .nan => 0x7FC00000
  | .inf n => if n then 0xFF800000 else 0x7F800000
  | .fin n m => (if n then 0x80000000 else 0) + w32F.encode m

/-- W32 arithmetic: an exact value rounded under RNE, a magnitude beyond the largest becoming an infinity (R43, R154). -/
def rw : XR → XR
  | .fin n m =>
    let q := w32F.round .rne 0 m
    if q > w32F.max then .inf n else .fin n q
  | x => x
/-- An exact value rounded to G16 under RNE with FLT_NSAT = 0: beyond the largest it saturates (R48). -/
def rg : XR → XR
  | .fin n m =>
    let q := g16F.round .rne 0 m
    .fin n (if q > g16F.max then g16F.max else q)
  | x => x
def wadd (a b : XR) : XR := rw (a.add b)
def wsub (a b : XR) : XR := rw (a.sub b)
def wmul (a b : XR) : XR := rw (a.mul b)
def wdiv (a b : XR) : XR := rw (a.div b)
/-- x × 2^e in W32 under RNE: exact unless the result leaves the normal range (R168, R197). -/
def wpow2 (x : XR) (e : Int) : XR := wmul x (.fin false (pow2 e))

/-- The largest n with n² ≤ x, found bit by bit. -/
def isqrt (x : Nat) : Nat → Nat → Nat
  | 0, acc => acc
  | k + 1, acc => let t := acc + 2 ^ k; isqrt x k (if t * t ≤ x then t else acc)

/-- The square root of a positive rational rounded once to W32 (R110): a root that is not exact lies strictly inside a
gap far below half a unit, so that any point of the gap rounds as the root does. -/
def sqrtRat (q : Rat) : Rat :=
  let k : Int := 40 - floorLog2 q / 2
  let y := q * pow2 (2 * k)
  let n := y.num.toNat / y.den
  let s := isqrt n 48 0
  if ((s * s : Nat) : Rat) = y then (s : Rat) * pow2 (-k) else ((2 * s + 1 : Nat) : Rat) * pow2 (-k - 1)
/-- sqrt in W32 under RNE (IEEE 754: −0 stays, a negative value gives NaN). -/
def wsqrt : XR → XR
  | .fin n m => if m = 0 then .fin n 0 else if n then .nan else rw (.fin false (sqrtRat m))
  | .inf n => if n then .nan else .inf false
  | .nan => .nan

/-- ln 2 in units of 2^−256. -/
def ln2F : Nat := 0xb17217f7d1cf79abc9e3b39803f2f6af40f343267298b62d8a0d175b8baafa2b

/-- Σ y^k ÷ k! for k up to `n`, all in units of 2^−256, truncating. -/
def expSeries (y : Nat) : Nat → Nat → Nat → Nat → Nat
  | 0, _, _, acc => acc
  | n + 1, k, term, acc =>
    let t := term * y / 2 ^ 256 / k
    expSeries y n (k + 1) t (acc + t)

/-- Σ z^(2k+1) ÷ (2k+1), z in units of 2^−256, truncating. -/
def atanhSeries (z2 : Nat) : Nat → Nat → Nat → Nat → Nat
  | 0, _, _, acc => acc
  | n + 1, k, p, acc => atanhSeries z2 n (k + 2) (p * z2 / 2 ^ 256) (acc + p / k)

/-- The W32 value both ends of an enclosure round to; where they differ the manual's correctly rounded value is not
decided by the enclosure, and the value is free (log 9). -/
def roundBetween (neg : Bool) (lo hi : Rat) (free : BitVec 32) : XR :=
  let a := rw (.fin neg lo)
  if a = rw (.fin neg hi) then a else decW32 free.toNat

/-- The correctly rounded W32 value of 2^x (R250). -/
def wexp2 (x : XR) : XR :=
  match x with
  | .nan => .nan
  | .inf n => if n then .zero else .inf false
  | .fin _ _ =>
    let v := x.val
    if v > 256 then .inf false
    else if v < -256 then .zero
    else
      let i := v.floor
      let f := v - (i : Rat)
      if f = 0 then rw (.fin false (pow2 i))
      else
        let y := (f * pow2 256).floor.toNat * ln2F / 2 ^ 256
        let s := 2 ^ 256 + expSeries y 64 1 (2 ^ 256) 0
        roundBetween false (((s - 256 : Nat) : Rat) * pow2 (i - 256)) (((s + 256 : Nat) : Rat) * pow2 (i - 256)) (Config.openExp2 v)

/-- The correctly rounded W32 value of log2 x (R250): NaN of a negative value, −infinity of ±0. -/
def wlog2 (x : XR) : XR :=
  match x with
  | .nan => .nan
  | .inf n => if n then .nan else .inf false
  | .fin n m =>
    if m = 0 then .inf true
    else if n then .nan
    else
      let e := floorLog2 m
      let q := m * pow2 (-e)
      if q = 1 then rw (.ofInt e)
      else
        let z := ((q - 1) / (q + 1) * pow2 256).floor.toNat
        let l := 2 * atanhSeries (z * z / 2 ^ 256) 100 1 z 0
        let lg : Rat := mkRat (l : Int) ln2F
        let lo := (e : Rat) + lg - pow2 (-240)
        let hi := (e : Rat) + lg + pow2 (-240)
        if lo < 0 then roundBetween true (-hi) (-lo) (Config.openLog2 m) else roundBetween false lo hi (Config.openLog2 m)

/-- The correctly rounded W32 reciprocal (R250): RECIP of ±0 is ±infinity. -/
def wrecip (x : XR) : XR := wdiv .one x
/-- The correctly rounded W32 reciprocal square root (R250): +0 gives +infinity, −0 −infinity, below zero NaN. -/
def wrsqrt : XR → XR
  | .fin n m => if m = 0 then .inf n else if n then .nan else rw (.fin false (sqrtRat (1 / m)))
  | .inf n => if n then .nan else .zero
  | .nan => .nan

/-- The G16 code of a positive W32 quantity rounded toward +infinity and clamped to a normal scale (R111, R113). -/
def ceilG16 (x : XR) : Nat :=
  match x with
  | .fin _ m =>
    let q := g16F.round .up 0 m
    if q < pow2 (-62) then 0x0100 else if q > g16F.max then 0x7EFF else g16F.encode q
  | _ => 0x7EFF
/-- 2^⌈log2 x⌉ as a clamped G16 scale (R111, R113). -/
def ceilPow2G16 (x : XR) : Nat :=
  match x with
  | .fin _ m =>
    if m = 0 then 0x0100
    else
      let e := ceilLog2 m
      if e < -62 then 0x0100 else if e > 63 then 0x7EFF else g16F.encode (pow2 e)
  | _ => 0x7EFF

/-- A scale that R56 admits: positive, finite and normal. -/
def scaleOk (c : Nat) : Bool := decide (0x0100 ≤ c) && decide (c < 0x7F00)

end Sys2Proof.Machine
end

