-- ==== Sys2Proof/Machine/Flags.lean ====
section
/-! DEFINITION. Element conversions and their five flags (R44–R54). -/

namespace Sys2Proof.Machine

/-- The flags of one element conversion (R51). -/
structure Flags where
  ovf : Bool := false
  unf : Bool := false
  nonfin : Bool := false
  inexact : Bool := false
  esc : Bool := false
  deriving DecidableEq, Repr

/-- The kinds of pair of R52: copy, exact, exact but for escapes, rounding, rounding with overflow, weight conversion. -/
inductive PairKind where
  | copy | exact | exactEsc | rounds | overflows | weight
  deriving DecidableEq, Repr

/-- The pair table of R52: none where the pair is rejected. -/
def pairKind : Fmt → Fmt → Option PairKind
  | .Q1, .Q1 => some .copy | .Q2, .Q2 => some .copy | .Q4, .Q4 => some .copy
  | .I8, .I8 => some .copy | .U8, .U8 => some .copy | .E8, .E8 => some .copy
  | .G16, .G16 => some .copy | .W32, .W32 => some .copy | .I32, .I32 => some .copy
  | .Q1, .I8 => some .exact | .Q2, .I8 => some .exactEsc | .Q4, .I8 => some .exactEsc
  | .Q1, .G16 => some .exact | .Q1, .W32 => some .exact
  | .Q2, .G16 => some .exact | .Q2, .W32 => some .exact
  | .Q4, .G16 => some .exact | .Q4, .W32 => some .exact
  | .I8, .U8 => some .overflows | .I8, .E8 => some .rounds
  | .I8, .G16 => some .exact | .I8, .W32 => some .exact | .I8, .I32 => some .exact
  | .U8, .I8 => some .overflows | .U8, .E8 => some .rounds
  | .U8, .G16 => some .exact | .U8, .W32 => some .exact | .U8, .I32 => some .exact
  | .E8, .I8 => some .overflows | .E8, .U8 => some .overflows
  | .E8, .G16 => some .exact | .E8, .W32 => some .exact | .E8, .I32 => some .rounds
  | .G16, .Q1 => some .weight | .G16, .Q2 => some .weight | .G16, .Q4 => some .weight
  | .G16, .I8 => some .overflows | .G16, .U8 => some .overflows | .G16, .E8 => some .overflows
  | .G16, .W32 => some .exact | .G16, .I32 => some .overflows
  | .W32, .Q1 => some .weight | .W32, .Q2 => some .weight | .W32, .Q4 => some .weight
  | .W32, .I8 => some .overflows | .W32, .U8 => some .overflows | .W32, .E8 => some .overflows
  | .W32, .G16 => some .overflows | .W32, .I32 => some .overflows
  | .I32, .I8 => some .overflows | .I32, .U8 => some .overflows | .I32, .E8 => some .overflows
  | .I32, .G16 => some .rounds | .I32, .W32 => some .rounds
  | _, _ => none

/-- The fields that steer a conversion: rounding, INT_WRAP, FLT_NSAT, the target scale and zero point (R53) and the 16
random bits of the element (R46). -/
structure Conv where
  dst : Fmt
  rnd : Rnd := .rne
  intWrap : Bool := false
  fltNsat : Bool := false
  scale : Rat := 1
  zp : Int := 0
  rand : Nat := 0
  deriving DecidableEq, Repr

/-- The sign bit of a floating code of n bits. -/
def signBit (neg : Bool) (n : Nat) : Nat := if neg then 2 ^ (n - 1) else 0

/-- A floating target: R47, R48 for a finite magnitude. `big` is the largest code, `inf` the code that FLT_NSAT = 1
writes; E8 has no −0 (R50). -/
def convFloat (f : FloatFmt) (c : Conv) (neg : Bool) (m : Rat) : Nat × Flags :=
  let n := c.dst.bits
  let q := f.round c.rnd c.rand m
  if q > f.max then
    let code :=
      if c.rnd ≠ .rtz ∧ c.fltNsat then
        (if c.dst = .E8 then 0x80 else signBit neg n + (if c.dst = .G16 then 0x7F00 else 0x7F800000))
      else signBit neg n + f.encode f.max
    (code, { ovf := true })
  else
    let code := f.encode q + (if c.dst = .E8 ∧ q = 0 then 0 else signBit neg n)
    (code, { unf := m ≠ 0 ∧ q = 0, inexact := q ≠ m })

/-- The ends of an integer target. -/
def intRange : Fmt → Int × Int
  | .U8 => (0, 255)
  | .I32 => (-2147483648, 2147483647)
  | _ => (-128, 127)

/-- The magnitude rounding of R45, R46 on a signed exact value. -/
def roundInt (rnd : Rnd) (r : Nat) (v : Rat) : Int :=
  if v < 0 then -(roundMag rnd r (-v) 0 : Int) else (roundMag rnd r v 0 : Int)

/-- An integer target: v ÷ s + z formed exactly, rounded once (R44, R47, R48, R50). -/
def convInt (c : Conv) (v : Rat) : Nat × Flags :=
  let x := v / c.scale + c.zp
  let q := roundInt c.rnd c.rand x
  let (lo, hi) := intRange c.dst
  if q < lo ∨ hi < q then
    let w := if c.intWrap then q else if q < lo then lo else hi
    (unsigned c.dst.bits w, { ovf := true })
  else (unsigned c.dst.bits q, { unf := v ≠ 0 ∧ q = c.zp, inexact := (q : Rat) ≠ x })

/-- The largest magnitude of a Q2 or Q4 code (R39). -/
def qMax : Fmt → Int
  | .Q4 => 7
  | _ => 1
/-- The escape code (R39). -/
def qEscape : Fmt → Nat
  | .Q4 => 8
  | _ => 2

/-- A weight target (R54): the code of v ÷ s, an escape beyond the range. -/
def convWeight (c : Conv) (x : XR) : Nat × Flags :=
  match c.dst with
  | .Q1 =>
    match x with
    | .nan => (0, { nonfin := true })
    | .inf n => (if n then 1 else 0, { nonfin := true })
    | .fin n m => (if n ∧ m ≠ 0 then 1 else 0, { inexact := m ≠ c.scale })
  | d =>
    match x with
    | .fin _ _ =>
      let v := x.val / c.scale
      let q := roundInt c.rnd c.rand v
      if q < -qMax d ∨ qMax d < q then (qEscape d, { esc := true })
      else (unsigned d.bits q, { unf := v ≠ 0 ∧ q = 0, inexact := (q : Rat) ≠ v })
    | _ => (qEscape d, { nonfin := true, esc := true })

/-- One conversion of an exact value into a format (R44–R51, R54). A NaN into U8 gives the code of the zero point (R49); a negative
zero point has no U8 code, and the low 8 bits of z are stored (DESIGN CHOICE, log 99). -/
def convert (c : Conv) (x : XR) : Nat × Flags :=
  match c.dst with
  | .Q1 | .Q2 | .Q4 => convWeight c x
  | .E8 =>
    match x with
    | .nan => (0x80, { nonfin := true })
    | .inf n => (if c.fltNsat then 0x80 else if n then 0xFF else 0x7F, { nonfin := true })
    | .fin n m => convFloat e8F c n (m / c.scale)
  | .G16 =>
    match x with
    | .fin n m => convFloat g16F c n m
    | x => (encG16 x, { nonfin := true })
  | .W32 =>
    match x with
    | .fin n m => convFloat w32F c n m
    | x => (encW32 x, { nonfin := true })
  | _ =>
    match x with
    | .nan => (if c.dst = .U8 then unsigned 8 c.zp else 0, { nonfin := true })
    | .inf n => (unsigned c.dst.bits (if n then (intRange c.dst).1 else (intRange c.dst).2), { nonfin := true })
    | .fin _ _ => convInt c x.val

/-- The expanded value of a weight code and whether it is an escape (R39, R77). -/
def expand (f : Fmt) (code : Nat) : Int × Bool :=
  match f with
  | .Q1 => (if code % 2 = 0 then 1 else -1, false)
  | .Q2 => if code % 4 = 2 then (0, true) else (signed 2 code, false)
  | .Q4 => if code % 16 = 8 then (0, true) else (signed 4 code, false)
  | _ => (signed 8 code, false)

/-- The exact value of a code under its source scale and zero point: s × (q − z) (R53); an escape gives 0 here. -/
def decode (f : Fmt) (scale : Rat) (zp : Int) (code : Nat) : XR :=
  match f with
  | .Q1 | .Q2 | .Q4 => .ofRat (scale * ((expand f code).1 : Rat))
  | .I8 => .ofRat (scale * ((signed 8 code - zp : Int) : Rat))
  | .U8 => .ofRat (scale * (((code % 256 : Nat) : Int) - zp : Int))
  | .E8 => (decE8 code).mul (.fin false scale)
  | .G16 => decG16 code
  | .W32 => decW32 code
  | .I32 => .ofInt (signed 32 code)

/-- A copy keeps its code but for a NaN of G16 or W32, which becomes the canonical NaN (R52). -/
def copyCode (f : Fmt) (code : Nat) : Nat :=
  match f with
  | .G16 => if (decG16 code).isNan then 0x7F80 else code
  | .W32 => if (decW32 code).isNan then 0x7FC00000 else code
  | _ => code

/-- The pair conversion of R52 from a code into a target; a pair marked exact sets none of OVF, UNF and INEXACT (R51). -/
def convPair (src : Fmt) (sScale : Rat) (sZp : Int) (c : Conv) (code : Nat) : Nat × Flags :=
  let x := decode src sScale sZp code
  match pairKind src c.dst with
  | some .copy => (copyCode src code, { nonfin := !x.isFin })
  | some .exact | some .exactEsc =>
    let (r, f) := convert c x
    (r, { f with ovf := false, unf := false, inexact := false })
  | _ => convert c x

end Sys2Proof.Machine
end

