-- ==== Sys2Proof/Machine/Check.lean ====
section
/-! DEFINITION. Bytes, little-endian fields and the check values of R281, R294, R508 and R509. -/

namespace Sys2Proof.Machine

/-- The n low bytes of a value, least significant first (R8). -/
def leBytes : Nat → Nat → List Byte
  | 0, _ => []
  | n + 1, v => BitVec.ofNat 8 v :: leBytes n (v / 256)

/-- A little-endian byte string as a number (R8). -/
def leNat : List Byte → Nat
  | [] => 0
  | b :: bs => b.toNat + 256 * leNat bs

/-- The n bytes from position i; bytes beyond the end are not there. -/
def slice (bs : List Byte) (i n : Nat) : List Byte := (bs.drop i).take n
/-- The little-endian field of n bytes at position i. -/
def fieldAt (bs : List Byte) (i n : Nat) : Nat := leNat (slice bs i n)
/-- Bits hi…lo of a value. -/
def bitsOf (v hi lo : Nat) : Nat := v / 2 ^ lo % 2 ^ (hi - lo + 1)
/-- One bit of a value. -/
def bitOf (v i : Nat) : Bool := v / 2 ^ i % 2 == 1
/-- A list padded with zero bytes, or cut, to n bytes. -/
def padTo (n : Nat) (bs : List Byte) : List Byte := (bs ++ List.replicate (n - bs.length) 0).take n

/-- The parameters of a polynomial (R508). -/
structure CrcPoly where
  width : Nat
  poly : Nat
  rpoly : Nat
  init : Nat
  refl : Bool
  xorout : Nat
  deriving DecidableEq, Repr

def crc32P : CrcPoly := ⟨32, 0x04C11DB7, 0xEDB88320, 0xFFFFFFFF, true, 0xFFFFFFFF⟩
def crc32cP : CrcPoly := ⟨32, 0x1EDC6F41, 0x82F63B78, 0xFFFFFFFF, true, 0xFFFFFFFF⟩
def crc64P : CrcPoly := ⟨64, 0x42F0E1EBA9EA3693, 0, 0, false, 0⟩
def crc16P : CrcPoly := ⟨16, 0x1021, 0, 0xFFFF, false, 0⟩

/-- The polynomial of a POLY code (R508). -/
def crcOfCode : Nat → CrcPoly
  | 0 => crc32P
  | 1 => crc32cP
  | 2 => crc64P
  | _ => crc16P

/-- Eight shift steps of R509. -/
def crcStep (p : CrcPoly) : Nat → Nat → Nat
  | 0, reg => reg
  | n + 1, reg =>
    if p.refl then crcStep p n (if reg % 2 = 1 then (reg >>> 1) ^^^ p.rpoly else reg >>> 1)
    else
      let r := (reg <<< 1) % 2 ^ p.width
      crcStep p n (if reg >>> (p.width - 1) % 2 = 1 then r ^^^ p.poly else r)

/-- The result over a byte string, in order (R509). -/
def cvuCrc (p : CrcPoly) (data : List Byte) : Nat :=
  (data.foldl (fun reg x =>
    crcStep p 8 (if p.refl then reg ^^^ x.toNat else reg ^^^ (x.toNat <<< (p.width - 8)))) p.init) ^^^ p.xorout

def crc32c (data : List Byte) : Nat := cvuCrc crc32cP data
def crc64 (data : List Byte) : Nat := cvuCrc crc64P data

/-- The correct check of a 64 B line: CRC-32C over the data and the line address as a u64 (R281). -/
def lineCheck (line : List Byte) (a : Nat) : Nat := crc32c (line ++ leBytes 8 (a / 64))
/-- The correct check byte of a 32 B word: CRC-8 0x2F over the data and the 3-byte word address (R294). -/
def wordCheck (word : List Byte) (off : Nat) : Nat :=
  cvuCrc ⟨8, 0x2F, 0, 0xFF, false, 0⟩ (word ++ leBytes 3 (off / 32))

/-- A byte string with its CRC-32C appended (the records and entries of R119, R195, R221, R448, R453). -/
def withCrc (bs : List Byte) : List Byte := bs ++ leBytes 4 (crc32c bs)

end Sys2Proof.Machine
end

