-- ==== Sys2Proof/Machine/Messages.lean ====
section
/-! DEFINITION. Management messages as bytes and packets (R381, R386, R467, R494). Where the manual names what a body holds and
gives it no layout, the fields follow one another in the manual's order, little-endian (DESIGN CHOICE, log 114). -/

namespace Sys2Proof.Machine

/-- An entry of the rank map (R381). -/
def rankEntryBytes (e : RankEntry) : List Byte :=
  leBytes 8 e.deviceId.toNat ++ leBytes 1 e.state.toNat ++ leBytes 1 e.role.toNat ++ leBytes 2 e.partner.toNat ++
    leBytes 1 e.x.toNat ++ leBytes 1 e.y.toNat ++ leBytes 2 0

/-- A list after its length. -/
def countedBytes {α : Type} (f : α → List Byte) (l : List α) : List Byte := leBytes 2 l.length ++ l.flatMap f
/-- A rank, or 0xFFFF for none. -/
def rankOrNone (r : Option Rank) : List Byte := leBytes 2 ((r.map (·.toNat)).getD 0xFFFF)
/-- Bytes after their length. -/
def blobBytes (bs : List Byte) : List Byte := leBytes 4 bs.length ++ bs

/-- What only the standby is given (R399, R421). -/
def mirrorBytes (m : Mirror) : List Byte :=
  countedBytes (leBytes 2) m.order ++ countedBytes (leBytes 8) m.fence ++
    countedBytes (fun e => leBytes 1 e.1 ++ leBytes 2 e.2) m.epochs ++ leBytes 4 m.genNext ++
    countedBytes (fun h => leBytes 4 h.1 ++ leBytes 2 h.2.1 ++ leBytes 8 h.2.2.1 ++ leBytes 1 (if h.2.2.2.1 then 1 else 0) ++ padTo 32 h.2.2.2.2) m.hashes ++
    countedBytes (fun e => leBytes 4 e.1 ++ blobBytes e.2) m.podManifests ++
    countedBytes (fun k => leBytes 8 k.1 ++ padTo 64 k.2.1 ++ padTo 64 k.2.2) m.keys

/-- The body of a PUBLISH: the new pod epoch, rank-map entries, CPL_GROUP and CPL_ROUTE values (R386). -/
def changeBytes (c : Change) : List Byte :=
  leBytes 2 c.epoch.toNat ++ leBytes 2 c.manager.toNat ++ rankOrNone c.standby ++ rankOrNone c.newRank ++
    countedBytes (fun e => leBytes 2 e.1.toNat ++ rankEntryBytes e.2) c.ranks ++
    countedBytes (fun e => leBytes 1 e.1.toNat ++ leBytes 8 e.2.toNat) c.groups ++
    countedBytes (fun e => leBytes 2 e.1.toNat ++ leBytes 4 e.2.toNat) c.routes ++
    countedBytes (fun e => leBytes 1 e.1.toNat ++ countedBytes (fun r => leBytes 2 r.toNat) e.2) c.members ++
    countedBytes mirrorBytes c.mirror.toList

/-- The first 16 bytes of a forwarded command or completion (R467). -/
def hostHdrBytes (h : HostHdr) : List Byte :=
  leBytes 1 h.kind.toNat ++ leBytes 1 h.qp.toNat ++ leBytes 2 h.rank.toNat ++ leBytes 4 h.tag.toNat ++ leBytes 8 h.off.toNat

/-- MTYPE and body of a message (R386, R467, R494). -/
def mgmtCode : MgmtBody → Nat × List Byte
  | .heartbeat role c o => (0x01, leBytes 1 role.toNat ++ leBytes 6 c.toNat ++ leBytes 1 (if o then 1 else 0))
  | .ready a b x y => (0x02, leBytes 4 a.toNat ++ leBytes 4 b.toNat ++ leBytes 4 x.toNat ++ leBytes 4 y.toNat)
  | .commit dec k => (0x03, leBytes 1 dec.toNat ++ leBytes 1 k.toNat)
  | .committed => (0x04, [])
  | .abortStep code again => (0x05, leBytes 2 code.toNat ++ leBytes 1 (if again then 1 else 0))
  | .start => (0x06, [])
  | .publish c => (0x07, changeBytes c)
  | .staged e => (0x08, leBytes 2 e.toNat)
  | .activate e => (0x09, leBytes 2 e.toNat)
  | .fencePort ports => (0x0A, leBytes 2 ports.toNat)
  | .fault code eng seq => (0x0B, leBytes 2 code.toNat ++ leBytes 1 eng.toNat ++ leBytes 2 seq.toNat)
  | .takeoverQuery => (0x0C, [])
  | .takeoverVote yes => (0x0D, leBytes 1 (if yes then 1 else 0))
  | .trigger r n capture sources =>
    (0x10, leBytes 2 r.toNat ++ leBytes 2 n.toNat ++ leBytes 2 (sources.toNat + (if capture then 0x8000 else 0)) ++ leBytes 10 0)
  | .hostCmd h bs => (0x11, hostHdrBytes h ++ bs)
  | .hostCpl h bs => (0x12, hostHdrBytes h ++ bs)

/-- The parts of a body that travel in one packet each: 4,080 B, one part at least (R386). -/
def bodyParts (bs : List Byte) : List (List Byte) :=
  (List.range (Nat.max 1 ((bs.length + 4079) / 4080))).map (fun i => slice bs (4080 * i) 4080)
/-- The packets that a body takes. -/
def mgmtCount (b : MgmtBody) : Nat := (bodyParts (mgmtCode b).2).length

/-- The MGMT packets of a message (R346, R347, R386): consecutive PSEQ, the last one marked. -/
def mgmtPackets (m : Mgmt) : List Packet :=
  let c := mgmtCode m.body
  let parts := bodyParts c.2
  ((List.range parts.length).zip parts).map (fun e =>
    { ptype := 7, vc := 3, pflags := if e.1 + 1 = parts.length then 1 else 0, src := m.src, dst := m.dst, group := 0, alive := 0
      epoch := m.epoch, tag := 0, dstL := 0, fmts := 0, sg := 0, hop := 0, pseq := m.pseq + BitVec.ofNat 32 e.1, offset := 0
      nelem := 0, total := 0, crc := 0
      payload := leBytes 1 c.1 ++ leBytes 3 0 ++ leBytes 6 m.step.toNat ++ leBytes 2 e.2.length ++ leBytes 4 0 ++ e.2 })

end Sys2Proof.Machine
end

