-- ==== Sys2Proof/Machine/Registers.lean ====
section
/-! DEFINITION. The register tables of every chapter, field by field: place, access code (R9) and reset value. Reserved
bits are in no field and read as 0. Where a register lies: R271, R273, R275, R276, R442, R513. -/

namespace Sys2Proof

/-- The access codes of R9. -/
inductive Access where
  | ro | rw | w1c | w1s | wo | rws | rl
  deriving DecidableEq, Repr

/-- One field of a register: its bits, its access code and its reset value. -/
structure Fld where
  reg : RegName
  hi : Nat
  lo : Nat
  acc : Access
  rst : Nat
  deriving DecidableEq, Repr

/-- Where a register lies: a tile's engine registers (0x300_0000 of its window), an engine die's block, a base die's
block, the active service complex, BAR0 only, or a check-value unit's four registers (R513). -/
inductive Window where
  | engine | die | base | service | mbx | cvu
  deriving DecidableEq, Repr

/-! FWA_STATUS (R99) -/
def FWA_STATUS.FORM : Fld := ⟨.FWA_STATUS, 7, 6, .ro, 0⟩
def FWA_STATUS.BUSY : Fld := ⟨.FWA_STATUS, 5, 5, .ro, 0⟩
def FWA_STATUS.RES_HARD : Fld := ⟨.FWA_STATUS, 4, 4, .w1c, 0⟩
def FWA_STATUS.RES_SOFT : Fld := ⟨.FWA_STATUS, 3, 3, .w1c, 0⟩
def FWA_STATUS.PARITY : Fld := ⟨.FWA_STATUS, 2, 2, .w1c, 0⟩
def FWA_STATUS.ACC_SAT : Fld := ⟨.FWA_STATUS, 0, 0, .w1c, 0⟩
/-! FWA_RESIDUE_LOG (R100) -/
def FWA_RESIDUE_LOG.LAYER_ID : Fld := ⟨.FWA_RESIDUE_LOG, 63, 48, .ro, 0⟩
def FWA_RESIDUE_LOG.OPERATOR_ID : Fld := ⟨.FWA_RESIDUE_LOG, 47, 32, .ro, 0⟩
def FWA_RESIDUE_LOG.MICRO_BATCH : Fld := ⟨.FWA_RESIDUE_LOG, 31, 24, .ro, 0⟩
def FWA_RESIDUE_LOG.COUNT : Fld := ⟨.FWA_RESIDUE_LOG, 23, 16, .rw, 0⟩
def FWA_RESIDUE_LOG.BLOCK : Fld := ⟨.FWA_RESIDUE_LOG, 15, 4, .ro, 0⟩
def FWA_RESIDUE_LOG.KIND : Fld := ⟨.FWA_RESIDUE_LOG, 3, 2, .ro, 0⟩
def FWA_RESIDUE_LOG.SUB_ARRAY : Fld := ⟨.FWA_RESIDUE_LOG, 1, 0, .ro, 0⟩
/-! SIV_CTRL (R143) -/
def SIV_CTRL.PIN : Fld := ⟨.SIV_CTRL, 7, 7, .rw, 0⟩
def SIV_CTRL.GRAD_TRK_EN : Fld := ⟨.SIV_CTRL, 6, 6, .rw, 1⟩
def SIV_CTRL.FB_EN : Fld := ⟨.SIV_CTRL, 5, 5, .rw, 1⟩
def SIV_CTRL.SHADOW_EN : Fld := ⟨.SIV_CTRL, 4, 4, .rw, 1⟩
/-! SIV_STATUS (R144) -/
def SIV_STATUS.DIVERGED : Fld := ⟨.SIV_STATUS, 6, 6, .w1c, 0⟩
def SIV_STATUS.PRE_WIN_SHORT : Fld := ⟨.SIV_STATUS, 5, 5, .w1c, 0⟩
def SIV_STATUS.DRIP_OVF : Fld := ⟨.SIV_STATUS, 4, 4, .w1c, 0⟩
def SIV_STATUS.FB_ACTIVE : Fld := ⟨.SIV_STATUS, 3, 3, .ro, 0⟩
def SIV_STATUS.SHADOW_BUSY : Fld := ⟨.SIV_STATUS, 2, 2, .ro, 0⟩
def SIV_STATUS.WIDEN_BUSY : Fld := ⟨.SIV_STATUS, 1, 1, .ro, 0⟩
def SIV_STATUS.NARROW_BUSY : Fld := ⟨.SIV_STATUS, 0, 0, .ro, 0⟩
/-! SIV_PRE_WIN (R145) -/
def SIV_PRE_WIN.SIZE : Fld := ⟨.SIV_PRE_WIN, 15, 8, .rw, 0⟩
def SIV_PRE_WIN.BASE : Fld := ⟨.SIV_PRE_WIN, 7, 0, .rw, 0⟩
/-! SIV_TABLES (R146) -/
def SIV_TABLES.TRK_BASE : Fld := ⟨.SIV_TABLES, 43, 32, .rw, 0⟩
def SIV_TABLES.LTAB_BASE : Fld := ⟨.SIV_TABLES, 9, 0, .rw, 0⟩
/-! SIV_STEP_COUNTS (R147) -/
def SIV_STEP_COUNTS.CHECKED : Fld := ⟨.SIV_STEP_COUNTS, 63, 40, .rw, 0⟩
def SIV_STEP_COUNTS.FELL_BACK : Fld := ⟨.SIV_STEP_COUNTS, 39, 16, .rw, 0⟩
def SIV_STEP_COUNTS.SHADOW_SKIP : Fld := ⟨.SIV_STEP_COUNTS, 15, 8, .rw, 0⟩
def SIV_STEP_COUNTS.GRAD_RERUNS : Fld := ⟨.SIV_STEP_COUNTS, 7, 0, .rw, 0⟩
/-! BKA_STATUS (R179) -/
def BKA_STATUS.WORK : Fld := ⟨.BKA_STATUS, 9, 8, .ro, 0⟩
def BKA_STATUS.FORM : Fld := ⟨.BKA_STATUS, 7, 6, .ro, 0⟩
def BKA_STATUS.BUSY : Fld := ⟨.BKA_STATUS, 5, 5, .ro, 0⟩
def BKA_STATUS.RES_HARD : Fld := ⟨.BKA_STATUS, 4, 4, .w1c, 0⟩
def BKA_STATUS.RES_SOFT : Fld := ⟨.BKA_STATUS, 3, 3, .w1c, 0⟩
def BKA_STATUS.PARITY : Fld := ⟨.BKA_STATUS, 2, 2, .w1c, 0⟩
def BKA_STATUS.PAIR_WIDE : Fld := ⟨.BKA_STATUS, 1, 1, .ro, 0⟩
def BKA_STATUS.SUM_INF : Fld := ⟨.BKA_STATUS, 0, 0, .w1c, 0⟩
/-! BKA_RESIDUE_LOG (R180) -/
def BKA_RESIDUE_LOG.LAYER_ID : Fld := ⟨.BKA_RESIDUE_LOG, 63, 48, .ro, 0⟩
def BKA_RESIDUE_LOG.OPERATOR_ID : Fld := ⟨.BKA_RESIDUE_LOG, 47, 32, .ro, 0⟩
def BKA_RESIDUE_LOG.MICRO_BATCH : Fld := ⟨.BKA_RESIDUE_LOG, 31, 24, .ro, 0⟩
def BKA_RESIDUE_LOG.COUNT : Fld := ⟨.BKA_RESIDUE_LOG, 23, 16, .rw, 0⟩
def BKA_RESIDUE_LOG.BLOCK : Fld := ⟨.BKA_RESIDUE_LOG, 15, 4, .ro, 0⟩
def BKA_RESIDUE_LOG.KIND : Fld := ⟨.BKA_RESIDUE_LOG, 3, 2, .ro, 0⟩
def BKA_RESIDUE_LOG.SUB_ARRAY : Fld := ⟨.BKA_RESIDUE_LOG, 1, 0, .ro, 0⟩
/-! ACB_CTRL (R181) -/
def ACB_CTRL.CLEAR : Fld := ⟨.ACB_CTRL, 0, 0, .wo, 0⟩
/-! ACB_STATUS (R182) -/
def ACB_STATUS.IDX_RANGE : Fld := ⟨.ACB_STATUS, 5, 5, .w1c, 0⟩
def ACB_STATUS.CHECK_HARD : Fld := ⟨.ACB_STATUS, 4, 4, .w1c, 0⟩
def ACB_STATUS.CHECK_SOFT : Fld := ⟨.ACB_STATUS, 3, 3, .w1c, 0⟩
def ACB_STATUS.SLOT_NONFIN : Fld := ⟨.ACB_STATUS, 2, 2, .w1c, 0⟩
def ACB_STATUS.ORDER_WAIT : Fld := ⟨.ACB_STATUS, 1, 1, .ro, 0⟩
def ACB_STATUS.BUSY : Fld := ⟨.ACB_STATUS, 0, 0, .ro, 0⟩
/-! ACB_SLOT_GEOM (R183) -/
def ACB_SLOT_GEOM.BASE : Fld := ⟨.ACB_SLOT_GEOM, 63, 47, .rw, 0⟩
def ACB_SLOT_GEOM.ROWS : Fld := ⟨.ACB_SLOT_GEOM, 46, 32, .rw, 0⟩
def ACB_SLOT_GEOM.COLS : Fld := ⟨.ACB_SLOT_GEOM, 31, 16, .rw, 0⟩
def ACB_SLOT_GEOM.LAYER_ID : Fld := ⟨.ACB_SLOT_GEOM, 15, 0, .rw, 0⟩
/-! ACB_SLOT_STATE (R184) -/
def ACB_SLOT_STATE.SLOT_G : Fld := ⟨.ACB_SLOT_STATE, 39, 32, .ro, 0⟩
def ACB_SLOT_STATE.CONTRIB : Fld := ⟨.ACB_SLOT_STATE, 31, 16, .ro, 0⟩
def ACB_SLOT_STATE.FIRST_MB : Fld := ⟨.ACB_SLOT_STATE, 15, 8, .ro, 0⟩
def ACB_SLOT_STATE.NONFIN : Fld := ⟨.ACB_SLOT_STATE, 2, 2, .ro, 0⟩
def ACB_SLOT_STATE.STATE : Fld := ⟨.ACB_SLOT_STATE, 1, 0, .ro, 0⟩
/-! ENG_STEP_CTX (R217) -/
def ENG_STEP_CTX.OPEN : Fld := ⟨.ENG_STEP_CTX, 63, 63, .rw, 0⟩
def ENG_STEP_CTX.NARROW : Fld := ⟨.ENG_STEP_CTX, 62, 62, .rw, 0⟩
def ENG_STEP_CTX.CBUF : Fld := ⟨.ENG_STEP_CTX, 61, 61, .rw, 0⟩
def ENG_STEP_CTX.STEP : Fld := ⟨.ENG_STEP_CTX, 47, 0, .rw, 0⟩
/-! ENG_VERSION_STRIDE (R218) -/
def ENG_VERSION_STRIDE.STRIDE : Fld := ⟨.ENG_VERSION_STRIDE, 35, 0, .rw, 0⟩
/-! ENG_JOB_SEED_LO (R219) -/
def ENG_JOB_SEED_LO.SEED : Fld := ⟨.ENG_JOB_SEED_LO, 63, 0, .rw, 0⟩
/-! ENG_JOB_SEED_HI (R219) -/
def ENG_JOB_SEED_HI.SEED : Fld := ⟨.ENG_JOB_SEED_HI, 63, 0, .rw, 0⟩
/-! ENG_STATUS (R261) -/
def ENG_STATUS.EXP_SEQ : Fld := ⟨.ENG_STATUS, 31, 20, .ro, 0⟩
def ENG_STATUS.WD : Fld := ⟨.ENG_STATUS, 13, 13, .w1c, 0⟩
def ENG_STATUS.DESC_SOFT : Fld := ⟨.ENG_STATUS, 12, 12, .w1c, 0⟩
def ENG_STATUS.HALTED : Fld := ⟨.ENG_STATUS, 11, 11, .ro, 0⟩
def ENG_STATUS.HELD : Fld := ⟨.ENG_STATUS, 10, 10, .ro, 0⟩
def ENG_STATUS.FLUSHING : Fld := ⟨.ENG_STATUS, 9, 9, .ro, 0⟩
def ENG_STATUS.IDLE : Fld := ⟨.ENG_STATUS, 8, 8, .ro, 1⟩
def ENG_STATUS.UNIT_BUSY : Fld := ⟨.ENG_STATUS, 6, 0, .ro, 0⟩
/-! ENG_ERR_LOG (R262) -/
def ENG_ERR_LOG.EVENT : Fld := ⟨.ENG_ERR_LOG, 63, 48, .ro, 0⟩
def ENG_ERR_LOG.SEQ : Fld := ⟨.ENG_ERR_LOG, 47, 36, .ro, 0⟩
def ENG_ERR_LOG.OPCODE : Fld := ⟨.ENG_ERR_LOG, 35, 28, .ro, 0⟩
def ENG_ERR_LOG.LAYER_ID : Fld := ⟨.ENG_ERR_LOG, 27, 12, .ro, 0⟩
def ENG_ERR_LOG.MICRO_BATCH : Fld := ⟨.ENG_ERR_LOG, 11, 4, .ro, 0⟩
def ENG_ERR_LOG.PASS : Fld := ⟨.ENG_ERR_LOG, 3, 2, .ro, 0⟩
def ENG_ERR_LOG.FETCH : Fld := ⟨.ENG_ERR_LOG, 1, 1, .ro, 0⟩
def ENG_ERR_LOG.VALID : Fld := ⟨.ENG_ERR_LOG, 0, 0, .w1c, 0⟩
/-! ENG_CQ_CTRL (R263) -/
def ENG_CQ_CTRL.FLUSH : Fld := ⟨.ENG_CQ_CTRL, 0, 0, .wo, 0⟩
/-! ENG_CQ_PTR (R264) -/
def ENG_CQ_PTR.TAIL : Fld := ⟨.ENG_CQ_PTR, 15, 8, .rw, 0⟩
def ENG_CQ_PTR.HEAD : Fld := ⟨.ENG_CQ_PTR, 7, 0, .ro, 0⟩
/-! ENG_WD (R265) -/
def ENG_WD.LIMIT : Fld := ⟨.ENG_WD, 31, 0, .rw, 0x4000⟩
/-! ENG_TTAB (R266) -/
def ENG_TTAB.ENTRIES : Fld := ⟨.ENG_TTAB, 31, 16, .rw, 0⟩
def ENG_TTAB.BASE : Fld := ⟨.ENG_TTAB, 8, 0, .rw, 0⟩
/-! ENG_HYP_BASE (R267) -/
def ENG_HYP_BASE.BASE : Fld := ⟨.ENG_HYP_BASE, 9, 0, .rw, 0⟩
/-! ENG_LR_FACTOR (R268) -/
def ENG_LR_FACTOR.LR_FACTOR : Fld := ⟨.ENG_LR_FACTOR, 31, 0, .rw, 0x3f800000⟩
/-! ENG_SEM (R269) -/
def ENG_SEM.COUNT : Fld := ⟨.ENG_SEM, 15, 0, .ro, 0⟩
/-! ENG_SEM_ADD (R270) -/
def ENG_SEM_ADD.SEM : Fld := ⟨.ENG_SEM_ADD, 21, 16, .wo, 0⟩
def ENG_SEM_ADD.INC : Fld := ⟨.ENG_SEM_ADD, 15, 0, .wo, 0⟩
/-! MEM_DECODE_CFG (R277) -/
def MEM_DECODE_CFG.ENABLE : Fld := ⟨.MEM_DECODE_CFG, 7, 7, .rl, 1⟩
def MEM_DECODE_CFG.ACTIVE : Fld := ⟨.MEM_DECODE_CFG, 6, 6, .rws, 0⟩
def MEM_DECODE_CFG.FAILED : Fld := ⟨.MEM_DECODE_CFG, 3, 0, .rws, 0⟩
/-! MEM_SPARE_CFG (R299) -/
def MEM_SPARE_CFG.ENABLE : Fld := ⟨.MEM_SPARE_CFG, 7, 7, .rl, 1⟩
def MEM_SPARE_CFG.ACTIVE : Fld := ⟨.MEM_SPARE_CFG, 6, 6, .rws, 0⟩
def MEM_SPARE_CFG.FAILED : Fld := ⟨.MEM_SPARE_CFG, 3, 0, .rws, 0⟩
/-! MEM_ERR_LOG (R300) -/
def MEM_ERR_LOG.KIND : Fld := ⟨.MEM_ERR_LOG, 63, 61, .ro, 0⟩
def MEM_ERR_LOG.SRC : Fld := ⟨.MEM_ERR_LOG, 60, 58, .ro, 0⟩
def MEM_ERR_LOG.LINE : Fld := ⟨.MEM_ERR_LOG, 47, 6, .ro, 0⟩
/-! MEM_ERR_COUNT (R301) -/
def MEM_ERR_COUNT.SOFT : Fld := ⟨.MEM_ERR_COUNT, 63, 32, .rw, 0⟩
def MEM_ERR_COUNT.HARD : Fld := ⟨.MEM_ERR_COUNT, 31, 0, .rw, 0⟩
/-! MEM_RETIRE_STATUS (R302) -/
def MEM_RETIRE_STATUS.RETIRED : Fld := ⟨.MEM_RETIRE_STATUS, 31, 16, .ro, 0⟩
def MEM_RETIRE_STATUS.MIN_FREE : Fld := ⟨.MEM_RETIRE_STATUS, 5, 0, .ro, 0x20⟩
/-! MEM_SCRUB (R303) -/
def MEM_SCRUB.GAP : Fld := ⟨.MEM_SCRUB, 31, 0, .rw, 0x10000⟩
/-! LAR_STATUS (R304) -/
def LAR_STATUS.POISONED : Fld := ⟨.LAR_STATUS, 2, 2, .w1c, 0⟩
def LAR_STATUS.HARD : Fld := ⟨.LAR_STATUS, 1, 1, .w1c, 0⟩
def LAR_STATUS.SOFT : Fld := ⟨.LAR_STATUS, 0, 0, .w1c, 0⟩
/-! LAR_ERR_LOG (R305) -/
def LAR_ERR_LOG.LAYER_ID : Fld := ⟨.LAR_ERR_LOG, 63, 48, .ro, 0⟩
def LAR_ERR_LOG.WORD : Fld := ⟨.LAR_ERR_LOG, 39, 20, .ro, 0⟩
def LAR_ERR_LOG.BANK : Fld := ⟨.LAR_ERR_LOG, 19, 14, .ro, 0⟩
def LAR_ERR_LOG.KIND : Fld := ⟨.LAR_ERR_LOG, 13, 12, .ro, 0⟩
def LAR_ERR_LOG.REQ : Fld := ⟨.LAR_ERR_LOG, 11, 8, .ro, 0⟩
def LAR_ERR_LOG.COUNT : Fld := ⟨.LAR_ERR_LOG, 7, 0, .rw, 0⟩
/-! SHN_STATUS (R331) -/
def SHN_STATUS.IDX_RANGE : Fld := ⟨.SHN_STATUS, 3, 3, .w1c, 0⟩
def SHN_STATUS.SKIPPED : Fld := ⟨.SHN_STATUS, 2, 2, .w1c, 0⟩
def SHN_STATUS.OVERLAP : Fld := ⟨.SHN_STATUS, 1, 1, .w1c, 0⟩
def SHN_STATUS.BUSY : Fld := ⟨.SHN_STATUS, 0, 0, .ro, 0⟩
/-! SHN_COUNTS (R332) -/
def SHN_COUNTS.PAD_SKIP : Fld := ⟨.SHN_COUNTS, 63, 40, .rw, 0⟩
def SHN_COUNTS.VALID_SKIP : Fld := ⟨.SHN_COUNTS, 39, 16, .rw, 0⟩
def SHN_COUNTS.IDX_OOR : Fld := ⟨.SHN_COUNTS, 15, 0, .rw, 0⟩
/-! CPL_PORT_STATUS (R368) -/
def CPL_PORT_STATUS.STATE : Fld := ⟨.CPL_PORT_STATUS, 26, 24, .ro, 0⟩
def CPL_PORT_STATUS.SPARE_FREE : Fld := ⟨.CPL_PORT_STATUS, 23, 23, .ro, 0⟩
def CPL_PORT_STATUS.SWAPPED : Fld := ⟨.CPL_PORT_STATUS, 21, 21, .w1c, 0⟩
def CPL_PORT_STATUS.POL_INV : Fld := ⟨.CPL_PORT_STATUS, 17, 9, .ro, 0⟩
def CPL_PORT_STATUS.ACTIVE : Fld := ⟨.CPL_PORT_STATUS, 8, 0, .ro, 0⟩
/-! CPL_LANE_MAP (R369) -/
def CPL_LANE_MAP.PHYS : Fld := ⟨.CPL_LANE_MAP, 31, 0, .ro, 0x76543210⟩
/-! CPL_LANE_STATE (R370) -/
def CPL_LANE_STATE.LANE : Fld := ⟨.CPL_LANE_STATE, 26, 0, .ro, 0⟩
/-! CPL_CTRL (R371) -/
def CPL_CTRL.SER_MAX : Fld := ⟨.CPL_CTRL, 31, 16, .rw, 0x1000⟩
def CPL_CTRL.RETRAIN : Fld := ⟨.CPL_CTRL, 1, 1, .wo, 0⟩
def CPL_CTRL.ENABLE : Fld := ⟨.CPL_CTRL, 0, 0, .rw, 1⟩
/-! CPL_COUNTS (R372) -/
def CPL_COUNTS.STALE_EPOCH : Fld := ⟨.CPL_COUNTS, 63, 48, .rw, 0⟩
def CPL_COUNTS.LATE_DUP : Fld := ⟨.CPL_COUNTS, 47, 32, .rw, 0⟩
def CPL_COUNTS.UNMATCHED : Fld := ⟨.CPL_COUNTS, 31, 16, .rw, 0⟩
def CPL_COUNTS.E2E_CRC : Fld := ⟨.CPL_COUNTS, 15, 0, .rw, 0⟩
/-! CPL_LINK_COUNTS (R372) -/
def CPL_LINK_COUNTS.REPLAYS : Fld := ⟨.CPL_LINK_COUNTS, 63, 32, .rw, 0⟩
def CPL_LINK_COUNTS.FEC_UNCORR : Fld := ⟨.CPL_LINK_COUNTS, 31, 0, .rw, 0⟩
/-! CPL_ROUTE (R373) -/
def CPL_ROUTE.VALID : Fld := ⟨.CPL_ROUTE, 31, 31, .rw, 0⟩
def CPL_ROUTE.DL : Fld := ⟨.CPL_ROUTE, 30, 30, .rw, 0⟩
def CPL_ROUTE.PORTS : Fld := ⟨.CPL_ROUTE, 15, 0, .rw, 0⟩
/-! CPL_GROUP (R374) -/
def CPL_GROUP.VALID : Fld := ⟨.CPL_GROUP, 63, 63, .rw, 0⟩
def CPL_GROUP.NEXT : Fld := ⟨.CPL_GROUP, 62, 51, .rw, 0⟩
def CPL_GROUP.SIZE : Fld := ⟨.CPL_GROUP, 50, 38, .rw, 0⟩
def CPL_GROUP.POS : Fld := ⟨.CPL_GROUP, 37, 26, .rw, 0⟩
def CPL_GROUP.EPOCH : Fld := ⟨.CPL_GROUP, 15, 0, .rw, 0⟩
/-! CPL_XCH_CTRL (R375) -/
def CPL_XCH_CTRL.STALL : Fld := ⟨.CPL_XCH_CTRL, 63, 32, .rw, 0x4000⟩
def CPL_XCH_CTRL.RETRIES : Fld := ⟨.CPL_XCH_CTRL, 31, 28, .rw, 3⟩
def CPL_XCH_CTRL.E2E : Fld := ⟨.CPL_XCH_CTRL, 27, 0, .rw, 0xc000⟩
/-! RDU_STATUS (R376) -/
def RDU_STATUS.SUM_INF : Fld := ⟨.RDU_STATUS, 4, 4, .w1c, 0⟩
def RDU_STATUS.MISMATCH : Fld := ⟨.RDU_STATUS, 3, 3, .w1c, 0⟩
def RDU_STATUS.NONFIN : Fld := ⟨.RDU_STATUS, 2, 2, .w1c, 0⟩
def RDU_STATUS.HOLD_FULL : Fld := ⟨.RDU_STATUS, 1, 1, .ro, 0⟩
def RDU_STATUS.BUSY : Fld := ⟨.RDU_STATUS, 0, 0, .ro, 0⟩
/-! RDU_CTRL (R376) -/
def RDU_CTRL.E2E : Fld := ⟨.RDU_CTRL, 31, 0, .rw, 0x11800⟩
/-! SVC_ROLE (R402) -/
def SVC_ROLE.POD_EPOCH : Fld := ⟨.SVC_ROLE, 63, 48, .rw, 0⟩
def SVC_ROLE.RANK : Fld := ⟨.SVC_ROLE, 47, 36, .rw, 0⟩
def SVC_ROLE.STATE : Fld := ⟨.SVC_ROLE, 35, 32, .rw, 0⟩
def SVC_ROLE.ROLE : Fld := ⟨.SVC_ROLE, 31, 30, .rw, 0⟩
def SVC_ROLE.MANAGER : Fld := ⟨.SVC_ROLE, 11, 0, .rw, 0⟩
/-! SVC_HB_CFG (R403) -/
def SVC_HB_CFG.TIMEOUT : Fld := ⟨.SVC_HB_CFG, 63, 32, .rw, 0xbebc200⟩
def SVC_HB_CFG.PERIOD : Fld := ⟨.SVC_HB_CFG, 31, 0, .rw, 0x989680⟩
/-! SVC_COMMIT_CFG (R404) -/
def SVC_COMMIT_CFG.READY_WAIT : Fld := ⟨.SVC_COMMIT_CFG, 31, 0, .rw, 0x9502f9⟩
/-! SVC_TENDER_CFG (R432) -/
def SVC_TENDER_CFG.PARTNER : Fld := ⟨.SVC_TENDER_CFG, 63, 52, .rw, 0⟩
def SVC_TENDER_CFG.WARD : Fld := ⟨.SVC_TENDER_CFG, 51, 40, .rw, 0⟩
def SVC_TENDER_CFG.VALID : Fld := ⟨.SVC_TENDER_CFG, 39, 39, .rw, 0⟩
def SVC_TENDER_CFG.TBUF : Fld := ⟨.SVC_TENDER_CFG, 38, 38, .rw, 0⟩
def SVC_TENDER_CFG.STRIDE : Fld := ⟨.SVC_TENDER_CFG, 35, 0, .rw, 0⟩
/-! SVC_TENDER_BASE (R433) -/
def SVC_TENDER_BASE.BASE : Fld := ⟨.SVC_TENDER_BASE, 47, 12, .rw, 0⟩
/-! SVC_CKPT_CFG (R434) -/
def SVC_CKPT_CFG.REPEAT_MAX : Fld := ⟨.SVC_CKPT_CFG, 31, 24, .rw, 3⟩
def SVC_CKPT_CFG.KEEP : Fld := ⟨.SVC_CKPT_CFG, 23, 16, .rw, 3⟩
def SVC_CKPT_CFG.STORE_MIN : Fld := ⟨.SVC_CKPT_CFG, 15, 8, .rw, 0x3c⟩
def SVC_CKPT_CFG.FLASH_MIN : Fld := ⟨.SVC_CKPT_CFG, 7, 0, .rw, 0xa⟩
/-! SVC_CKPT_STATUS (R435) -/
def SVC_CKPT_STATUS.STEP : Fld := ⟨.SVC_CKPT_STATUS, 63, 16, .ro, 0⟩
def SVC_CKPT_STATUS.VALID : Fld := ⟨.SVC_CKPT_STATUS, 7, 7, .ro, 0⟩
def SVC_CKPT_STATUS.HOLD : Fld := ⟨.SVC_CKPT_STATUS, 6, 6, .ro, 0⟩
def SVC_CKPT_STATUS.EXPORTING : Fld := ⟨.SVC_CKPT_STATUS, 5, 5, .ro, 0⟩
def SVC_CKPT_STATUS.FOREIGN : Fld := ⟨.SVC_CKPT_STATUS, 4, 4, .ro, 0⟩
/-! SVC_CKPT_GEN (R435) -/
def SVC_CKPT_GEN.GEN : Fld := ⟨.SVC_CKPT_GEN, 31, 0, .ro, 0⟩
/-! SVC_RECOVERY_STATUS (R436) -/
def SVC_RECOVERY_STATUS.CAUSE : Fld := ⟨.SVC_RECOVERY_STATUS, 63, 48, .ro, 0⟩
def SVC_RECOVERY_STATUS.REPEATS : Fld := ⟨.SVC_RECOVERY_STATUS, 47, 40, .ro, 0⟩
def SVC_RECOVERY_STATUS.PHASE : Fld := ⟨.SVC_RECOVERY_STATUS, 31, 28, .ro, 0⟩
def SVC_RECOVERY_STATUS.OUTCOME : Fld := ⟨.SVC_RECOVERY_STATUS, 27, 26, .ro, 0⟩
def SVC_RECOVERY_STATUS.RANK : Fld := ⟨.SVC_RECOVERY_STATUS, 11, 0, .ro, 0⟩
/-! MEM_FLASH_STATUS (R437) -/
def MEM_FLASH_STATUS.WEAR_PCT : Fld := ⟨.MEM_FLASH_STATUS, 31, 24, .ro, 0⟩
def MEM_FLASH_STATUS.STATE : Fld := ⟨.MEM_FLASH_STATUS, 19, 16, .ro, 0⟩
def MEM_FLASH_STATUS.CH_FAIL : Fld := ⟨.MEM_FLASH_STATUS, 15, 8, .ro, 0⟩
def MEM_FLASH_STATUS.WRITE_ERR : Fld := ⟨.MEM_FLASH_STATUS, 0, 0, .w1c, 0⟩
/-! MBX_STATE (R468) -/
def MBX_STATE.REASON : Fld := ⟨.MBX_STATE, 31, 16, .ro, 0⟩
def MBX_STATE.HOST_LOST : Fld := ⟨.MBX_STATE, 8, 8, .ro, 0⟩
def MBX_STATE.STATE : Fld := ⟨.MBX_STATE, 2, 0, .ro, 0⟩
/-! MBX_BOOT (R469) -/
def MBX_BOOT.DONE : Fld := ⟨.MBX_BOOT, 2, 2, .w1c, 0⟩
def MBX_BOOT.BUSY : Fld := ⟨.MBX_BOOT, 1, 1, .ro, 0⟩
def MBX_BOOT.DOORBELL : Fld := ⟨.MBX_BOOT, 0, 0, .wo, 0⟩
/-! MBX_APERTURE (R470) -/
def MBX_APERTURE.BASE : Fld := ⟨.MBX_APERTURE, 47, 30, .rw, 0⟩
/-! MBX_CTRL (R471) -/
def MBX_CTRL.LOST_MS : Fld := ⟨.MBX_CTRL, 31, 16, .rw, 0x3e8⟩
def MBX_CTRL.HWD : Fld := ⟨.MBX_CTRL, 15, 0, .rw, 0⟩
/-! MBX_HOST_ALIVE (R471) -/
def MBX_HOST_ALIVE.ALIVE : Fld := ⟨.MBX_HOST_ALIVE, 31, 0, .wo, 0⟩
/-! MBX_STATUS (R472) -/
def MBX_STATUS.EVT_LOST : Fld := ⟨.MBX_STATUS, 63, 32, .rw, 0⟩
def MBX_STATUS.BAD_ACCESS : Fld := ⟨.MBX_STATUS, 31, 16, .rw, 0⟩
def MBX_STATUS.REJECTED : Fld := ⟨.MBX_STATUS, 15, 0, .rw, 0⟩
/-! CNT_CTRL (R500) -/
def CNT_CTRL.CLEAR : Fld := ⟨.CNT_CTRL, 4, 0, .wo, 0⟩
/-! CNT_ARITH (R501) -/
def CNT_ARITH.CYCLES : Fld := ⟨.CNT_ARITH, 47, 0, .ro, 0⟩
/-! CNT_FABRIC (R501) -/
def CNT_FABRIC.CYCLES : Fld := ⟨.CNT_FABRIC, 47, 0, .ro, 0⟩
/-! TRC_CTRL (R502) -/
def TRC_CTRL.ARM : Fld := ⟨.TRC_CTRL, 31, 31, .wo, 0⟩
def TRC_CTRL.TILES : Fld := ⟨.TRC_CTRL, 30, 26, .rw, 0x1f⟩
def TRC_CTRL.KINDS : Fld := ⟨.TRC_CTRL, 24, 16, .rw, 0x1ff⟩
def TRC_CTRL.POST : Fld := ⟨.TRC_CTRL, 15, 12, .rw, 4⟩
def TRC_CTRL.MODE : Fld := ⟨.TRC_CTRL, 1, 0, .rw, 1⟩
/-! TRC_STATUS (R503) -/
def TRC_STATUS.DROPS : Fld := ⟨.TRC_STATUS, 63, 32, .rw, 0⟩
def TRC_STATUS.FROZEN : Fld := ⟨.TRC_STATUS, 31, 31, .ro, 0⟩
def TRC_STATUS.TRIGGERED : Fld := ⟨.TRC_STATUS, 30, 30, .ro, 0⟩
def TRC_STATUS.COUNT : Fld := ⟨.TRC_STATUS, 17, 0, .ro, 0⟩
/-! TRC_RSEQ (R503) -/
def TRC_RSEQ.NEXT : Fld := ⟨.TRC_RSEQ, 31, 0, .ro, 0⟩
/-! SNP_TRIG_CFG (R504) -/
def SNP_TRIG_CFG.BEACON_MS : Fld := ⟨.SNP_TRIG_CFG, 63, 48, .rw, 0⟩
def SNP_TRIG_CFG.SEND_POD : Fld := ⟨.SNP_TRIG_CFG, 47, 47, .rw, 0⟩
def SNP_TRIG_CFG.OUT_EN : Fld := ⟨.SNP_TRIG_CFG, 46, 46, .rw, 0⟩
def SNP_TRIG_CFG.OVERWRITE : Fld := ⟨.SNP_TRIG_CFG, 45, 45, .rw, 0⟩
def SNP_TRIG_CFG.CAPTURE : Fld := ⟨.SNP_TRIG_CFG, 15, 8, .rw, 0x7f⟩
def SNP_TRIG_CFG.EN : Fld := ⟨.SNP_TRIG_CFG, 7, 0, .rw, 0xff⟩
/-! SNP_MATCH (R505) -/
def SNP_MATCH.MASK : Fld := ⟨.SNP_MATCH, 31, 16, .rw, 0xffff⟩
def SNP_MATCH.CODE : Fld := ⟨.SNP_MATCH, 15, 0, .rw, 0⟩
/-! SNP_STATUS (R506) -/
def SNP_STATUS.TRIG_NUM : Fld := ⟨.SNP_STATUS, 63, 48, .ro, 0⟩
def SNP_STATUS.HELD_NUM : Fld := ⟨.SNP_STATUS, 47, 32, .ro, 0⟩
def SNP_STATUS.MISSED : Fld := ⟨.SNP_STATUS, 31, 16, .rw, 0⟩
def SNP_STATUS.HELD : Fld := ⟨.SNP_STATUS, 7, 7, .ro, 0⟩
def SNP_STATUS.IN_STUCK : Fld := ⟨.SNP_STATUS, 6, 6, .ro, 0⟩
def SNP_STATUS.OUT_FAULT : Fld := ⟨.SNP_STATUS, 5, 5, .ro, 0⟩
/-! CVU_CTRL (R517) -/
def CVU_CTRL.POLY : Fld := ⟨.CVU_CTRL, 9, 8, .ro, 0⟩
def CVU_CTRL.ALIVE_IRQ_EN : Fld := ⟨.CVU_CTRL, 1, 1, .rw, 1⟩
def CVU_CTRL.IRQ_EN : Fld := ⟨.CVU_CTRL, 0, 0, .rw, 1⟩
/-! CVU_STATUS (R518) -/
def CVU_STATUS.SKIP : Fld := ⟨.CVU_STATUS, 2, 2, .w1c, 0⟩
def CVU_STATUS.REPEAT : Fld := ⟨.CVU_STATUS, 1, 1, .w1c, 0⟩
def CVU_STATUS.MISMATCH : Fld := ⟨.CVU_STATUS, 0, 0, .w1c, 0⟩
/-! CVU_LOG (R519) -/
def CVU_LOG.COMPUTED : Fld := ⟨.CVU_LOG, 63, 32, .ro, 0⟩
def CVU_LOG.EXPECTED : Fld := ⟨.CVU_LOG, 31, 0, .ro, 0⟩
/-! CVU_COUNTS (R520) -/
def CVU_COUNTS.MISMATCH : Fld := ⟨.CVU_COUNTS, 63, 32, .rw, 0⟩
def CVU_COUNTS.REPEAT : Fld := ⟨.CVU_COUNTS, 31, 16, .rw, 0⟩
def CVU_COUNTS.SKIP : Fld := ⟨.CVU_COUNTS, 15, 0, .rw, 0⟩
/-! SEC_STATUS (R540) -/
def SEC_STATUS.FUSE_SVN : Fld := ⟨.SEC_STATUS, 63, 56, .ro, 0⟩
def SEC_STATUS.FUSE_SVN_STBY : Fld := ⟨.SEC_STATUS, 55, 48, .ro, 0⟩
def SEC_STATUS.IMG_SVN : Fld := ⟨.SEC_STATUS, 47, 40, .ro, 0⟩
def SEC_STATUS.BSCAN : Fld := ⟨.SEC_STATUS, 8, 8, .ro, 0⟩
def SEC_STATUS.DEBUG_OPEN : Fld := ⟨.SEC_STATUS, 7, 7, .ro, 0⟩
def SEC_STATUS.OWNER_ENROLLED : Fld := ⟨.SEC_STATUS, 6, 6, .ro, 0⟩
def SEC_STATUS.KEY_SEL : Fld := ⟨.SEC_STATUS, 5, 5, .ro, 0⟩
def SEC_STATUS.IMAGE : Fld := ⟨.SEC_STATUS, 4, 4, .ro, 0⟩
def SEC_STATUS.FALLBACK : Fld := ⟨.SEC_STATUS, 3, 3, .w1c, 0⟩
/-! SEC_DEBUG (R541) -/
def SEC_DEBUG.REMAIN : Fld := ⟨.SEC_DEBUG, 63, 32, .ro, 0⟩
def SEC_DEBUG.SCOPE : Fld := ⟨.SEC_DEBUG, 2, 1, .ro, 0⟩
def SEC_DEBUG.CLOSE : Fld := ⟨.SEC_DEBUG, 0, 0, .wo, 0⟩
/-! PWR_CAP (R560) -/
def PWR_CAP.CAP_W : Fld := ⟨.PWR_CAP, 15, 0, .rw, 0⟩
/-! PWR_STATUS (R561) -/
def PWR_STATUS.INPUT_W : Fld := ⟨.PWR_STATUS, 63, 48, .ro, 0⟩
def PWR_STATUS.INPUT_DV : Fld := ⟨.PWR_STATUS, 47, 32, .ro, 0⟩
def PWR_STATUS.TJ_MAX : Fld := ⟨.PWR_STATUS, 31, 24, .ro, 0⟩
def PWR_STATUS.STEP : Fld := ⟨.PWR_STATUS, 15, 13, .ro, 0⟩
def PWR_STATUS.CAP_LIMIT : Fld := ⟨.PWR_STATUS, 12, 12, .ro, 0⟩
def PWR_STATUS.THERM_LIMIT : Fld := ⟨.PWR_STATUS, 11, 11, .ro, 0⟩
def PWR_STATUS.CAP_UNMET : Fld := ⟨.PWR_STATUS, 10, 10, .ro, 0⟩
def PWR_STATUS.INPUT_LOW : Fld := ⟨.PWR_STATUS, 9, 9, .ro, 0⟩
def PWR_STATUS.INPUT_HIGH : Fld := ⟨.PWR_STATUS, 8, 8, .ro, 0⟩
def PWR_STATUS.REVERSE_SEEN : Fld := ⟨.PWR_STATUS, 7, 7, .w1c, 0⟩
/-! PWR_RESET_CAUSE (R562) -/
def PWR_RESET_CAUSE.HANDOVER : Fld := ⟨.PWR_RESET_CAUSE, 4, 4, .w1c, 0⟩
def PWR_RESET_CAUSE.REVERTED : Fld := ⟨.PWR_RESET_CAUSE, 3, 3, .w1c, 0⟩
def PWR_RESET_CAUSE.FLR : Fld := ⟨.PWR_RESET_CAUSE, 2, 2, .w1c, 0⟩
def PWR_RESET_CAUSE.FUND : Fld := ⟨.PWR_RESET_CAUSE, 1, 1, .w1c, 0⟩
def PWR_RESET_CAUSE.POWER_ON : Fld := ⟨.PWR_RESET_CAUSE, 0, 0, .w1c, 1⟩
/-! PWR_CLK_STATUS (R563) -/
def PWR_CLK_STATUS.UNLOCKED : Fld := ⟨.PWR_CLK_STATUS, 5, 5, .w1c, 0⟩
def PWR_CLK_STATUS.FABRIC_LOCK : Fld := ⟨.PWR_CLK_STATUS, 4, 4, .ro, 0⟩
def PWR_CLK_STATUS.ARITH_LOCK : Fld := ⟨.PWR_CLK_STATUS, 3, 3, .ro, 0⟩
def PWR_CLK_STATUS.STEP : Fld := ⟨.PWR_CLK_STATUS, 2, 0, .ro, 0⟩
/-! PWR_TILE_CTRL (R564) -/
def PWR_TILE_CTRL.SELFTEST : Fld := ⟨.PWR_TILE_CTRL, 13, 13, .rw, 1⟩
def PWR_TILE_CTRL.GATED : Fld := ⟨.PWR_TILE_CTRL, 12, 8, .ro, 0x10⟩
def PWR_TILE_CTRL.RESET : Fld := ⟨.PWR_TILE_CTRL, 4, 0, .wo, 0⟩
/-! PWR_COOLANT (R578) -/
def PWR_COOLANT.INLET_C : Fld := ⟨.PWR_COOLANT, 63, 56, .ro, 0⟩
def PWR_COOLANT.OUTLET_C : Fld := ⟨.PWR_COOLANT, 55, 48, .ro, 0⟩
def PWR_COOLANT.FLOW : Fld := ⟨.PWR_COOLANT, 47, 32, .ro, 0⟩
def PWR_COOLANT.LEAK : Fld := ⟨.PWR_COOLANT, 7, 7, .ro, 0⟩
def PWR_COOLANT.FLOW_LOW : Fld := ⟨.PWR_COOLANT, 6, 6, .ro, 0⟩
def PWR_COOLANT.HOT : Fld := ⟨.PWR_COOLANT, 5, 5, .ro, 0⟩
def PWR_COOLANT.LEAK_FAULT : Fld := ⟨.PWR_COOLANT, 4, 4, .ro, 0⟩
def PWR_COOLANT.FLOW_FAULT : Fld := ⟨.PWR_COOLANT, 3, 3, .ro, 0⟩
def PWR_COOLANT.TOUT_FAULT : Fld := ⟨.PWR_COOLANT, 2, 2, .ro, 0⟩
def PWR_COOLANT.TIN_FAULT : Fld := ⟨.PWR_COOLANT, 1, 1, .ro, 0⟩
/-! SVC_MGMT_STATUS (R579) -/
def SVC_MGMT_STATUS.ECHO : Fld := ⟨.SVC_MGMT_STATUS, 31, 16, .rw, 0⟩
def SVC_MGMT_STATUS.SMB_RECOVERIES : Fld := ⟨.SVC_MGMT_STATUS, 15, 8, .rw, 0⟩
def SVC_MGMT_STATUS.SCL_STUCK : Fld := ⟨.SVC_MGMT_STATUS, 1, 1, .ro, 0⟩
def SVC_MGMT_STATUS.SDA_STUCK : Fld := ⟨.SVC_MGMT_STATUS, 0, 0, .ro, 0⟩
/-! CNT_BASE_CLEAR (R485) -/
def CNT_BASE_CLEAR.CLEAR : Fld := ⟨.CNT_BASE_CLEAR, 0, 0, .wo, 0⟩

/-- The fields of a register, from the most significant downwards. -/
def RegName.fields : RegName → List Fld
  | .FWA_STATUS => [FWA_STATUS.FORM, FWA_STATUS.BUSY, FWA_STATUS.RES_HARD, FWA_STATUS.RES_SOFT, FWA_STATUS.PARITY, FWA_STATUS.ACC_SAT]
  | .FWA_RESIDUE_LOG => [FWA_RESIDUE_LOG.LAYER_ID, FWA_RESIDUE_LOG.OPERATOR_ID, FWA_RESIDUE_LOG.MICRO_BATCH, FWA_RESIDUE_LOG.COUNT, FWA_RESIDUE_LOG.BLOCK, FWA_RESIDUE_LOG.KIND, FWA_RESIDUE_LOG.SUB_ARRAY]
  | .SIV_CTRL => [SIV_CTRL.PIN, SIV_CTRL.GRAD_TRK_EN, SIV_CTRL.FB_EN, SIV_CTRL.SHADOW_EN]
  | .SIV_STATUS => [SIV_STATUS.DIVERGED, SIV_STATUS.PRE_WIN_SHORT, SIV_STATUS.DRIP_OVF, SIV_STATUS.FB_ACTIVE, SIV_STATUS.SHADOW_BUSY, SIV_STATUS.WIDEN_BUSY, SIV_STATUS.NARROW_BUSY]
  | .SIV_PRE_WIN => [SIV_PRE_WIN.SIZE, SIV_PRE_WIN.BASE]
  | .SIV_TABLES => [SIV_TABLES.TRK_BASE, SIV_TABLES.LTAB_BASE]
  | .SIV_STEP_COUNTS => [SIV_STEP_COUNTS.CHECKED, SIV_STEP_COUNTS.FELL_BACK, SIV_STEP_COUNTS.SHADOW_SKIP, SIV_STEP_COUNTS.GRAD_RERUNS]
  | .BKA_STATUS => [BKA_STATUS.WORK, BKA_STATUS.FORM, BKA_STATUS.BUSY, BKA_STATUS.RES_HARD, BKA_STATUS.RES_SOFT, BKA_STATUS.PARITY, BKA_STATUS.PAIR_WIDE, BKA_STATUS.SUM_INF]
  | .BKA_RESIDUE_LOG => [BKA_RESIDUE_LOG.LAYER_ID, BKA_RESIDUE_LOG.OPERATOR_ID, BKA_RESIDUE_LOG.MICRO_BATCH, BKA_RESIDUE_LOG.COUNT, BKA_RESIDUE_LOG.BLOCK, BKA_RESIDUE_LOG.KIND, BKA_RESIDUE_LOG.SUB_ARRAY]
  | .ACB_CTRL => [ACB_CTRL.CLEAR]
  | .ACB_STATUS => [ACB_STATUS.IDX_RANGE, ACB_STATUS.CHECK_HARD, ACB_STATUS.CHECK_SOFT, ACB_STATUS.SLOT_NONFIN, ACB_STATUS.ORDER_WAIT, ACB_STATUS.BUSY]
  | .ACB_SLOT_GEOM => [ACB_SLOT_GEOM.BASE, ACB_SLOT_GEOM.ROWS, ACB_SLOT_GEOM.COLS, ACB_SLOT_GEOM.LAYER_ID]
  | .ACB_SLOT_STATE => [ACB_SLOT_STATE.SLOT_G, ACB_SLOT_STATE.CONTRIB, ACB_SLOT_STATE.FIRST_MB, ACB_SLOT_STATE.NONFIN, ACB_SLOT_STATE.STATE]
  | .ENG_STEP_CTX => [ENG_STEP_CTX.OPEN, ENG_STEP_CTX.NARROW, ENG_STEP_CTX.CBUF, ENG_STEP_CTX.STEP]
  | .ENG_VERSION_STRIDE => [ENG_VERSION_STRIDE.STRIDE]
  | .ENG_JOB_SEED_LO => [ENG_JOB_SEED_LO.SEED]
  | .ENG_JOB_SEED_HI => [ENG_JOB_SEED_HI.SEED]
  | .ENG_STATUS => [ENG_STATUS.EXP_SEQ, ENG_STATUS.WD, ENG_STATUS.DESC_SOFT, ENG_STATUS.HALTED, ENG_STATUS.HELD, ENG_STATUS.FLUSHING, ENG_STATUS.IDLE, ENG_STATUS.UNIT_BUSY]
  | .ENG_ERR_LOG => [ENG_ERR_LOG.EVENT, ENG_ERR_LOG.SEQ, ENG_ERR_LOG.OPCODE, ENG_ERR_LOG.LAYER_ID, ENG_ERR_LOG.MICRO_BATCH, ENG_ERR_LOG.PASS, ENG_ERR_LOG.FETCH, ENG_ERR_LOG.VALID]
  | .ENG_CQ_CTRL => [ENG_CQ_CTRL.FLUSH]
  | .ENG_CQ_PTR => [ENG_CQ_PTR.TAIL, ENG_CQ_PTR.HEAD]
  | .ENG_WD => [ENG_WD.LIMIT]
  | .ENG_TTAB => [ENG_TTAB.ENTRIES, ENG_TTAB.BASE]
  | .ENG_HYP_BASE => [ENG_HYP_BASE.BASE]
  | .ENG_LR_FACTOR => [ENG_LR_FACTOR.LR_FACTOR]
  | .ENG_SEM => [ENG_SEM.COUNT]
  | .ENG_SEM_ADD => [ENG_SEM_ADD.SEM, ENG_SEM_ADD.INC]
  | .MEM_DECODE_CFG => [MEM_DECODE_CFG.ENABLE, MEM_DECODE_CFG.ACTIVE, MEM_DECODE_CFG.FAILED]
  | .MEM_SPARE_CFG => [MEM_SPARE_CFG.ENABLE, MEM_SPARE_CFG.ACTIVE, MEM_SPARE_CFG.FAILED]
  | .MEM_ERR_LOG => [MEM_ERR_LOG.KIND, MEM_ERR_LOG.SRC, MEM_ERR_LOG.LINE]
  | .MEM_ERR_COUNT => [MEM_ERR_COUNT.SOFT, MEM_ERR_COUNT.HARD]
  | .MEM_RETIRE_STATUS => [MEM_RETIRE_STATUS.RETIRED, MEM_RETIRE_STATUS.MIN_FREE]
  | .MEM_SCRUB => [MEM_SCRUB.GAP]
  | .LAR_STATUS => [LAR_STATUS.POISONED, LAR_STATUS.HARD, LAR_STATUS.SOFT]
  | .LAR_ERR_LOG => [LAR_ERR_LOG.LAYER_ID, LAR_ERR_LOG.WORD, LAR_ERR_LOG.BANK, LAR_ERR_LOG.KIND, LAR_ERR_LOG.REQ, LAR_ERR_LOG.COUNT]
  | .SHN_STATUS => [SHN_STATUS.IDX_RANGE, SHN_STATUS.SKIPPED, SHN_STATUS.OVERLAP, SHN_STATUS.BUSY]
  | .SHN_COUNTS => [SHN_COUNTS.PAD_SKIP, SHN_COUNTS.VALID_SKIP, SHN_COUNTS.IDX_OOR]
  | .CPL_PORT_STATUS => [CPL_PORT_STATUS.STATE, CPL_PORT_STATUS.SPARE_FREE, CPL_PORT_STATUS.SWAPPED, CPL_PORT_STATUS.POL_INV, CPL_PORT_STATUS.ACTIVE]
  | .CPL_LANE_MAP => [CPL_LANE_MAP.PHYS]
  | .CPL_LANE_STATE => [CPL_LANE_STATE.LANE]
  | .CPL_CTRL => [CPL_CTRL.SER_MAX, CPL_CTRL.RETRAIN, CPL_CTRL.ENABLE]
  | .CPL_COUNTS => [CPL_COUNTS.STALE_EPOCH, CPL_COUNTS.LATE_DUP, CPL_COUNTS.UNMATCHED, CPL_COUNTS.E2E_CRC]
  | .CPL_LINK_COUNTS => [CPL_LINK_COUNTS.REPLAYS, CPL_LINK_COUNTS.FEC_UNCORR]
  | .CPL_ROUTE => [CPL_ROUTE.VALID, CPL_ROUTE.DL, CPL_ROUTE.PORTS]
  | .CPL_GROUP => [CPL_GROUP.VALID, CPL_GROUP.NEXT, CPL_GROUP.SIZE, CPL_GROUP.POS, CPL_GROUP.EPOCH]
  | .CPL_XCH_CTRL => [CPL_XCH_CTRL.STALL, CPL_XCH_CTRL.RETRIES, CPL_XCH_CTRL.E2E]
  | .RDU_STATUS => [RDU_STATUS.SUM_INF, RDU_STATUS.MISMATCH, RDU_STATUS.NONFIN, RDU_STATUS.HOLD_FULL, RDU_STATUS.BUSY]
  | .RDU_CTRL => [RDU_CTRL.E2E]
  | .SVC_ROLE => [SVC_ROLE.POD_EPOCH, SVC_ROLE.RANK, SVC_ROLE.STATE, SVC_ROLE.ROLE, SVC_ROLE.MANAGER]
  | .SVC_HB_CFG => [SVC_HB_CFG.TIMEOUT, SVC_HB_CFG.PERIOD]
  | .SVC_COMMIT_CFG => [SVC_COMMIT_CFG.READY_WAIT]
  | .SVC_TENDER_CFG => [SVC_TENDER_CFG.PARTNER, SVC_TENDER_CFG.WARD, SVC_TENDER_CFG.VALID, SVC_TENDER_CFG.TBUF, SVC_TENDER_CFG.STRIDE]
  | .SVC_TENDER_BASE => [SVC_TENDER_BASE.BASE]
  | .SVC_CKPT_CFG => [SVC_CKPT_CFG.REPEAT_MAX, SVC_CKPT_CFG.KEEP, SVC_CKPT_CFG.STORE_MIN, SVC_CKPT_CFG.FLASH_MIN]
  | .SVC_CKPT_STATUS => [SVC_CKPT_STATUS.STEP, SVC_CKPT_STATUS.VALID, SVC_CKPT_STATUS.HOLD, SVC_CKPT_STATUS.EXPORTING, SVC_CKPT_STATUS.FOREIGN]
  | .SVC_CKPT_GEN => [SVC_CKPT_GEN.GEN]
  | .SVC_RECOVERY_STATUS => [SVC_RECOVERY_STATUS.CAUSE, SVC_RECOVERY_STATUS.REPEATS, SVC_RECOVERY_STATUS.PHASE, SVC_RECOVERY_STATUS.OUTCOME, SVC_RECOVERY_STATUS.RANK]
  | .MEM_FLASH_STATUS => [MEM_FLASH_STATUS.WEAR_PCT, MEM_FLASH_STATUS.STATE, MEM_FLASH_STATUS.CH_FAIL, MEM_FLASH_STATUS.WRITE_ERR]
  | .MBX_STATE => [MBX_STATE.REASON, MBX_STATE.HOST_LOST, MBX_STATE.STATE]
  | .MBX_BOOT => [MBX_BOOT.DONE, MBX_BOOT.BUSY, MBX_BOOT.DOORBELL]
  | .MBX_APERTURE => [MBX_APERTURE.BASE]
  | .MBX_CTRL => [MBX_CTRL.LOST_MS, MBX_CTRL.HWD]
  | .MBX_HOST_ALIVE => [MBX_HOST_ALIVE.ALIVE]
  | .MBX_STATUS => [MBX_STATUS.EVT_LOST, MBX_STATUS.BAD_ACCESS, MBX_STATUS.REJECTED]
  | .CNT_CTRL => [CNT_CTRL.CLEAR]
  | .CNT_ARITH => [CNT_ARITH.CYCLES]
  | .CNT_FABRIC => [CNT_FABRIC.CYCLES]
  | .TRC_CTRL => [TRC_CTRL.ARM, TRC_CTRL.TILES, TRC_CTRL.KINDS, TRC_CTRL.POST, TRC_CTRL.MODE]
  | .TRC_STATUS => [TRC_STATUS.DROPS, TRC_STATUS.FROZEN, TRC_STATUS.TRIGGERED, TRC_STATUS.COUNT]
  | .TRC_RSEQ => [TRC_RSEQ.NEXT]
  | .SNP_TRIG_CFG => [SNP_TRIG_CFG.BEACON_MS, SNP_TRIG_CFG.SEND_POD, SNP_TRIG_CFG.OUT_EN, SNP_TRIG_CFG.OVERWRITE, SNP_TRIG_CFG.CAPTURE, SNP_TRIG_CFG.EN]
  | .SNP_MATCH => [SNP_MATCH.MASK, SNP_MATCH.CODE]
  | .SNP_STATUS => [SNP_STATUS.TRIG_NUM, SNP_STATUS.HELD_NUM, SNP_STATUS.MISSED, SNP_STATUS.HELD, SNP_STATUS.IN_STUCK, SNP_STATUS.OUT_FAULT]
  | .CVU_CTRL => [CVU_CTRL.POLY, CVU_CTRL.ALIVE_IRQ_EN, CVU_CTRL.IRQ_EN]
  | .CVU_STATUS => [CVU_STATUS.SKIP, CVU_STATUS.REPEAT, CVU_STATUS.MISMATCH]
  | .CVU_LOG => [CVU_LOG.COMPUTED, CVU_LOG.EXPECTED]
  | .CVU_COUNTS => [CVU_COUNTS.MISMATCH, CVU_COUNTS.REPEAT, CVU_COUNTS.SKIP]
  | .SEC_STATUS => [SEC_STATUS.FUSE_SVN, SEC_STATUS.FUSE_SVN_STBY, SEC_STATUS.IMG_SVN, SEC_STATUS.BSCAN, SEC_STATUS.DEBUG_OPEN, SEC_STATUS.OWNER_ENROLLED, SEC_STATUS.KEY_SEL, SEC_STATUS.IMAGE, SEC_STATUS.FALLBACK]
  | .SEC_DEBUG => [SEC_DEBUG.REMAIN, SEC_DEBUG.SCOPE, SEC_DEBUG.CLOSE]
  | .PWR_CAP => [PWR_CAP.CAP_W]
  | .PWR_STATUS => [PWR_STATUS.INPUT_W, PWR_STATUS.INPUT_DV, PWR_STATUS.TJ_MAX, PWR_STATUS.STEP, PWR_STATUS.CAP_LIMIT, PWR_STATUS.THERM_LIMIT, PWR_STATUS.CAP_UNMET, PWR_STATUS.INPUT_LOW, PWR_STATUS.INPUT_HIGH, PWR_STATUS.REVERSE_SEEN]
  | .PWR_RESET_CAUSE => [PWR_RESET_CAUSE.HANDOVER, PWR_RESET_CAUSE.REVERTED, PWR_RESET_CAUSE.FLR, PWR_RESET_CAUSE.FUND, PWR_RESET_CAUSE.POWER_ON]
  | .PWR_CLK_STATUS => [PWR_CLK_STATUS.UNLOCKED, PWR_CLK_STATUS.FABRIC_LOCK, PWR_CLK_STATUS.ARITH_LOCK, PWR_CLK_STATUS.STEP]
  | .PWR_TILE_CTRL => [PWR_TILE_CTRL.SELFTEST, PWR_TILE_CTRL.GATED, PWR_TILE_CTRL.RESET]
  | .PWR_COOLANT => [PWR_COOLANT.INLET_C, PWR_COOLANT.OUTLET_C, PWR_COOLANT.FLOW, PWR_COOLANT.LEAK, PWR_COOLANT.FLOW_LOW, PWR_COOLANT.HOT, PWR_COOLANT.LEAK_FAULT, PWR_COOLANT.FLOW_FAULT, PWR_COOLANT.TOUT_FAULT, PWR_COOLANT.TIN_FAULT]
  | .SVC_MGMT_STATUS => [SVC_MGMT_STATUS.ECHO, SVC_MGMT_STATUS.SMB_RECOVERIES, SVC_MGMT_STATUS.SCL_STUCK, SVC_MGMT_STATUS.SDA_STUCK]
  | .CNT_BASE_CLEAR => [CNT_BASE_CLEAR.CLEAR]

/-- The window, the offset of register 0, the distance between neighbours and their number. -/
def RegName.place : RegName → Window × Nat × Nat × Nat
  | .FWA_STATUS => (.engine, 0x800, 0, 1)
  | .FWA_RESIDUE_LOG => (.engine, 0x808, 0, 1)
  | .SIV_CTRL => (.engine, 0x900, 0, 1)
  | .SIV_STATUS => (.engine, 0x908, 0, 1)
  | .SIV_PRE_WIN => (.engine, 0x910, 0, 1)
  | .SIV_TABLES => (.engine, 0x918, 0, 1)
  | .SIV_STEP_COUNTS => (.engine, 0x920, 0, 1)
  | .BKA_STATUS => (.engine, 0xA00, 0, 1)
  | .BKA_RESIDUE_LOG => (.engine, 0xA08, 0, 1)
  | .ACB_CTRL => (.engine, 0xB00, 0, 1)
  | .ACB_STATUS => (.engine, 0xB08, 0, 1)
  | .ACB_SLOT_GEOM => (.engine, 0x1000, 16, 256)
  | .ACB_SLOT_STATE => (.engine, 0x1008, 16, 256)
  | .ENG_STEP_CTX => (.engine, 0x100, 0, 1)
  | .ENG_VERSION_STRIDE => (.engine, 0x108, 0, 1)
  | .ENG_JOB_SEED_LO => (.engine, 0x110, 0, 1)
  | .ENG_JOB_SEED_HI => (.engine, 0x118, 0, 1)
  | .ENG_STATUS => (.engine, 0x0, 0, 1)
  | .ENG_ERR_LOG => (.engine, 0x8, 0, 1)
  | .ENG_CQ_CTRL => (.engine, 0x10, 0, 1)
  | .ENG_CQ_PTR => (.engine, 0x18, 0, 1)
  | .ENG_WD => (.engine, 0x20, 0, 1)
  | .ENG_TTAB => (.engine, 0x120, 0, 1)
  | .ENG_HYP_BASE => (.engine, 0x128, 0, 1)
  | .ENG_LR_FACTOR => (.engine, 0x130, 0, 1)
  | .ENG_SEM => (.engine, 0x200, 8, 64)
  | .ENG_SEM_ADD => (.engine, 0x400, 0, 1)
  | .MEM_DECODE_CFG => (.die, 0x800300, 0, 1)
  | .MEM_SPARE_CFG => (.base, 0x0, 0, 1)
  | .MEM_ERR_LOG => (.base, 0x8, 0, 1)
  | .MEM_ERR_COUNT => (.base, 0x10, 0, 1)
  | .MEM_RETIRE_STATUS => (.base, 0x18, 0, 1)
  | .MEM_SCRUB => (.base, 0x20, 0, 1)
  | .LAR_STATUS => (.engine, 0xC00, 0, 1)
  | .LAR_ERR_LOG => (.engine, 0xC08, 0, 1)
  | .SHN_STATUS => (.engine, 0xD00, 0, 1)
  | .SHN_COUNTS => (.engine, 0xD08, 0, 1)
  | .CPL_PORT_STATUS => (.base, 0x100000, 0, 1)
  | .CPL_LANE_MAP => (.base, 0x100008, 0, 1)
  | .CPL_LANE_STATE => (.base, 0x100010, 0, 1)
  | .CPL_CTRL => (.base, 0x100018, 0, 1)
  | .CPL_COUNTS => (.base, 0x100020, 0, 1)
  | .CPL_LINK_COUNTS => (.base, 0x100028, 0, 1)
  | .CPL_ROUTE => (.base, 0x110000, 4, 4096)
  | .CPL_GROUP => (.base, 0x120000, 16, 256)
  | .CPL_XCH_CTRL => (.engine, 0xE00, 0, 1)
  | .RDU_STATUS => (.base, 0x200000, 0, 1)
  | .RDU_CTRL => (.base, 0x200008, 0, 1)
  | .SVC_ROLE => (.service, 0x1000, 0, 1)
  | .SVC_HB_CFG => (.service, 0x1008, 0, 1)
  | .SVC_COMMIT_CFG => (.service, 0x1010, 0, 1)
  | .SVC_TENDER_CFG => (.service, 0x1100, 0, 1)
  | .SVC_TENDER_BASE => (.service, 0x1108, 0, 1)
  | .SVC_CKPT_CFG => (.service, 0x1110, 0, 1)
  | .SVC_CKPT_STATUS => (.service, 0x1118, 0, 1)
  | .SVC_CKPT_GEN => (.service, 0x1120, 0, 1)
  | .SVC_RECOVERY_STATUS => (.service, 0x1128, 0, 1)
  | .MEM_FLASH_STATUS => (.base, 0x400000, 0, 1)
  | .MBX_STATE => (.mbx, 0x1000200, 0, 1)
  | .MBX_BOOT => (.mbx, 0x1000208, 0, 1)
  | .MBX_APERTURE => (.mbx, 0x1000210, 0, 1)
  | .MBX_CTRL => (.mbx, 0x1000218, 0, 1)
  | .MBX_HOST_ALIVE => (.mbx, 0x1000220, 0, 1)
  | .MBX_STATUS => (.mbx, 0x1000228, 0, 1)
  | .CNT_CTRL => (.die, 0x800000, 0, 1)
  | .CNT_ARITH => (.die, 0x280000, 0, 1)
  | .CNT_FABRIC => (.die, 0x280008, 0, 1)
  | .TRC_CTRL => (.die, 0x800100, 0, 1)
  | .TRC_STATUS => (.die, 0x800108, 0, 1)
  | .TRC_RSEQ => (.die, 0x800110, 0, 1)
  | .SNP_TRIG_CFG => (.service, 0x1200, 0, 1)
  | .SNP_MATCH => (.service, 0x1208, 0, 1)
  | .SNP_STATUS => (.service, 0x1210, 0, 1)
  | .CVU_CTRL => (.cvu, 0x0, 0, 1)
  | .CVU_STATUS => (.cvu, 0x8, 0, 1)
  | .CVU_LOG => (.cvu, 0x10, 0, 1)
  | .CVU_COUNTS => (.cvu, 0x18, 0, 1)
  | .SEC_STATUS => (.service, 0x1400, 0, 1)
  | .SEC_DEBUG => (.service, 0x1408, 0, 1)
  | .PWR_CAP => (.service, 0x1500, 0, 1)
  | .PWR_STATUS => (.service, 0x1508, 0, 1)
  | .PWR_RESET_CAUSE => (.service, 0x1510, 0, 1)
  | .PWR_CLK_STATUS => (.die, 0x800200, 0, 1)
  | .PWR_TILE_CTRL => (.die, 0x800208, 0, 1)
  | .PWR_COOLANT => (.service, 0x1518, 0, 1)
  | .SVC_MGMT_STATUS => (.service, 0x1520, 0, 1)
  | .CNT_BASE_CLEAR => (.base, 0x500FF8, 0, 1)

def RegName.window (r : RegName) : Window := r.place.1

/-- The number of units that carry the register: tiles, dies, one service complex, or check-value units. -/
def Window.units : Window → Nat
  | .engine => 80 | .die => 16 | .base => 16 | .service => 1 | .mbx => 1 | .cvu => 132

/-- Field width. -/
def Fld.width (f : Fld) : Nat := f.hi - f.lo + 1
/-- The field's value in a register value. -/
def Fld.get (f : Fld) (v : Nat) : Nat := v / 2 ^ f.lo % 2 ^ f.width
/-- The register value with the field replaced. -/
def Fld.put (f : Fld) (v x : Nat) : Nat := v - f.get v * 2 ^ f.lo + x % 2 ^ f.width * 2 ^ f.lo

/-- The polynomial of a check-value unit, as CVU_CTRL.POLY codes it (R508, R513, R517): CRC-32C everywhere but at instance
2 of each base die, which runs CRC-64 over the flash blocks (DEDUCED, log 5). -/
def cvuPoly (inst : Nat) : Nat := if 80 ≤ inst ∧ inst < 128 ∧ (inst - 80) % 3 = 2 then 2 else 1

/-- The reset value of a register (R9): every field at its own. -/
def RegName.resetValue (r : RegName) (inst : Nat) : Nat :=
  let v := r.fields.foldl (fun v f => f.put v f.rst) 0
  if r = .CVU_CTRL then CVU_CTRL.POLY.put v (cvuPoly inst) else v

/-- The key of a register in the register table: name, unit and index. -/
def RegId.key (r : RegId) : Nat := r.name.ctorIdx * 0x100000 + r.inst * 0x1000 + r.idx

/-- A register that exists: a unit and an index within its tables; the flash registers stand on base dies 4 and 11
(R275). -/
def RegId.exists (r : RegId) : Bool :=
  decide (r.inst < r.name.window.units) && decide (r.idx < r.name.place.2.2.2) &&
    (r.name != .MEM_FLASH_STATUS || r.inst == 4 || r.inst == 11)

end Sys2Proof
end

