-- ==== Sys2Proof/Machine/Table.lean ====
section
/-! DEFINITION. Sparse tables kept in one canonical form: keys strictly rising, no entry equal to the default. -/

namespace Sys2Proof.Machine

/-- A sparse table. A key that is not listed holds the table's default. -/
abbrev Tbl (α : Type) := List (Nat × α)

/-- The value at a key. -/
def tget {α : Type} (dflt : α) : Tbl α → Nat → α
  | [], _ => dflt
  | (k, v) :: t, i => if i = k then v else tget dflt t i

/-- The table without a key's entry. -/
def tdel {α : Type} : Tbl α → Nat → Tbl α
  | [], _ => []
  | (k, v) :: t, i => if i = k then tdel t i else (k, v) :: tdel t i

/-- The table with an entry written at its place. -/
def tput {α : Type} : Tbl α → Nat → α → Tbl α
  | [], i, x => [(i, x)]
  | (k, v) :: t, i, x =>
    if i < k then (i, x) :: (k, v) :: t else if i = k then (i, x) :: t else (k, v) :: tput t i x

/-- The table with a value written at a key: writing the default removes the entry. -/
def tset {α : Type} [DecidableEq α] (dflt : α) (t : Tbl α) (i : Nat) (x : α) : Tbl α :=
  if x = dflt then tdel t i else tput t i x

/-- Every listed key is at least `lo`, the keys rise strictly, and no value is the default. -/
def twf {α : Type} [DecidableEq α] (dflt : α) : Nat → Tbl α → Bool
  | _, [] => true
  | lo, (k, v) :: t => decide (lo ≤ k) && decide (v ≠ dflt) && twf dflt (k + 1) t

/-- What a byte of memory that nothing has written reads as: 0x00 (DESIGN CHOICE, log 2). -/
def memDefault : Byte := 0

/-- The canonical form of the memory: addresses strictly rising, no entry that reads as an unlisted address does. -/
def Memory.wf (m : List Host.Cell) : Bool := twf memDefault 0 m

/-- One byte of memory. -/
def Memory.read (m : List Host.Cell) (a : Nat) : Byte := tget memDefault m a
/-- One byte written. -/
def Memory.write (m : List Host.Cell) (a : Nat) (b : Byte) : List Host.Cell := tset memDefault m a b
/-- The canonical form of any list of cells: a later entry for one address stands. -/
def Memory.rebuild (m : List Host.Cell) : List Host.Cell := m.foldl (fun r c => Memory.write r c.1 c.2) []
/-- The memory in canonical form. -/
def Memory.canon (m : List Host.Cell) : List Host.Cell := if Memory.wf m then m else Memory.rebuild m

end Sys2Proof.Machine
end

