-- ==== Sys2Proof/Machine/State.lean ====
section
/-! DEFINITION. The state of the device as plain data: registers, memory, and everything else the specification gives it,
with the queue of waiting commands. Reset values: the registers' tables, and the log entries named here. -/

namespace Sys2Proof.Machine

/-- A descriptor as its 512-bit little-endian value (R225). -/
abbrev Desc := BitVec 512

/-- The six counted blocks' item counts (R478): BUSY, MASKED, stall cycles by reason code 0x0–0xC, the item's ID and
SEQ_STEP words (R483). -/
structure ItemCnt where
  /-- BUSY cycles (R483). -/
  busy : Nat := 0
  /-- MASKED cycles, blocks 0 and 1 (R483). -/
  masked : Nat := 0
  /-- Stall cycles by reason code 0x0–0xC; STALL is their sum (R483). -/
  stall : Tbl Nat := []
  /-- The ID word of the item (R483). -/
  ident : Nat := 0
  /-- The SEQ_STEP word of the item (R483). -/
  seqStep : Nat := 0
  deriving DecidableEq, Repr

/-- The three banks of one block (R478); IDLE is cumulative only. -/
structure BlockCnt where
  /-- The cumulative bank (R478). -/
  cum : ItemCnt := {}
  /-- IDLE cycles, cumulative only (R483). -/
  idle : Nat := 0
  /-- The current bank: the item that runs (R478). -/
  cur : ItemCnt := {}
  /-- The last bank: the item completed last (R478). -/
  last : ItemCnt := {}
  deriving DecidableEq, Repr

/-- A per-layer entry (R484): BUSY and STALL of block b at 2·b and 2·b + 1, MASKED of blocks 0, 1 at 12, 13, ITEMS at
14. -/
abbrev LayerCnt := Tbl Nat

/-- A dispatched descriptor and its place in queue order (R235). -/
structure Issued where
  /-- Its place in queue order (R235). -/
  n : Nat
  /-- The descriptor (R225). -/
  desc : Desc
  /-- The 128 B plan of an SHN, read at dispatch (R320). -/
  plan : List Byte := []
  /-- The tensor records that it names, read at dispatch: TIDX and the 32 B as a number (R231). -/
  recs : List (Nat × Nat) := []
  deriving DecidableEq, Repr

/-- An FMM whose blocks are written and whose drip corrections are not (R79): the outputs (logical positions) whose
earlier conversion set OVF or NONFIN, and those whose accumulator saturated. -/
structure DripJob where
  /-- The FMM's place in queue order (R79). -/
  n : Nat
  /-- The FMM's descriptor (R79). -/
  desc : Desc
  /-- Outputs whose earlier conversion set OVF (R79). -/
  ovf : List Nat
  /-- Outputs whose earlier conversion set NONFIN (R79). -/
  nonfin : List Nat
  /-- Outputs whose accumulator saturated (R79). -/
  accSat : List Nat
  /-- The FMM's tensor records (R231). -/
  recs : List (Nat × Nat) := []
  deriving DecidableEq, Repr

/-- A check group or a dX group (R124, R241, R242), kept until its check semaphore is signalled. -/
structure Group where
  /-- A forward check group (R124); else a dX group (R242). -/
  fwd : Bool
  /-- LAYER_ID of its commands (R241). -/
  layer : Nat
  /-- MICRO_BATCH of its commands (R241). -/
  mb : Nat
  /-- The check semaphore (R241). -/
  sem : Nat
  /-- No further command joins it (R241, R242). -/
  closed : Bool := false
  /-- The narrowing CVT of a forward group. -/
  cvt : Option Issued := none
  /-- The FMMs, or the dX BMMs, in queue order. -/
  cmds : List Issued := []
  /-- Queue places of the members whose outputs and corrections are written. -/
  done : List Nat := []
  /-- Sampled tiles not yet compared: (queue place of the FMM, τ). -/
  shadow : List (Nat × Nat) := []
  /-- The group runs under SIV_CTRL.PIN (R137). -/
  pinned : Bool := false
  /-- A shadow tile has failed its comparison (R128). -/
  shadowFail : Bool := false
  /-- Its five tests, or a dX group's test, have been evaluated (R130, R140). -/
  evaluated : Bool := false
  /-- The outcome of that evaluation: it fell back (R131, R140). -/
  fellBack : Bool := false
  /-- A shadow tile or a fallback of it has failed hard: it is neither evaluated nor signalled (R131, R177). -/
  dead : Bool := false
  /-- The exponent that a gradient re-run has set for every BMM of a dX group (R140). -/
  g : Option Int := none
  deriving DecidableEq, Repr

/-- A dX command queued again by a gradient re-run (R140): the BMM and the exponent that replaces R138's. -/
structure Rerun where
  /-- The BMM's place in queue order (R140). -/
  n : Nat
  /-- The BMM's descriptor (R140). -/
  desc : Desc
  /-- The exponent that replaces R138's (R140). -/
  g : Int
  /-- The BMM's tensor records (R231). -/
  recs : List (Nat × Nat) := []
  deriving DecidableEq, Repr

/-- A run of a layer's updates on one engine, from FIRST to LAST (R252). -/
structure UpdRun where
  /-- The layer (R252). -/
  layer : Nat
  /-- The largest |m_new| so far, as a G16 magnitude code. -/
  maxM : Nat := 0
  /-- NONFIN_SKIP (R200). -/
  nonfin : Nat := 0
  /-- RANGE_SAT (R201). -/
  rangeSat : Nat := 0
  /-- VU_UPD_NONFIN has been raised in this run (R200, R252). -/
  saidNonfin : Bool := false
  /-- VU_UPD_RANGE has been raised in this run (R201, R252). -/
  saidRange : Bool := false
  /-- TIDX of the weight matrices whose drip overflow has been reported in this run (R118, R202). -/
  saidDrip : List Nat := []
  deriving DecidableEq, Repr

/-- The counts of a statistics record gathered while its command runs (R119–R121). -/
structure RecCnt where
  /-- ELEMS (R119). -/
  elems : Nat := 0
  /-- ZEROS (R119). -/
  zeros : Nat := 0
  /-- SAT (R119). -/
  sat : Nat := 0
  /-- NONFIN (R119). -/
  nonfin : Nat := 0
  /-- DRIP (R119). -/
  drip : Nat := 0
  /-- DRIP_OVF (R119). -/
  dripOvf : Nat := 0
  /-- RUN_MAX as a W32 code (R119, R120). -/
  runMax : Nat := 0
  /-- SUM_SQ as a W32 code (R119, R120). -/
  sumSq : Nat := 0
  /-- SUM_SQ_ERR as a W32 code (R119, R120). -/
  sumSqErr : Nat := 0
  deriving DecidableEq, Repr

/-- A running exchange (R353–R363). -/
structure Xch where
  /-- Its command's place in queue order (R235). -/
  n : Nat
  /-- Its descriptor (R254). -/
  desc : Desc
  /-- 0 SEND, 1 RECV-INTO, 2 REDUCE-INTO (R254). -/
  prim : Nat
  /-- Elements of the exchange (R353). -/
  total : Nat
  /-- A SEND that has found its CTS; a RECV-INTO that has received its first DATA. -/
  started : Bool := false
  /-- Packets that the engine has sent and no acknowledgement has covered, in ascending PSEQ. -/
  unacked : List Packet := []
  /-- Packets that a reduction unit has forwarded, by base die, in its forward buffer until acknowledged (R362). -/
  held : List (Nat × Packet) := []
  /-- The next PSEQ of the stream that this exchange sends (R347). -/
  nextPseq : Nat := 0
  /-- Resends of the engine's packets without acknowledged progress (R363). -/
  resends : Nat := 0
  /-- Resends of each base die's reduction unit without acknowledged progress (R363). -/
  rduResends : Tbl Nat := []
  /-- Elements of this member's contribution read, by chunk (R360). -/
  readN : Tbl Nat := []
  /-- Values whose delivery waits until their chunk's contribution has been read: position, W32 codes, exponent (R360). -/
  parked : List (Nat × List Nat × Int) := []
  /-- Elements delivered (R357). -/
  delivered : Nat := 0
  /-- Counts of the delivered elements for the record (R357). -/
  cnt : RecCnt := {}
  /-- The exponent of this member's elements, SG of its packets (R356). -/
  sg : Int := 0
  /-- The exponent of the delivered elements: SG of the packets, SG_R of a reduction (R356, R360). -/
  sgR : Int := 0
  /-- RDU_SUM_INF has been raised for this reduction (R361). -/
  saidInf : Bool := false
  /-- RDU_NONFIN has been raised for this reduction (R361). -/
  saidNan : Bool := false
  /-- The tensor records that it names (R231). -/
  recs : List (Nat × Nat) := []
  deriving DecidableEq, Repr

/-- A stream as its receiver knows it (R347, R349, R363): `data` tells DATA, PARTIAL and RESULT from CTS. -/
structure RxStream where
  /-- SRC (R347). -/
  src : Nat
  /-- GROUP (R347). -/
  group : Nat
  /-- TAG (R347). -/
  tag : Nat
  /-- DST_L, the engine that receives it (R347). -/
  eng : Nat
  /-- DATA, PARTIAL and RESULT; else CTS (R347). -/
  data : Bool
  /-- PSEQs accepted (R347). -/
  got : List Nat := []
  /-- How many PSEQs are in order from 0 (R363). -/
  inOrder : Nat := 0
  /-- Packets accepted since the last end-to-end acknowledgement (R363). -/
  sinceAck : Nat := 0
  /-- The PSEQ that carried LAST (R347). -/
  last : Option Nat := none
  /-- CPL_LATE_DUP of this stream has been raised (R363). -/
  lateSaid : Bool := false
  deriving DecidableEq, Repr

/-- A tender stream that this device sends for one engine (R409). -/
structure TenderTx where
  /-- The next PSEQ (R409). -/
  nextPseq : Nat := 0
  /-- Packets sent and not acknowledged, in ascending PSEQ (R363, R409). -/
  unacked : List Packet := []
  /-- Resends without acknowledged progress (R363). -/
  resends : Nat := 0
  deriving DecidableEq, Repr

/-- What leaves a port on its lines: a flit, or an alignment codeword with the sender's lane map (R335). -/
inductive LineItem where
  | flit (f : Flit)
  | align (map : Nat)
  deriving DecidableEq, Repr

/-- A lane swap agreed (R340): the logical lane and the codeword at which it moves, counted in the codewords that this port sends
(`own`) or receives. -/
structure LaneMove where
  lane : Nat
  boundary : Nat
  own : Bool
  deriving DecidableEq, Repr

/-- A coupler port beside its registers (R337–R345). Channels are numbered 2·VC + CLASS. -/
structure Port where
  /-- The transmit queue, oldest first: ALIVE and the trailer are set (R516). -/
  queue : List Packet := []
  /-- Bytes of a packet begun in an earlier flit, by channel. -/
  rest : Tbl (List Byte) := []
  /-- The next FSEQ of the transmit side (R343). -/
  nextSeq : Nat := 0
  /-- Flits kept until acknowledged (R343). -/
  replay : List Flit := []
  /-- Flits to be sent again (R343). -/
  again : List Flit := []
  /-- How often each kept flit has been sent since the port came up, by FSEQ (R343). -/
  tries : Tbl Nat := []
  /-- Flit slots since the last management flit (R345). -/
  sinceMgmt : Nat := 8
  /-- Flit slots since the last control flit (R345). -/
  sinceCtl : Nat := 8
  /-- Reduce goes before bulk next (R345). -/
  reduceNext : Bool := true
  /-- Data flits sent by channel (R344). -/
  used : Tbl Nat := []
  /-- Cumulative credits returned for the flits sent, by channel (R344). -/
  credit : Tbl Nat := []
  /-- The expected FSEQ of the receive side (R343). -/
  expSeq : Nat := 0
  /-- Data flits received since the last acknowledgement sent (R343). -/
  sinceAck : Nat := 0
  /-- A NAK is to be sent (R343). -/
  nak : Bool := false
  /-- Bytes of a packet begun and not ended, by channel (R342). -/
  part : Tbl (List Byte) := []
  /-- Whole packets received and not yet taken (R351). -/
  rx : List Packet := []
  /-- Flits freed by channel (R344). -/
  freed : Tbl Nat := []
  /-- The count of freed flits last returned, by channel (R344). -/
  returned : Tbl Nat := []
  /-- Failed training attempts in a row by physical lane (R340). -/
  attempts : Tbl Nat := []
  /-- A lane whose replacement is requested (R340, R341). -/
  swap : Option Nat := none
  /-- The swaps that both sides have agreed (R340). -/
  agreed : List LaneMove := []
  /-- Message bits sent and received since the port trained: the flit streams (R335). -/
  txBits : Nat := 0
  rxBits : Nat := 0
  /-- Alignment codewords sent since the port trained (R335). -/
  aligned : Nat := 0
  /-- The codeword that the next received flit begins in cannot be corrected (R335). -/
  rxBad : Bool := false
  /-- Corrected symbols of the running window by physical lane, and its uncorrectable codewords (R340). -/
  corrected : Tbl Nat := []
  uncorr : Nat := 0
  /-- Link-control bodies waiting to be sent (R340). -/
  ctl : List LinkCtl := []
  /-- What has left on the lines, newest first. -/
  lines : List LineItem := []
  deriving DecidableEq, Repr

/-- A CTS held until its SEND starts (R355). -/
structure CtsHeld where
  /-- SRC of the CTS (R355). -/
  src : Nat
  /-- GROUP of the CTS (R355). -/
  group : Nat
  /-- TAG of the CTS (R355). -/
  tag : Nat
  /-- TOTAL of the CTS (R355). -/
  total : Nat
  /-- OFFSET of the CTS (R355). -/
  offset : Nat := 0
  deriving DecidableEq, Repr

/-- What one physical tile holds beside its registers and memories. -/
structure TileSt where
  /-- Descriptors of the list at HEAD that have been dispatched (R222). -/
  fetchPos : Nat := 0
  /-- The queue place of the next descriptor dispatched. -/
  nextN : Nat := 0
  /-- Dispatched descriptors that have not started, in queue order; a unit's issue queue is its part of this (R235). -/
  issue : List Issued := []
  /-- The MRK hold (R257): the semaphore, the count it must reach, and the MRK's place while it has not completed. -/
  hold : Option (Nat × Nat × Option Nat) := none
  /-- Check groups and dX groups whose check semaphore is not signalled (R124, R241, R242). -/
  groups : List Group := []
  /-- FMMs whose drip corrections are still to be written, in queue order (R79). -/
  drips : List DripJob := []
  /-- dX commands queued again by a gradient re-run (R140). -/
  reruns : List Rerun := []
  /-- Queue places of the FMMs to be recomputed wide, in the order of R134. -/
  fbs : List Nat := []
  /-- Adapter additions allowed: FMMs on frozen matrices whose check semaphore has been signalled (R172). -/
  confirmed : List Issued := []
  /-- Runs of layer updates that have begun and not ended (R252). -/
  updRuns : List UpdRun := []
  /-- Gradient re-runs in this step by 256·layer + micro-batch (R140). -/
  retry : Tbl Nat := []
  /-- Exchanges that run on this engine (R353). -/
  xchs : List Xch := []
  /-- CTS packets held until their SEND starts (R355). -/
  cts : List CtsHeld := []
  /-- The three banks of the six counted blocks, by block number (R478). -/
  blocks : Tbl BlockCnt := []
  /-- Per-layer entries, by LAYER_ID (R484). -/
  layers : Tbl LayerCnt := []
  /-- The bytes that the last ENG_BAD_RECORD or ENG_CHK_MISMATCH named: address and count (R411). -/
  suspect : Nat × Nat := (0, 0)
  /-- The event and the SEQ with which the queue halted (R258). -/
  why : Nat × Nat := (0, 0)
  /-- The tensor records of the command whose work is done at the moment: empty between commands (R231). -/
  recs : List (Nat × Nat) := []
  /-- A per-tile reset is running (R554). -/
  resetting : Bool := false
  /-- Whether the tile may carry a logical engine (R20). -/
  usable : Bool := true
  deriving DecidableEq, Repr

/-- A queue pair (R450–R454, R464). -/
structure QP where
  /-- LOG_CMD: the command ring has 2^LOG_CMD entries (R450). -/
  logCmd : Nat
  /-- LOG_CPL of the completion ring (R450). -/
  logCpl : Nat
  /-- LOG_EVT of the event ring (R450). -/
  logEvt : Nat
  /-- MSI-X vector of the completion ring (R464). -/
  cplVec : Nat
  /-- MSI-X vector of the event ring (R464). -/
  evtVec : Nat
  /-- COAL_COUNT (R464). -/
  coalCount : Nat
  /-- COAL_TIME (R464). -/
  coalTime : Nat
  /-- Host address of the command ring (R450). -/
  cmdBase : Nat
  /-- Host address of the completion ring (R450). -/
  cplBase : Nat
  /-- Host address of the event ring (R450). -/
  evtBase : Nat
  /-- EVT_MASK: the classes of event it takes (R453). -/
  evtMask : Nat
  /-- Entries of the command ring read, counted without wrapping (R451). -/
  cmdHead : Nat := 0
  /-- The last CMD_TAIL written (R451). -/
  cmdTail : Nat := 0
  /-- Completion entries written, counted without wrapping (R448). -/
  cplWr : Nat := 0
  /-- Completion entries freed by CPL_HEAD, counted without wrapping (R451). -/
  cplRd : Nat := 0
  /-- Event entries written, counted without wrapping (R453). -/
  evtWr : Nat := 0
  /-- Event entries freed, counted without wrapping (R453). -/
  evtRd : Nat := 0
  /-- Events dropped since the last entry (LOST). -/
  lost : Bool := false
  /-- The ALIVE expected of the command ring (R515). -/
  cmdAlive : Nat := 0
  /-- The next ALIVE of the completion ring (R515). -/
  cplAlive : Nat := 0
  /-- The next ALIVE of the event ring (R515). -/
  evtAlive : Nat := 0
  /-- Completion entries written since the ring's last interrupt (R464). -/
  cplUnsig : Nat := 0
  /-- Event entries written since the ring's last interrupt (R464). -/
  evtUnsig : Nat := 0
  /-- The queue pair is in ERROR (R454). -/
  error : Bool := false
  /-- Commands started and not completed: the 128 B entries, in ring order (R451). -/
  started : List (List Byte) := []
  /-- The completions of the last 64 completed TAGs, newest first (R449). -/
  kept : List (Nat × List Byte) := []
  deriving DecidableEq, Repr

/-- Bytes that the device has written into host memory (R450, R463): by host address, or into the OUT list of a command
named by its queue pair and TAG. -/
inductive HostWrite where
  | ring (addr : Nat) (bytes : List Byte)
  | out (q : Nat) (tag : Nat) (bytes : List Byte)
  deriving DecidableEq, Repr

/-- An event raised (R13, R453): its code, the rank and the step it carries. -/
structure Event where
  /-- The event's code (R13). -/
  code : Nat
  /-- The step it carries (R453). -/
  step : Nat
  deriving DecidableEq, Repr

/-- The trace RAM of an engine die (R486–R489): the records, oldest first, the post-trigger reservation left, whether a
drop was raised since arming. -/
structure Trace where
  /-- Records of 256 bits, oldest first (R486). -/
  recs : List (BitVec 256) := []
  /-- The post-trigger reservation left, while one counts (R489). -/
  left : Option Nat := none
  /-- A drop has been raised since arming (R488). -/
  dropped : Bool := false
  deriving DecidableEq, Repr

/-- The trigger network and the two pins (R492–R498). -/
structure Trig where
  /-- A trigger is being delivered: sources that fire now are merged (R493). -/
  busy : Bool := false
  /-- Sources of the trigger being delivered (R493). -/
  sources : Nat := 0
  /-- The held snapshot image as R497 lays it out, and whether it replaced one. -/
  image : List (Nat × Nat) := []
  /-- The trigger-out pin is driven. -/
  outDriven : Bool := false
  /-- Trigger-out pulses given so far. -/
  outPulses : Nat := 0
  deriving DecidableEq, Repr

/-- A payload posted by an MRK: the tile, CODE and the bytes (R257). -/
structure Mark where
  /-- The tile whose MRK posted it (R257). -/
  tile : Nat
  /-- CODE (R257). -/
  code : Nat
  /-- The payload bytes (R257). -/
  bytes : List Byte
  deriving DecidableEq, Repr

/-- The fuse block of both complexes (R522); SVN is the count F of set bits, of base die 0 and of base die 15. Never
readable (R523). Written at manufacture with values the manual does not give (log 3). -/
structure Fuses where
  /-- DEVICE_ID (R522; value log 3). -/
  deviceId : Nat := Config.deviceId.toNat
  /-- The hash of the vendor's public key (R522; value log 3). -/
  vendorHash : Nat := Config.vendorKeyHash.toNat
  /-- The hash of the owner's public key, 0 while not enrolled (R522). -/
  ownerHash : Nat := 0
  /-- The count F of set SVN bits in base die 0 (R522). -/
  svn : Nat := 0
  /-- The count F of set SVN bits in base die 15 (R522). -/
  svnStby : Nat := 0
  /-- The identity private key of base die 0 (R522; value log 3). -/
  key : Nat := (Config.identityKey false).toNat
  /-- The identity private key of base die 15 (R522; value log 3). -/
  keyStby : Nat := (Config.identityKey true).toNat
  deriving DecidableEq, Repr

/-- An entry of the key table (R533): DEVICE_ID and the identity public keys of base dies 0 and 15, 64 B each. -/
structure KeyEntry where
  /-- DEVICE_ID (R533). -/
  device : Nat
  /-- The identity public key of base die 0, 64 B (R533). -/
  key0 : List Byte
  /-- The identity public key of base die 15, 64 B (R533). -/
  key15 : List Byte
  deriving DecidableEq, Repr

/-- What the boot flashes keep (R417, R292, R528, R533): both images, the boot record (SEQ, preferred image B), the failed
stack, the unusable tiles and the key table, oldest entry first. -/
structure BootFlash where
  /-- Image A (R528; value log 3). -/
  imageA : List Byte := Config.factoryImage false
  /-- Image B (R528; value log 3). -/
  imageB : List Byte := Config.factoryImage true
  /-- SEQ of the boot record (R528). -/
  seq : Nat := 0
  /-- The boot record prefers image B (R528). -/
  prefB : Bool := false
  /-- The failed stack (R292). -/
  failedStack : Option Nat := none
  /-- Tiles that may carry no engine (R417). -/
  badTiles : List Nat := []
  /-- The key table, oldest entry first (R533). -/
  keys : List KeyEntry := []
  deriving DecidableEq, Repr

/-- An accepted RUN_STEP (R452, R457): `running` from the arrival of its START. -/
structure Armed where
  /-- STEP (R457). -/
  step : Nat
  /-- MICRO, of the command as accepted (R457). -/
  micro : Nat
  /-- LR_FACTOR as a W32 code (R457). -/
  lr : Nat
  /-- Who issued the command. -/
  who : Issuer
  /-- Its TAG (R449). -/
  tag : Nat
  /-- Its START has arrived, and the step runs (R390). -/
  running : Bool := false
  deriving DecidableEq, Repr

/-- A change being published (R387): the part of each recipient, the part of this device, the ranks whose STAGED is
awaited, and the ranks that start their refill once it is active. -/
structure Publishing where
  /-- The part of each recipient, by rank (R387). -/
  parts : List (Nat × Change) := []
  /-- The part of this device (R387). -/
  own : Change
  /-- Ranks whose STAGED is awaited (R387). -/
  waiting : List Nat := []
  /-- The standby has not answered yet: the other PUBLISH messages wait. -/
  standbyFirst : Bool := false
  /-- Ranks that start their refill once the change is active (R418). -/
  refills : List Nat := []
  /-- The class S command that the change completes, with its RESULT0. -/
  cmd : Option (Issuer × Nat × Nat) := none
  deriving DecidableEq, Repr

/-- A fenced rank whose replacement is not published yet (R393): the neighbours that have not answered. -/
structure Fencing where
  /-- The rank fenced (R393). -/
  rank : Nat
  /-- Its DEVICE_ID (R393). -/
  device : Nat
  /-- Neighbours that have not answered (R393). -/
  waiting : List Nat
  /-- Every neighbour has answered, or 50 ms have passed. -/
  due : Bool := false
  /-- Its replacement is published, or on its way. -/
  published : Bool := false
  /-- The rank takes part in steps, so that its seat needs a replacement (R393, R398). -/
  seat : Bool := true
  /-- SVC_GROUP_SHORT has been raised for its groups (R398). -/
  saidShort : Bool := false
  deriving DecidableEq, Repr

/-- A forwarded command that waits for its HOST_CPL (R466). -/
structure Forwarded where
  /-- Its queue pair (R466). -/
  q : Nat
  /-- Its TAG (R466). -/
  tag : Nat
  /-- The rank that it was forwarded to (R466). -/
  rank : Nat
  deriving DecidableEq, Repr

/-- A generation in checkpoint flash (R421): the rank whose state it holds (another than the own one for a foreign
generation, R423), its blocks as one byte string and its manifest. -/
structure Gen where
  /-- Its number (R421). -/
  num : Nat
  /-- The committed step it holds (R421). -/
  step : Nat
  /-- The rank whose state it holds (R421, R423). -/
  rank : Nat
  /-- Its blocks as one byte string (R421). -/
  state : List Byte
  /-- Its manifest (R421). -/
  manifest : List Byte
  /-- It is pod-complete (R421). -/
  podComplete : Bool := false
  /-- It is pinned by an EXPORT (R424). -/
  pinned : Bool := false
  deriving DecidableEq, Repr

/-- A generation that the host supplies for an outcome-3 restore (R427, STORE_BLOCKS). -/
structure StoreIn where
  /-- The generation's number (R427). -/
  num : Nat := 0
  /-- Blocks received, by index (R427). -/
  blocks : Tbl (List Byte) := []
  /-- Its manifest (R427). -/
  manifest : List Byte := []
  deriving DecidableEq, Repr

/-- A restore in progress on the manager (R430, R431): the command, the generation, 0 flash or 1 host, its step, the ranks
that have not answered, and whether they are still checking. -/
structure Restoring where
  /-- The RESTORE command that started it, if one did (R430). -/
  cmd : Option (Issuer × Nat) := none
  /-- The generation (R430). -/
  num : Nat
  /-- 0 flash, 1 host (R430). -/
  source : Nat
  /-- The generation's step (R430). -/
  step : Nat
  /-- Ranks that have not answered (R431). -/
  waiting : List Nat
  /-- They are still checking (R431). -/
  checking : Bool := true
  deriving DecidableEq, Repr

/-- A device being admitted (R395): its rank and entry, the neighbours that have not re-enabled their ports yet, and the command that
it answers. -/
structure Joining where
  /-- The rank given (R395). -/
  rank : Nat
  /-- Its entry, in state JOINING (R395). -/
  entry : RankEntry
  /-- Neighbours that have not answered (R395). -/
  waiting : List Nat := []
  /-- It has been published as JOINING (R395). -/
  published : Bool := false
  /-- It has passed its self-tests (R395). -/
  tested : Bool := false
  /-- The POD_ADMIT that it answers (R456). -/
  cmd : Option (Issuer × Nat) := none
  deriving DecidableEq, Repr

/-- What Dammel keeps of the pod, the step and the program (R378–R401, R411–R431). -/
structure Pod where
  /-- The RUN_STEP accepted here and not completed (R457). -/
  armed : Option Armed := none
  /-- A START that arrived before its RUN_STEP (R390). -/
  startSeen : Option Nat := none
  /-- Repetitions of the step so far (R412). -/
  repeats : Nat := 0
  /-- The tender trailer of the open step has been sent (R409). -/
  trailerSent : Bool := false
  /-- READY of the open step has been sent (R391). -/
  readySent : Bool := false
  /-- The remaining pin count (R137). -/
  pins : Nat := 0
  /-- A change staged by PUBLISH and not activated (R387). -/
  staged : Option Change := none
  /-- A PUBLISH held while the step is open (R387). -/
  heldPublish : Option Mgmt := none
  /-- The rank of the standby manager (R399). -/
  standby : Option Nat := none
  /-- The succession order of takeovers (R399). -/
  order : List Nat := []
  /-- The fence list: device IDs (R381). -/
  fence : List Nat := []
  /-- Manager: the READY sums by rank (R391). -/
  ready : List (Nat × (Nat × Nat × Nat × Nat)) := []
  /-- Manager: the last step that each rank has committed (R390). -/
  committedBy : Tbl Nat := []
  /-- Manager: the decision sent to the standby and not yet answered (R391). -/
  committing : Option (Nat × Nat × Nat) := none
  /-- The decision of the last COMMIT applied here, which a standby sends again on takeover (R401). -/
  lastCommit : Nat × Nat × Nat := (0, 0, 0)
  /-- Manager: the step whose START it has sent last (R390). -/
  startSent : Option Nat := none
  /-- A replaced rank has no memory source (R427). -/
  needRestore : Bool := false
  /-- A new standby is still to be given the tables (R399). -/
  standbyDue : Bool := false
  /-- Manager: aborts of the step in a row, against SVC_REPEAT_LIMIT (R413). -/
  aborts : Nat := 0
  /-- Manager: an abort is in progress; true when the step is repeated after it (R412). -/
  aborting : Option Bool := none
  /-- Manager: the change being published (R387). -/
  publishing : Option Publishing := none
  /-- Ranks that have not activated the last change: the rank under it and the one before it (R387). -/
  unactivated : List (Nat × Nat) := []
  /-- Fenced ranks whose replacement is not published yet (R393). -/
  fencing : List Fencing := []
  /-- Ranks whose replacement is being refilled (R418). -/
  refilling : List Nat := []
  /-- Ranks that repair themselves after an abort (R412). -/
  repairing : List Nat := []
  /-- Planned removals: the rank, whether its device ends ABSENT, and the command (R397). -/
  draining : List (Nat × Bool × Option (Issuer × Nat)) := []
  /-- Ranks whose GET_STATE the manager of a pod just formed awaits (R429). -/
  forming : List Nat := []
  /-- Devices being admitted: their neighbours' ports, then JOINING, then SPARE by a further publish (R395). -/
  joining : List Joining := []
  /-- The spare that has taken the copy of the first rank that drains (R397). -/
  copied : Option Nat := none
  /-- The spare pool is empty and a rank must be replaced; SVC_GROUP_SHORT has been raised (R398). -/
  short : Bool := false
  /-- The epochs of the groups as the manager publishes them (R384). -/
  epochs : Tbl Nat := []
  /-- Hangs seen since the RUN_STEP was accepted: (rank, engine, SEQ, code) (R414). -/
  seen : List (Nat × Nat × Nat × Nat) := []
  /-- Tiles of this device that hung in this flash interval (R417). -/
  hung : List Nat := []
  /-- Tiles of this device with a hard check in this step (R411). -/
  memHung : List Nat := []
  /-- Check mismatches of this device in this step: tile, SEQ, code (R411). -/
  mismatches : List (Nat × Nat × Nat) := []
  /-- Engines of this device whose tile is to be replaced (R417). -/
  replace : List Nat := []
  /-- CPL_LINK_COUNTS.REPLAYS of this device at the step's start, by port (R414). -/
  replays : Tbl Nat := []
  /-- Ranks that voted 1 in this device's takeover (R400). -/
  voters : List Nat := []
  /-- The vote window is open (R400). -/
  voting : Bool := false
  /-- The manager that this device no longer heeds (R400). -/
  unheeded : Option Nat := none
  /-- FB_STORM_PCT (R136; reset value R456). -/
  stormPct : Nat := 25
  /-- FB_POLICY (R136; reset value DESIGN CHOICE, log 7). -/
  policy : Nat := 0
  /-- PIN_K (R136; reset value DESIGN CHOICE, log 7). -/
  pinK : Nat := 1
  /-- The group table as loaded (R382). -/
  plan : List Byte := []
  /-- A program is loaded (R456). -/
  loaded : Bool := false
  /-- Its tensors are bound (R456). -/
  bound : Bool := false
  /-- A committed state has been written: STATE_INIT, RESTORE or a refill (R418, R430). -/
  stateWritten : Bool := false
  /-- The loaded program has the narrow precision mode of ENG_STEP_CTX (R217). -/
  narrow : Bool := false
  /-- The bytes of the loaded program's image (R406). -/
  image : List Byte := []
  /-- The command queue entries of the loaded program, by logical engine (R222). -/
  queues : List (Nat × List (List Byte)) := []
  /-- Manager: the number of the next generation (R421). -/
  genNext : Nat := 1
  /-- Manager: START is held while a generation is taken (R420). -/
  holdStart : Bool := false
  /-- Manager: ranks that have not reported the generation being taken (R421). -/
  genWait : List Nat := []
  /-- Manager: some rank has failed in the generation being taken (R421). -/
  genFailed : Bool := false
  /-- The next generation is pinned when it is complete (R424). -/
  pinNext : Bool := false
  /-- Manager: a generation is due at the next step boundary (R420). -/
  ckptDue : Bool := false
  /-- Generations in checkpoint flash (R421). -/
  gens : List Gen := []
  /-- Pod manifests by generation (R426). -/
  podManifests : List (Nat × List Byte) := []
  /-- Manifest hashes reported to the manager: generation, rank, device, FOREIGN, SHA-256 (R421, R426). -/
  hashes : List (Nat × Nat × Nat × Bool × List Byte) := []
  /-- Pieces of the ward's foreign generation, by offset (R423). -/
  foreignIn : Tbl (List Byte) := []
  /-- A generation that the host supplies (R427). -/
  store : StoreIn := {}
  /-- Manager: the restore in progress (R430). -/
  restoring : Option Restoring := none
  /-- The CHECKPOINT command of the host that a generation answers (R420, R456). -/
  ckptCmd : Option (Issuer × Nat) := none
  /-- A command whose packets to the partner are not all acknowledged: STATE_INIT or TENSOR_WRITE (R409). -/
  sending : Option (Issuer × Nat) := none
  /-- Manifest hashes that ranks report for a restore, by rank (R431). -/
  hashIn : Tbl (List Byte) := []
  /-- Tiles that spare tiles have replaced: old tile, new tile (R274). -/
  moves : List (Nat × Nat) := []
  /-- The address of the pin count in buffer 0 (log 40). -/
  pinAt : Option Nat := none
  /-- Manager: commands forwarded that wait for their HOST_CPL (R466). -/
  forwarded : List Forwarded := []
  /-- Commands that the manager has forwarded here and that have not completed: rank, queue pair, entry (R466). -/
  taken : List (Nat × Nat × List Byte) := []
  /-- The expected ALIVE of the forwarding queue (R466). -/
  takenAlive : Nat := 0
  /-- The next ALIVE of the forwarding queue of each rank (R466). -/
  fwdAlive : Tbl Nat := []
  deriving DecidableEq, Repr

/-- The power controller (R545–R547, R568, R569). Held times are counts of 100 µs samples. -/
structure Power where
  /-- The module is on (R543, R555). -/
  on : Bool := false
  /-- The engine die and base die rails are on (R547). -/
  rails : Bool := false
  /-- The input stage has disconnected the module (R543). -/
  cut : Bool := false
  /-- The input stage has latched a reversal (R543). -/
  reversed : Bool := false
  /-- Input power, newest first, at most 1,000 samples (R545). -/
  watts : List Nat := []
  /-- Samples since the last change of the cap's step (R546). -/
  since : Nat := 1000
  /-- The step that the power cap selects (R546). -/
  capStep : Nat := 0
  /-- PWR_CAP_UNMET has been raised in this excursion (R546). -/
  unmetSaid : Bool := false
  /-- The step that the thermal limit selects (R547). -/
  thermStep : Nat := 0
  /-- Samples since the thermal limit last moved down (R547). -/
  thermSince : Nat := 20
  /-- Samples in a row at 92 °C or less (R547). -/
  cool : Nat := 0
  /-- The input hold sets its floor (R543, R546). -/
  inputHold : Bool := false
  /-- PWR_INPUT_HIGH has been raised in this excursion (R543). -/
  highSaid : Bool := false
  /-- The floor set by the coolant's outlet temperature (R568). -/
  hotFloor : Nat := 0
  /-- The floor set by the coolant's flow (R568). -/
  flowFloor : Nat := 0
  /-- Samples in a row with the outlet at or above 60 °C (R568). -/
  hot60 : Nat := 0
  /-- Samples in a row with the outlet at or above 65 °C (R568). -/
  hot65 : Nat := 0
  /-- Samples in a row with the outlet at or below 55 °C (R568). -/
  hotClear : Nat := 0
  /-- Samples in a row with the flow below its higher limit (R568). -/
  low30 : Nat := 0
  /-- Samples in a row with the flow below its lower limit (R568). -/
  low15 : Nat := 0
  /-- Samples in a row with the flow at or above its clearing limit (R568). -/
  lowClear : Nat := 0
  /-- Samples in a row with the leak sensor wet (R568). -/
  wet : Nat := 0
  /-- PWR_LEAK has been raised in this excursion (R568, R569). -/
  leakSaid : Bool := false
  deriving DecidableEq, Repr

/-- The service processor beside Dammel: boot, debug, handover, host link, management bus. -/
structure Service where
  /-- The image that runs, resident in service memory (R553). -/
  resident : List Byte := []
  /-- An image loaded by FW_ACTIVATE, image B or A, with its command (R556). -/
  activating : Option (Bool × Issuer × Nat) := none
  /-- Challenge, SCOPE and DURATION of DEBUG_UNLOCK phase 0 (R538). -/
  challenge : Option (Nat × Nat × Nat) := none
  /-- SEC_SVN_DEFERRED has been raised and the count F is still to advance (R531). -/
  svnDeferred : Bool := false
  /-- Changes of the liveness count that the standby complex has seen (R416). -/
  liveness : Nat := 0
  /-- The standby complex has taken control (R416). -/
  switched : Bool := false
  /-- PCIe: the link is up (PRESUMED, log 4). -/
  linkUp : Bool := true
  /-- The function is in D3hot (R465). -/
  d3hot : Bool := false
  /-- The bootstrap mailbox's inbound buffer as the host wrote it (R455). -/
  inbound : List Byte := []
  /-- Its outbound buffer as the host reads it (R455). -/
  outbound : List Byte := []
  /-- The expected ALIVE of the bootstrap mailbox (R515). -/
  bootAlive : Nat := 0
  /-- The next ALIVE of the bootstrap completions (R515). -/
  bootCpl : Nat := 0
  /-- Writes of MBX_HOST_ALIVE: the host watchdog's restarts (R465, R471). -/
  hostAlive : Nat := 0
  /-- Configuration registers that the host has written (R440). -/
  configWrites : List Nat := []
  /-- Commands that run on although their queue pair is destroyed (R441). -/
  orphans : List (Nat × List Byte) := []
  /-- Failed recovery attempts of a stuck management bus in a row (R576). -/
  smbTries : Nat := 0
  /-- OUT_EN has been written 0 since the trigger-out driver switched off (R495). -/
  outEnLow : Bool := false
  /-- An echo has been reported since ECHO was last written (R577). -/
  echoSaid : Bool := false
  deriving DecidableEq, Repr

/-- The handover record (R416, R557): what Dammel resumes from. -/
structure Record where
  /-- The queue pairs (R416). -/
  qps : Tbl (Option QP) := []
  /-- The rank map (R416). -/
  ranks : Tbl RankEntry := []
  /-- The member lists (R416). -/
  members : Tbl (List Nat) := []
  /-- The next PSEQ of management messages per destination (R416). -/
  mgmtSeq : Tbl Nat := []
  /-- Management messages without a reply yet (R416). -/
  awaiting : List Mgmt := []
  /-- The committed step (R416). -/
  committed : Nat := 0
  /-- The pod tables (R416). -/
  pod : Pod := {}
  /-- Service registers, by key (R416). -/
  registers : List (Nat × Nat) := []
  deriving DecidableEq, Repr

/-- The device. -/
structure Dev where
  /-- Registers that differ from their reset values, by `RegId.key`. -/
  regs : Tbl Nat := []
  /-- Bytes of the 48-bit device address space (R271). -/
  mem : List Host.Cell := []
  /-- Stored line check XOR correct check, by line address div 64 (R281, R283); all ones is poison. -/
  lineX : Tbl Nat := []
  /-- Stored check byte XOR correct one, by byte address div 32 (R178, R294). -/
  wordX : Tbl Nat := []
  /-- The 80 physical tiles, where they differ from their reset state (R1, R4). -/
  tiles : Tbl TileSt := []
  /-- The physical tile of each logical engine, where it differs from the reset mapping (R4). -/
  engMap : Tbl Nat := []
  /-- The model's own counter for free values (log 1). -/
  free : Nat := 0
  /-- The queue pairs by number, none while not created (R450). -/
  qps : Tbl (Option QP) := []
  /-- Bytes written to host memory, newest first. -/
  hostOut : List HostWrite := []
  /-- MSI-X messages signalled, newest first (R464). -/
  msi : List Nat := []
  /-- MSI-X vectors that the host has unmasked (R445; masked at reset PRESUMED, log 6). -/
  msixOpen : List Nat := []
  /-- MSI-X pending bits (R445). -/
  msixPending : List Nat := []
  /-- Events raised, newest first (R453). -/
  events : List Event := []
  /-- The trace RAMs of the engine dies (R486). -/
  traces : Tbl Trace := []
  /-- The trigger network (R492–R498). -/
  trig : Trig := {}
  /-- The committed step number c (R216). -/
  committed : Nat := 0
  /-- The step open on this device (R216, R390). -/
  openStep : Option Nat := none
  /-- Management messages sent, newest first (R386). -/
  mgmtOut : List Mgmt := []
  /-- Management messages sent that have no reply yet (R386). -/
  awaiting : List Mgmt := []
  /-- The next PSEQ of management messages, per destination (R386). -/
  mgmtSeq : Tbl Nat := []
  /-- The rank map (R381) as this device holds it. -/
  ranks : Tbl RankEntry := []
  /-- Payloads that MRK commands posted to Dammel, newest first (R257). -/
  marks : List Mark := []
  /-- The coupler ports, beside their registers (R334–R345). -/
  ports : Tbl Port := []
  /-- Streams that this device receives (R347). -/
  streams : List RxStream := []
  /-- Tender streams sent, by logical engine (R409). -/
  tenderTx : Tbl TenderTx := []
  /-- The next ALIVE of each packet stream sent, by (DST, VC, PATH) (R515). -/
  txAlive : Tbl Nat := []
  /-- The ALIVE expected by (die, SRC, VC, PATH) (R515, R516). -/
  rxAlive : Tbl (Option Nat) := []
  /-- Groups whose stale packets have been reported in this step (R349). -/
  staleSaid : List Nat := []
  /-- Destinations without a route that have been reported (R352). -/
  noRouteSaid : List Nat := []
  /-- The member lists of the groups as this device knows them (R382). -/
  members : Tbl (List Nat) := []
  /-- The region table (R285), as TENSOR_BIND has placed it. -/
  regions : List RegionEnt := []
  /-- The bytes S_w of the ward's state (R406). -/
  wardBytes : Nat := 0
  /-- The bytes P_w of the ward's program (R406). -/
  wardProgram : Nat := 0
  /-- The trailer of the ward's last tender stream: committed step and remaining pin count (R409). -/
  wardTrailer : Nat × Nat := (0, 0)
  /-- The engine die whose decoder issues the DRAM requests of the command at work, none for requests that a base die decodes
  (R277); none between commands. -/
  via : Option Nat := none
  /-- Writes of the command at work that were answered by an error, as stops, each once (R272, R282, R296, R297); empty between
  commands. -/
  slips : List Nat := []
  /-- The stack that Dammel must treat as failed and has not remapped yet (R289, R292). -/
  stackDue : Option Nat := none
  /-- The retirement map: for a retired row, 1 + the number of the bank's spare row that holds it, by chunk number (R287, R302). -/
  rowMap : Tbl Nat := []
  /-- The LAYER_ID of the last SIV_GRAD_DIVERGED (R141). -/
  divLayer : Nat := 0
  /-- How many of the management messages sent have been put into packets (R386). -/
  mgmtPacked : Nat := 0
  /-- Soft counts by DRAM row, a row being named by its chunk number (R288). -/
  rowSoft : Tbl Nat := []
  /-- Spare rows taken, by bank 512·stack + 32·channel + bank (R287, R289). -/
  bankUsed : Tbl Nat := []
  /-- Hard failures by stack in this checkpoint interval (R292). -/
  stackHard : Tbl Nat := []
  /-- The next line of each stack's patrol (R290). -/
  scrubPos : Tbl Nat := []
  /-- Device addresses of lines and words that failed hard and await recovery by class (R286, R412). -/
  lost : List Nat := []
  /-- Those of `lost` that held input bytes which the host has not confirmed (R286, R412). -/
  lostInput : List Nat := []
  /-- The program copy in checkpoint flash: the bytes of the PROGRAM regions in ascending address (R406, R421). -/
  programCopy : List Byte := []
  /-- Refusals in a row by larder bank and requester: 7·(64·tile + bank) + requester (R21). -/
  larWait : Tbl Nat := []
  /-- What the last read command returned (R272, R443). -/
  answer : List Byte := []
  /-- Whether it came back poisoned or as an error (R272, R282). -/
  answerBad : Bool := false
  /-- Counters of the base dies (R485), by 512·die + offset div 8. -/
  baseCnt : Tbl Nat := []
  /-- The fuse blocks (R522). -/
  fuses : Fuses := {}
  /-- The boot flashes (R292, R417, R528, R533). -/
  flash : BootFlash := {}
  /-- Pod, step and program (R378–R431). -/
  pod : Pod := {}
  /-- The power controller (R543–R547, R568). -/
  power : Power := {}
  /-- The service processor (R416, R439–R471). -/
  svc : Service := {}
  /-- The handover record (R416, R557). -/
  handover : Record := {}
  /-- PSEQs of management messages accepted, by source rank (R386). -/
  mgmtSeen : Tbl (List Nat) := []
  /-- What each rank last said in a HEARTBEAT: role, committed step, OPEN (R386). -/
  peers : Tbl (Nat × Nat × Bool) := []
  /-- Wear of the checkpoint flash in bytes written, by flash interface (R423). -/
  flashBytes : Nat := 0
  deriving DecidableEq, Repr

/-- Who raises a fault: a command whose operand lies outside the module's ratings (R543). Safe: the machine stops where
the specification says only that damage is possible. -/
inductive Fault where
  /-- An input above 80 V, or reversed beyond −80 V, "outside the ratings; damage possible" (R543). Safe. -/
  | outsideRatings
  deriving DecidableEq, Repr

/-- Refusals. Safe: a refused command has no meaning yet. -/
inductive Refusal where
  /-- A command without a meaning, by its mnemonic; raised only by the dispatcher's arms. Safe. -/
  | notModelled (mnemonic : String)
  deriving DecidableEq, Repr

/-- The state: the commands waiting, first in, first out, and the device. -/
structure State where
  /-- The commands waiting, first in, first out. -/
  pending : List Instr := []
  /-- The device. -/
  dev : Dev := {}
  deriving DecidableEq, Repr

/-- The machine right after power-on reset (R552, R555): every register at its table's reset value, every other item as
the log entries say, no command waiting. -/
def State.reset : State := {}

end Sys2Proof.Machine
end

