-- ==== Sys2Proof/Machine/Updates.lean ====
section
/-! DEFINITION. One update of the device per field, so that a meaning writes down which parts of the device it changes. -/

namespace Sys2Proof.Machine

def Dev.withRegs (d : Dev) (x : Tbl Nat) : Dev := { d with regs := x }
def Dev.withMem (d : Dev) (x : List Host.Cell) : Dev := { d with mem := x }
def Dev.withLineX (d : Dev) (x : Tbl Nat) : Dev := { d with lineX := x }
def Dev.withWordX (d : Dev) (x : Tbl Nat) : Dev := { d with wordX := x }
def Dev.withTiles (d : Dev) (x : Tbl TileSt) : Dev := { d with tiles := x }
def Dev.withEngMap (d : Dev) (x : Tbl Nat) : Dev := { d with engMap := x }
def Dev.withFree (d : Dev) (x : Nat) : Dev := { d with free := x }
def Dev.withQps (d : Dev) (x : Tbl (Option QP)) : Dev := { d with qps := x }
def Dev.withHostOut (d : Dev) (x : List HostWrite) : Dev := { d with hostOut := x }
def Dev.withMsi (d : Dev) (x : List Nat) : Dev := { d with msi := x }
def Dev.withMsixOpen (d : Dev) (x : List Nat) : Dev := { d with msixOpen := x }
def Dev.withMsixPending (d : Dev) (x : List Nat) : Dev := { d with msixPending := x }
def Dev.withEvents (d : Dev) (x : List Event) : Dev := { d with events := x }
def Dev.withTraces (d : Dev) (x : Tbl Trace) : Dev := { d with traces := x }
def Dev.withTrig (d : Dev) (x : Trig) : Dev := { d with trig := x }
def Dev.withCommitted (d : Dev) (x : Nat) : Dev := { d with committed := x }
def Dev.withOpenStep (d : Dev) (x : Option Nat) : Dev := { d with openStep := x }
def Dev.withMgmtOut (d : Dev) (x : List Mgmt) : Dev := { d with mgmtOut := x }
def Dev.withAwaiting (d : Dev) (x : List Mgmt) : Dev := { d with awaiting := x }
def Dev.withMgmtSeq (d : Dev) (x : Tbl Nat) : Dev := { d with mgmtSeq := x }
def Dev.withRanks (d : Dev) (x : Tbl RankEntry) : Dev := { d with ranks := x }
def Dev.withMarks (d : Dev) (x : List Mark) : Dev := { d with marks := x }
def Dev.withPorts (d : Dev) (x : Tbl Port) : Dev := { d with ports := x }
def Dev.withStreams (d : Dev) (x : List RxStream) : Dev := { d with streams := x }
def Dev.withTenderTx (d : Dev) (x : Tbl TenderTx) : Dev := { d with tenderTx := x }
def Dev.withTxAlive (d : Dev) (x : Tbl Nat) : Dev := { d with txAlive := x }
def Dev.withRxAlive (d : Dev) (x : Tbl (Option Nat)) : Dev := { d with rxAlive := x }
def Dev.withStaleSaid (d : Dev) (x : List Nat) : Dev := { d with staleSaid := x }
def Dev.withNoRouteSaid (d : Dev) (x : List Nat) : Dev := { d with noRouteSaid := x }
def Dev.withMembers (d : Dev) (x : Tbl (List Nat)) : Dev := { d with members := x }
def Dev.withRegions (d : Dev) (x : List RegionEnt) : Dev := { d with regions := x }
def Dev.withWardBytes (d : Dev) (x : Nat) : Dev := { d with wardBytes := x }
def Dev.withWardProgram (d : Dev) (x : Nat) : Dev := { d with wardProgram := x }
def Dev.withWardTrailer (d : Dev) (x : Nat × Nat) : Dev := { d with wardTrailer := x }
def Dev.withRowSoft (d : Dev) (x : Tbl Nat) : Dev := { d with rowSoft := x }
def Dev.withBankUsed (d : Dev) (x : Tbl Nat) : Dev := { d with bankUsed := x }
def Dev.withVia (d : Dev) (x : Option Nat) : Dev := { d with via := x }
def Dev.withSlips (d : Dev) (x : List Nat) : Dev := { d with slips := x }
def Dev.withStackDue (d : Dev) (x : Option Nat) : Dev := { d with stackDue := x }
def Dev.withRowMap (d : Dev) (x : Tbl Nat) : Dev := { d with rowMap := x }
def Dev.withDivLayer (d : Dev) (x : Nat) : Dev := { d with divLayer := x }
def Dev.withMgmtPacked (d : Dev) (x : Nat) : Dev := { d with mgmtPacked := x }
def Dev.withStackHard (d : Dev) (x : Tbl Nat) : Dev := { d with stackHard := x }
def Dev.withScrubPos (d : Dev) (x : Tbl Nat) : Dev := { d with scrubPos := x }
def Dev.withLost (d : Dev) (x : List Nat) : Dev := { d with lost := x }
def Dev.withLostInput (d : Dev) (x : List Nat) : Dev := { d with lostInput := x }
def Dev.withProgramCopy (d : Dev) (x : List Byte) : Dev := { d with programCopy := x }
def Dev.withLarWait (d : Dev) (x : Tbl Nat) : Dev := { d with larWait := x }
def Dev.withAnswer (d : Dev) (x : List Byte) : Dev := { d with answer := x }
def Dev.withAnswerBad (d : Dev) (x : Bool) : Dev := { d with answerBad := x }
def Dev.withBaseCnt (d : Dev) (x : Tbl Nat) : Dev := { d with baseCnt := x }
def Dev.withFuses (d : Dev) (x : Fuses) : Dev := { d with fuses := x }
def Dev.withFlash (d : Dev) (x : BootFlash) : Dev := { d with flash := x }
def Dev.withPod (d : Dev) (x : Pod) : Dev := { d with pod := x }
def Dev.withPower (d : Dev) (x : Power) : Dev := { d with power := x }
def Dev.withSvc (d : Dev) (x : Service) : Dev := { d with svc := x }
def Dev.withHandover (d : Dev) (x : Record) : Dev := { d with handover := x }
def Dev.withMgmtSeen (d : Dev) (x : Tbl (List Nat)) : Dev := { d with mgmtSeen := x }
def Dev.withPeers (d : Dev) (x : Tbl (Nat × Nat × Bool)) : Dev := { d with peers := x }
def Dev.withFlashBytes (d : Dev) (x : Nat) : Dev := { d with flashBytes := x }

end Sys2Proof.Machine
end

