-- ==== Sys2Proof/Machine/Ops.lean ====
section
/-! DEFINITION. The named operations over registers, memory, events, trace, counters and semaphores that the meanings
share. -/

namespace Sys2Proof.Machine

/-! ## Registers -/

/-- The value of a register (R9). -/
def Dev.reg (d : Dev) (r : RegId) : Nat := tget (r.name.resetValue r.inst) d.regs r.key
/-- A register replaced. -/
def Dev.setReg (d : Dev) (r : RegId) (v : Nat) : Dev :=
  (d.withRegs (tset (r.name.resetValue r.inst) d.regs r.key v))
/-- A field of a register of unit `inst`, number `idx`. -/
def Dev.fld (d : Dev) (f : Fld) (inst : Nat := 0) (idx : Nat := 0) : Nat := f.get (d.reg ⟨f.reg, inst, idx⟩)
/-- A field replaced, by hardware. -/
def Dev.setFld (d : Dev) (f : Fld) (v : Nat) (inst : Nat := 0) (idx : Nat := 0) : Dev :=
  d.setReg ⟨f.reg, inst, idx⟩ (f.put (d.reg ⟨f.reg, inst, idx⟩) v)
/-- A one-bit field as a Bool. -/
def Dev.flag (d : Dev) (f : Fld) (inst : Nat := 0) (idx : Nat := 0) : Bool := d.fld f inst idx == 1
/-- A count advanced by k, saturating at its field's end. -/
def Dev.bump (d : Dev) (f : Fld) (k : Nat := 1) (inst : Nat := 0) (idx : Nat := 0) : Dev :=
  d.setFld f (Nat.min (d.fld f inst idx + k) (2 ^ f.width - 1)) inst idx

/-- The value of a register after a write of `v` acts by the access code of each field (R9): `booted` locks RL fields. A
write to a WO field has no effect of its own here. -/
def writeByAccess (r : RegId) (booted : Bool) (old v : Nat) : Nat :=
  r.name.fields.foldl (fun x f =>
    let w := f.get v
    match f.acc with
    | .rw | .rws => f.put x w
    | .w1c => f.put x (f.get old - Nat.land (f.get old) w)
    | .w1s => f.put x (Nat.lor (f.get old) w)
    | .rl => if booted then x else f.put x w
    | .ro | .wo => x) old

/-- What a read of a register returns: WO fields read 0 (R9). -/
def Dev.readReg (d : Dev) (r : RegId) : Nat :=
  r.name.fields.foldl (fun x f => if f.acc = .wo then f.put x 0 else x) (d.reg r)

/-! ## Tiles -/

def Dev.tile (d : Dev) (p : Nat) : TileSt := tget {} d.tiles p
def Dev.setTile (d : Dev) (p : Nat) (t : TileSt) : Dev := d.withTiles (tset {} d.tiles p t)
def Dev.modTile (d : Dev) (p : Nat) (f : TileSt → TileSt) : Dev := d.setTile p (f (d.tile p))

/-- The physical tile of a logical engine: 5·(L div 4) + L mod 4 at reset (R4). -/
def Dev.tileOf (d : Dev) (l : Nat) : Nat := tget (5 * (l / 4) + l % 4) d.engMap l
/-- The logical engine that a tile carries. -/
def Dev.engOf (d : Dev) (p : Nat) : Option Nat := (List.range 64).find? (fun l => d.tileOf l == p)
/-- The tiles that carry a logical engine, in engine order. -/
def Dev.activeTiles (d : Dev) : List Nat := (List.range 64).map d.tileOf

/-! ## Free values (log 1) -/

/-- A fresh value that the specification leaves open. -/
def Dev.fresh (d : Dev) : Nat × Dev := (Config.freeNat d.free, (d.withFree (d.free + 1)))
def Dev.freshW32 (d : Dev) : BitVec 32 × Dev := (Config.freeW32 d.free, (d.withFree (d.free + 1)))

/-! ## The device address map (R271–R273) -/

/-- Where a device address lies. -/
inductive Region where
  | dram
  | larder (p : Nat) (off : Nat)
  | acb (p : Nat) (off : Nat)
  | engRegs (p : Nat) (off : Nat)
  | queue (p : Nat) (off : Nat)
  | dieRegs (x : Nat) (off : Nat)
  | baseRegs (s : Nat) (off : Nat)
  | service (off : Nat)
  | unmapped
  deriving DecidableEq, Repr

/-- Whether stack sparing is enabled, as the decoder of the request says: the engine die's own for the commands of its tiles
(R277), the base dies' for other requests (R299). -/
def Dev.sparing (d : Dev) : Bool :=
  match d.via with
  | some x => d.flag MEM_DECODE_CFG.ENABLE x
  | none => d.flag MEM_SPARE_CFG.ENABLE 0

/-- The end of DRAM: 960 GiB with sparing, else 1 TiB (R271). -/
def Dev.dramEnd (d : Dev) : Nat := if d.sparing then 0xF000000000 else 0x10000000000

def Dev.region (d : Dev) (a : Nat) : Region :=
  if a < d.dramEnd then .dram
  else if 0x10000000000 ≤ a ∧ a < 0x10000000000 + 80 * 0x4000000 then
    let p := (a - 0x10000000000) / 0x4000000
    let o := (a - 0x10000000000) % 0x4000000
    if o < 0x2000000 then .larder p o
    else if o < 0x2800000 then .acb p (o - 0x2000000)
    else if o < 0x3000000 then .unmapped
    else if o < 0x3010000 then .engRegs p (o - 0x3000000)
    else if o < 0x3012000 then .queue p (o - 0x3010000)
    else .unmapped
  else if 0x20000000000 ≤ a ∧ a < 0x20000000000 + 16 * 0x1000000 then
    .dieRegs ((a - 0x20000000000) / 0x1000000) (a % 0x1000000)
  else if 0x20100000000 ≤ a ∧ a < 0x20100000000 + 16 * 0x1000000 then
    .baseRegs ((a - 0x20100000000) / 0x1000000) (a % 0x1000000)
  else if 0x20200000000 ≤ a ∧ a < 0x20201000000 then .service (a % 0x1000000)
  else .unmapped

/-- The device address of a tile's window (R271). -/
def tileBase (p : Nat) : Nat := 0x10000000000 + p * 0x4000000
/-- The device address of a larder offset. -/
def larderAddr (p off : Nat) : Nat := tileBase p + off
/-- The device address of an accumulator buffer offset (R297). -/
def acbAddr (p off : Nat) : Nat := tileBase p + 0x2000000 + off
/-- The device address of a command-queue entry (R221). -/
def queueAddr (p i : Nat) : Nat := tileBase p + 0x3010000 + 32 * i

/-- Whether an address holds bytes that a read or a write of data reaches: DRAM, larder, accumulator buffer or command
queue. -/
def Dev.isData (d : Dev) (a : Nat) : Bool :=
  match d.region a with
  | .dram | .larder _ _ | .acb _ _ | .queue _ _ => true
  | _ => false

/-- Every byte of a range holds data; a range is cut at region ends, so its two ends and the gap between decide. -/
def Dev.rangeData (d : Dev) (a n : Nat) : Bool :=
  n == 0 || (d.isData a && d.isData (a + n - 1) &&
    (decide (a + n ≤ d.dramEnd) ||
      (decide (0x10000000000 ≤ a) && (a / 0x4000000 == (a + n - 1) / 0x4000000) &&
        (decide (a % 0x4000000 + n ≤ 0x2800000) || decide (0x3010000 ≤ a % 0x4000000)))))

/-! ## DRAM interleave and distributed sparing (R278, R291) -/

/-- The home stack and the stack-local address of a DRAM address (R278). -/
def homeStack (a : Nat) : Nat := a / 2048 % 16
def localAddr (a : Nat) : Nat := a / 2048 / 16 * 2048 + a % 2048
/-- The address that R278 alone places at a stack-local address of a stack: it names the place. -/
def cellAt (s l : Nat) : Nat := (l / 2048 * 16 + s) * 2048 + l % 2048

/-- The failed stack while its chunks are remapped, as the decoder of the request says (R277, R291, R299). -/
def Dev.failed (d : Dev) : Option Nat :=
  match d.via with
  | some x => if d.sparing ∧ d.flag MEM_DECODE_CFG.ACTIVE x then some (d.fld MEM_DECODE_CFG.FAILED x) else none
  | none => if d.sparing ∧ d.flag MEM_SPARE_CFG.ACTIVE 0 then some (d.fld MEM_SPARE_CFG.FAILED 0) else none

/-- Where a DRAM address of stack f lies once f has failed (R291): stack and stack-local address. -/
def sparePlace (f a : Nat) : Nat × Nat :=
  let j := a / 2048 / 16
  ((f + 1 + j % 15) % 16, 0xF00000000 + j / 15 * 2048 + a % 2048)

/-- The place that holds a device address's byte, named as by `cellAt`; other memories are not remapped. -/
def cellOf (f : Option Nat) (a : Nat) : Nat :=
  match f with
  | none => a
  | some f => if a < 0xF000000000 ∧ homeStack a = f then cellAt (sparePlace f a).1 (sparePlace f a).2 else a

/-- The device address whose byte a place holds, if there is one. -/
def addrOf (f : Option Nat) (c : Nat) : Option Nat :=
  match f with
  | none => some c
  | some f =>
    if c < 0xF000000000 then (if homeStack c = f then none else some c)
    else if c < 0x10000000000 then
      let m := (homeStack c + 31 - f) % 16
      if m = 15 then none else some (cellAt f (((localAddr c - 0xF00000000) / 2048 * 15 + m) * 2048 + c % 2048))
    else some c

/-! ## Bytes -/

/-- n bytes from an address. -/
def readBytes (m : List Host.Cell) (f : Option Nat) (a : Nat) : Nat → List Byte
  | 0 => []
  | n + 1 => Memory.read m (cellOf f a) :: readBytes m f (a + 1) n
/-- The cells that a run of n bytes can meet: those in it, or all where addresses are remapped. -/
def cellsIn (m : List Host.Cell) (f : Option Nat) (a n : Nat) : List Host.Cell :=
  match f with
  | none => m.filter (fun c => decide (a ≤ c.1) && decide (c.1 < a + n))
  | some _ => m
def Dev.bytes (d : Dev) (a n : Nat) : List Byte := readBytes (cellsIn d.mem d.failed a n) d.failed a n
/-- The little-endian value of n bytes at an address. -/
def Dev.nat (d : Dev) (a n : Nat) : Nat := leNat (d.bytes a n)

/-- Two byte ranges meet. -/
def meets (a n b m : Nat) : Bool := decide (a < b + m) && decide (b < a + n)

/-- Whether an address lies in the DRAM part of the map (R271). -/
def isDramAddr (a : Nat) : Bool := decide (a < 0x10000000000)

/-- The device address of a failed unit of `unit` bytes, none when no address maps to it. -/
def Dev.unitAddr (d : Dev) (unit : Nat) (e : Nat × Nat) : Option Nat := addrOf d.failed (e.1 * unit)

/-- A failed unit lies in a range. -/
def Dev.unitMeets (d : Dev) (unit a n : Nat) (e : Nat × Nat) : Bool :=
  match d.unitAddr unit e with
  | some b => meets a n b unit
  | none => false

/-- Why a command stops: an event code, and above it the address of the failed unit when the stop is a failed read. -/
def stopAt (code a : Nat) : Nat := code + 0x10000 * a
def stopCode (c : Nat) : Nat := c % 0x10000
def stopAddr (c : Nat) : Nat := c / 0x10000

/-- The event that a read of a range meets first, none when every unit reads well: unmapped (R272), a failed line (R282),
a failed word of a larder (R296) or of an accumulator buffer (R178). -/
def Dev.readError (d : Dev) (a n : Nat) : Option Nat :=
  if n = 0 then none
  else if !d.rangeData a n then some 0xA007
  else match d.lineX.find? (d.unitMeets 64 a n) with
    | some e => some (stopAt 0xA002 ((d.unitAddr 64 e).getD 0))
    | none =>
      match d.wordX.find? (d.unitMeets 32 a n) with
      | some e => some (stopAt (match d.region a with | .acb _ _ => 0x7004 | _ => 0x8002) (e.1 * 32))
      | none => none

/-- The cells of a run of bytes; a byte that reads as an unlisted one has none. -/
def runCells (a : Nat) : List Byte → List Host.Cell
  | [] => []
  | b :: bs => if b = memDefault then runCells (a + 1) bs else (a, b) :: runCells (a + 1) bs
/-- Bytes written one after another through the remap. -/
def memEach (f : Option Nat) (m : List Host.Cell) (a : Nat) : List Byte → List Host.Cell
  | [] => m
  | b :: bs => memEach f (Memory.write m (cellOf f a) b) (a + 1) bs
/-- A run of bytes written: as one piece, or byte by byte where addresses are remapped. -/
def memWrite (f : Option Nat) (m : List Host.Cell) (a : Nat) (bs : List Byte) : List Host.Cell :=
  match f with
  | none => m.filter (fun c => decide (c.1 < a)) ++ runCells a bs ++ m.filter (fun c => decide (a + bs.length ≤ c.1))
  | some _ => memEach f m a bs

/-- A range covers a failed unit whole. -/
def Dev.unitCovered (d : Dev) (unit a n : Nat) (e : Nat × Nat) : Bool :=
  match d.unitAddr unit e with
  | some b => decide (a ≤ b ∧ b + unit ≤ a + n)
  | none => false

/-- The failed units of a table after a write of n bytes at a: a unit covered whole gets a correct check, one covered in
part stays and is poisoned (R283, R295). -/
def Dev.checkAfter (d : Dev) (unit poison : Nat) (t : Tbl Nat) (a n : Nat) : Tbl Nat :=
  t.filterMap (fun e =>
    if !d.unitMeets unit a n e then some e else if d.unitCovered unit a n e then none else some (e.1, poison))

/-- Bytes of a write that fall into a failed unit covered in part are not written (R283, R295). -/
def Dev.held (d : Dev) (a n : Nat) (x : Nat) : Bool :=
  let part (u : Nat) (e : Nat × Nat) := d.unitMeets u x 1 e && !d.unitCovered u a n e
  d.lineX.any (part 64) || d.wordX.any (part 32)

def memWriteHeld (d : Dev) (a n : Nat) (m : List Host.Cell) (x : Nat) : List Byte → List Host.Cell
  | [] => m
  | b :: bs => memWriteHeld d a n (if d.held a n x then m else Memory.write m (cellOf d.failed x) b) (x + 1) bs

/-- A write of data bytes (R280, R283, R295): nothing happens at an address that holds no data (R272). -/
def Dev.write (d : Dev) (a : Nat) (bs : List Byte) : Dev :=
  if !d.rangeData a bs.length then d
  else if d.lineX = [] ∧ d.wordX = [] then d.withMem (memWrite d.failed d.mem a bs)
  else
    (((d.withMem (memWriteHeld d a bs.length d.mem a bs)).withLineX (d.checkAfter 64 0xFFFFFFFF d.lineX a bs.length)).withWordX (d.checkAfter 32 0xFF d.wordX a bs.length))

/-- A write that was answered by an error: kept until the command's unit reads the answer, once for each stop. -/
def Dev.slip (d : Dev) (stop : Nat) : Dev := if d.slips.contains stop then d else d.withSlips (d.slips ++ [stop])

/-- The first failed unit that a write of n bytes covers in part: its read-modify-write fails (R283, R295). -/
def Dev.partly (d : Dev) (a n : Nat) : Option Nat :=
  match d.lineX.find? (fun e => d.unitMeets 64 a n e && !d.unitCovered 64 a n e) with
  | some e => some (stopAt 0xA002 ((d.unitAddr 64 e).getD 0))
  | none =>
    (d.wordX.find? (fun e => d.unitMeets 32 a n e && !d.unitCovered 32 a n e)).map (fun e =>
      stopAt (match d.region (e.1 * 32) with | .acb _ _ => 0x7004 | _ => 0x8002) (e.1 * 32))

/-- How many of n bytes written from an address on come before an accumulator buffer whose tile has a step open, which
discards fabric writes (R297). -/
def Dev.beforeShut (d : Dev) (a n : Nat) : Nat :=
  match d.region a with
  | .acb p _ => if d.flag ENG_STEP_CTX.OPEN p then 0 else n
  | .larder p off => if off + n > 0x2000000 ∧ d.flag ENG_STEP_CTX.OPEN p then 0x2000000 - off else n
  | _ => n

/-- A write through the fabric: one to an unmapped address changes nothing (R272), one to an accumulator buffer in an open step is
discarded (R297), and one that covers part of a failed unit poisons it (R283, R295); each leaves its error for the requester. -/
def Dev.fabricWrite (d : Dev) (a : Nat) (bs : List Byte) : Dev :=
  if bs.isEmpty then d
  else if !d.rangeData a bs.length then d.slip (stopAt 0xA007 a)
  else
    let n := d.beforeShut a bs.length
    let bad := d.partly a n
    let d := d.write a (bs.take n)
    let d := match bad with | some stop => d.slip stop | none => d
    if n < bs.length then d.slip 0x7006 else d

/-! ## Trace (R486–R490) -/

/-- One trace record of engine die `x`: KIND, SRC (unit and tile) and bytes 12–31. `tile` is none for a record of no tile.
The stamp is a cycle count, a free value (log 1). Returns the event codes it raises. -/
def Dev.trace (d : Dev) (x kind : Nat) (tile : Option Nat) (src : Nat) (body : List Byte) : Dev × List Nat :=
  if !bitOf (d.fld TRC_CTRL.KINDS x) (kind - 1) then (d, [])
  else if (match tile with | some t => !bitOf (d.fld TRC_CTRL.TILES x) t | none => false) then (d, [])
  else
    let seq := d.fld TRC_RSEQ.NEXT x
    let res := d.fresh
    let stamp := res.1
    let d := res.2
    let d := d.setFld TRC_RSEQ.NEXT (seq + 1) x
    let mode := d.fld TRC_CTRL.MODE x
    let t := tget {} d.traces x
    if mode = 0 then (d, [])
    else if d.flag TRC_STATUS.FROZEN x then
      ((d.bump TRC_STATUS.DROPS 1 x) |> fun d => (d.withTraces (tset {} d.traces x { t with dropped := true })),
        if t.dropped then [] else [0xD402])
    else
      let bs := leBytes 6 stamp ++ leBytes 4 seq ++ [BitVec.ofNat 8 kind, BitVec.ofNat 8 src] ++ padTo 20 body
      let r : BitVec 256 := BitVec.ofNat 256 (leNat bs)
      let n := d.fld TRC_STATUS.COUNT x
      let recs := (if n ≥ 131072 then t.recs.drop 1 else t.recs) ++ [r]
      let n' := if n ≥ 131072 then n else n + 1
      let left := t.left.map (· - 1)
      let frozen := (mode == 2 && n' == 131072) || left == some 0
      let d := d.withTraces (tset {} d.traces x { t with recs := recs, left := left })
      let d := d.setFld TRC_STATUS.COUNT n' x
      if frozen then (d.setFld TRC_STATUS.FROZEN 1 x, [0xD401]) else (d, [])

/-! ## Events (R453) and triggers (R492–R496) -/

/-- The host reaches no BAR and no access of the device reaches the host: link down, or D3hot (R441, R465, R537). -/
def Dev.hostOff (d : Dev) : Bool := d.svc.d3hot || !d.svc.linkUp

/-- An MSI-X vector fires, or sets its pending bit while masked (R464); a message that cannot leave is lost. -/
def Dev.fireMsi (d : Dev) (v : Nat) : Dev :=
  if d.hostOff then d
  else if v ∈ d.msixOpen then d.withMsi (v :: d.msi)
  else if v ∈ d.msixPending then d else d.withMsixPending (v :: d.msixPending)

def Dev.setQp (d : Dev) (q : Nat) (x : QP) : Dev := d.withQps (tset none d.qps q (some x))
def Dev.qp (d : Dev) (q : Nat) : Option QP := tget none d.qps q

/-- The step an event carries: the open one, or the last committed (R453). -/
def Dev.stepNow (d : Dev) : Nat := d.openStep.getD d.committed

/-- The DATA bytes of an event entry (R453): free, but that SIV_GRAD_DIVERGED tells its layer in the first two (R141, log 110). -/
def Dev.eventData (d : Dev) (code : Nat) : List Byte :=
  let bs := leBytes 16 (Config.eventDetail d.free).toNat
  if code = 0x5006 then leBytes 2 d.divLayer ++ bs.drop 2 else bs

/-- One event entry for one queue pair, or a lost event when its ring is full (R453, R464). A ring that cannot be written
puts the queue pair into ERROR (R454). -/
def Dev.putEvent (d : Dev) (q : Nat) (code rank step : Nat) (data : List Byte) : Dev :=
  match d.qp q with
  | none => d
  | some x =>
    if x.error ∨ !bitOf x.evtMask (code / 4096) then d
    else if d.hostOff then (d.setQp q { x with error := true }).withEvents ({ code := 0xE002, step := step } :: d.events)
    else if x.evtWr - x.evtRd ≥ 2 ^ x.logEvt then
      (d.setQp q { x with lost := true }).bump MBX_STATUS.EVT_LOST
    else
      let phase := if x.evtWr / 2 ^ x.logEvt % 2 = 0 then 1 else 0
      let bs := leBytes 2 code ++ leBytes 1 x.evtAlive ++ leBytes 1 (phase + (if x.lost then 2 else 0)) ++
        leBytes 2 rank ++ leBytes 6 step ++ data
      let unsig := x.evtUnsig + 1
      let fires := decide (unsig ≥ x.coalCount) || x.coalTime == 0
      let d := (d.withFree (d.free + 1)).withHostOut (.ring (x.evtBase + 32 * (x.evtWr % 2 ^ x.logEvt)) (withCrc bs) :: d.hostOut)
      let d := d.setQp q { x with
        evtWr := x.evtWr + 1, evtAlive := (x.evtAlive + 1) % 256, lost := false
        evtUnsig := if fires then 0 else unsig }
      if fires then d.fireMsi x.evtVec else d

/-! ## Management messages sent (R386) -/

/-- Whether the message has a reply that ends its resending (R386, R387, R393, R400, R466; log 115). -/
def needsReply : MgmtBody → Bool
  | .start | .abortStep .. | .fault .. | .ready .. | .commit .. | .publish _ | .activate _ | .fencePort _ | .takeoverQuery | .hostCmd .. => true
  | _ => false

/-- The epoch of group 0 on this device (R374). -/
def Dev.podEpoch (d : Dev) : Nat := d.fld CPL_GROUP.EPOCH 0 0
/-- This device's rank (R402). -/
def Dev.rank (d : Dev) : Nat := d.fld SVC_ROLE.RANK

def isHeartbeat : MgmtBody → Bool | .heartbeat .. => true | _ => false

/-- A management message sent under an epoch: it leaves, and waits for its reply where it has one. An isolated device sends
none but HEARTBEAT (R394). -/
def Dev.sendMgmtAt (d : Dev) (epoch dst step : Nat) (body : MgmtBody) : Dev :=
  if d.fld SVC_ROLE.STATE = 6 ∧ !isHeartbeat body then d else
  let seq := tget 0 d.mgmtSeq dst
  let m : Mgmt := ⟨BitVec.ofNat 12 d.rank, BitVec.ofNat 12 dst, BitVec.ofNat 16 epoch, BitVec.ofNat 32 seq,
    BitVec.ofNat 48 step, body⟩
  (((d.withMgmtOut (m :: d.mgmtOut)).withAwaiting (if needsReply body then d.awaiting ++ [m] else d.awaiting)).withMgmtSeq (tset 0 d.mgmtSeq dst (seq + mgmtCount body)))
/-- The epoch that a rank has: the older one while it has not activated a change (R385). -/
def Dev.epochOf (d : Dev) (dst : Nat) : Nat :=
  if d.pod.unactivated.any (fun (e : Nat × Nat) => e.1 == dst || e.2 == dst) then (d.podEpoch + 65535) % 65536 else d.podEpoch
/-- A message under the epoch that its recipient has (R385). -/
def Dev.sendMgmt (d : Dev) (dst step : Nat) (body : MgmtBody) : Dev := d.sendMgmtAt (d.epochOf dst) dst step body

def Dev.modPod (d : Dev) (f : Pod → Pod) : Dev := d.withPod (f d.pod)

/-- Messages that a reply or an abort ends are no longer sent again (R386). -/
def Dev.settled (d : Dev) (p : Mgmt → Bool) : Dev := d.withAwaiting (d.awaiting.filter (fun m => !p m))

def isReady : MgmtBody → Bool | .ready .. => true | _ => false
def isCommit : MgmtBody → Bool | .commit .. => true | _ => false
def isPublish : MgmtBody → Bool | .publish _ => true | _ => false
def isFence : MgmtBody → Bool | .fencePort _ => true | _ => false
def isActivate : MgmtBody → Bool | .activate _ => true | _ => false
def isQuery : MgmtBody → Bool | .takeoverQuery => true | _ => false
def isStart : MgmtBody → Bool | .start => true | _ => false
def isAbort : MgmtBody → Bool | .abortStep .. => true | _ => false
def isFault : MgmtBody → Bool | .fault .. => true | _ => false

/-- A packet of group 0 has been accepted from a rank under the present epoch: the rank has activated it (R387). -/
def Dev.heard (d : Dev) (src : Nat) : Dev :=
  let done := d.pod.unactivated.filter (fun e => e.1 == src)
  (d.modPod (fun p => { p with unactivated := p.unactivated.filter (fun e => e.1 ≠ src) })).settled
    (fun w => isActivate w.body && done.any (fun e => e.2 == w.dst.toNat))

/-- Dammel reports an error to the manager while a step is open (R386, R411): the engine and SEQ of a halting error go
with it. -/
def Dev.report (d : Dev) (code : Nat) (eng : Nat := 0) (seq : Nat := 0) : Dev :=
  match d.openStep with
  | some n => d.sendMgmt (d.fld SVC_ROLE.MANAGER) n (.fault (BitVec.ofNat 16 code) (BitVec.ofNat 6 eng) (BitVec.ofNat 12 seq))
  | none => d

/-- The other ranks of group 0: every rank that is not ABSENT (R382). -/
def Dev.podPeers (d : Dev) : List Nat :=
  (d.ranks.filter (fun e => e.2.state ≠ 0 ∧ e.1 ≠ d.rank)).map (·.1)

/-- An event sent to the manager while the host link is lost, as a HOST_CPL of KIND 3 (R465, R467). -/
def Dev.forwardEvent (d : Dev) (code step : Nat) : Dev :=
  let entry := withCrc (leBytes 2 code ++ [0, 0] ++ leBytes 2 d.rank ++ leBytes 6 step ++ d.eventData code)
  (d.withFree (d.free + 1)).sendMgmt (d.fld SVC_ROLE.MANAGER) step
    (.hostCpl ⟨3, 0, BitVec.ofNat 12 d.rank, 0, 0⟩ entry)

/-- The queue pairs whose next event entry will carry LOST. -/
def Dev.losing (d : Dev) : Nat := (d.qps.filter (fun e => (e.2.map (·.lost)).getD false)).length

/-- An event logged and put into every ring that selects it. -/
def Dev.logOne (d : Dev) (code step : Nat) : Dev :=
  let d := d.withEvents ({ code := code, step := step } :: d.events)
  d.qps.foldl (fun d e => d.putEvent e.1 code (d.fld SVC_ROLE.RANK) step (d.eventData code)) d

/-- An event logged and delivered, without its trigger sources; the first one dropped at a full ring raises MBX_EVT_LOST
(R453, R473). -/
def Dev.log (d : Dev) (code : Nat) : Dev :=
  let step := d.stepNow
  let n := d.losing
  let d := d.logOne code step
  let d := if d.losing > n then d.logOne 0xE003 step else d
  if d.flag MBX_STATE.HOST_LOST then d.forwardEvent code step else d

def Dev.logs (d : Dev) (codes : List Nat) : Dev := codes.foldl Dev.log d

/-- The snapshot registers of the package as R497 and R498 place them: (image offset, value of 8 bytes). -/
def Dev.snapshot (d : Dev) : List (Nat × Nat) :=
  let tileSec (p : Nat) : List (Nat × Nat) :=
    if bitOf (d.fld PWR_TILE_CTRL.GATED (p / 5)) (p % 5) then []
    else
      let b := 64 + 1024 * p
      let r (n : RegName) := d.readReg ⟨n, p, 0⟩
      let blk (i : Nat) := tget {} (d.tile p).blocks i
      let st (c : ItemCnt) := c.stall.foldl (fun s e => s + e.2) 0
      [(b, Config.freeNat (d.free + p)), (b + 8, r .ENG_STATUS), (b + 0x10, r .ENG_STEP_CTX), (b + 0x18, r .ENG_CQ_PTR),
        (b + 0x20, r .ENG_ERR_LOG), (b + 0x28, r .FWA_STATUS), (b + 0x30, r .BKA_STATUS), (b + 0x38, r .SIV_STATUS),
        (b + 0x40, r .SIV_STEP_COUNTS), (b + 0x48, r .ACB_STATUS), (b + 0x50, r .SHN_STATUS), (b + 0x58, r .LAR_STATUS)]
      ++ (List.range 16).map (fun i => (b + 0x80 + 8 * i,
          leNat ((List.range 4).flatMap (fun j => leBytes 2 (d.fld ENG_SEM.COUNT p (4 * i + j))))))
      ++ (List.range 6).flatMap (fun i => [(b + 0x100 + 64 * i, (blk i).cur.busy), (b + 0x108 + 64 * i, st (blk i).cur),
          (b + 0x110 + 64 * i, (blk i).cur.masked), (b + 0x118 + 64 * i, (blk i).cur.ident),
          (b + 0x120 + 64 * i, (blk i).cur.seqStep)])
      ++ (List.range 6).flatMap (fun i => [(b + 0x280 + 32 * i, (blk i).cum.busy), (b + 0x288 + 32 * i, st (blk i).cum),
          (b + 0x290 + 32 * i, (blk i).idle), (b + 0x298 + 32 * i, (blk i).cum.masked)])
  let baseSec (s : Nat) : List (Nat × Nat) :=
    let b := 81984 + 256 * s
    let r (n : RegName) := d.readReg ⟨n, s, 0⟩
    [(b, Config.freeNat (d.free + 80 + s)), (b + 8, r .MEM_ERR_COUNT), (b + 0x10, r .MEM_RETIRE_STATUS),
      (b + 0x18, r .CPL_PORT_STATUS), (b + 0x20, r .CPL_LANE_STATE), (b + 0x28, r .CPL_COUNTS),
      (b + 0x30, r .CPL_LINK_COUNTS), (b + 0x38, r .RDU_STATUS)]
  let svc : List (Nat × Nat) :=
    let r (n : RegName) := d.readReg ⟨n, 0, 0⟩
    [(86080, Config.freeNat (d.free + 96)), (86088, r .SVC_ROLE), (86096, r .SVC_RECOVERY_STATUS),
      (86104, r .SVC_CKPT_STATUS), (86112, r .MBX_STATE)]
  ((List.range 80).flatMap tileSec ++ (List.range 16).flatMap baseSec ++ svc).filter (fun e => e.2 ≠ 0)

/-- The header of a snapshot image: bytes 0–63 of R497, as eight values. -/
def snapHeader (num sources originRank originNum committed : Nat) (replaced : Bool) : List (Nat × Nat) :=
  let bs := withCrc (padTo 60 (leBytes 2 num ++ leBytes 2 (0x8000 + sources) ++ leBytes 2 originRank ++
    leBytes 2 originNum ++ leBytes 6 committed ++ leBytes 1 (if replaced then 3 else 1)))
  (List.range 8).map (fun i => (8 * i, fieldAt bs (8 * i) 8))

/-- Trigger-out is driven for 1,000 service cycles unless it is driven already or switched off (R495). -/
def Dev.pulse (d : Dev) : Dev :=
  if d.trig.outDriven ∨ d.flag SNP_STATUS.OUT_FAULT then d
  else d.withTrig { d.trig with outDriven := true, outPulses := d.trig.outPulses + 1 }

/-- A trigger reaches engine die x (R493, R496): its trace record, and the freeze of a trace armed for one. -/
def Dev.deliverDie (d : Dev) (capture : Bool) (body : List Byte) (x : Nat) : Dev :=
  let res := (d.withFree (d.free + 1)).trace x 5 none 0 (body ++ leBytes 6 (Config.freeNat d.free))
  let d := res.1.logs res.2
  if !capture ∨ d.flag TRC_STATUS.TRIGGERED x then d
  else
    let d := d.setFld TRC_STATUS.TRIGGERED 1 x
    if d.fld TRC_CTRL.MODE x ≠ 3 ∨ d.flag TRC_STATUS.FROZEN x then d
    else
      let post := Nat.min (d.fld TRC_CTRL.POST x) 8 * 131071 / 8
      let t := tget {} d.traces x
      if post = 0 then (d.setFld TRC_STATUS.FROZEN 1 x).log 0xD401
      else d.withTraces (tset {} d.traces x { t with left := some post })

/-- A capture trigger's event, trigger-out pulse and snapshot (R493–R498); `h` is the header but for REPLACED. -/
def Dev.capture (d : Dev) (num : Nat) (h : Bool → List (Nat × Nat)) (out : Bool) : Dev :=
  let d := d.log 0xD801
  let d := if out ∨ d.flag SNP_TRIG_CFG.OUT_EN then d.pulse else d
  if d.flag SNP_STATUS.HELD ∧ !d.flag SNP_TRIG_CFG.OVERWRITE then (d.bump SNP_STATUS.MISSED).log 0xD802
  else
    let img := h (d.flag SNP_STATUS.HELD) ++ d.snapshot
    (((d.withFree (d.free + 97)).withTrig { d.trig with image := img }).setFld SNP_STATUS.HELD 1).setFld SNP_STATUS.HELD_NUM num

/-- A trigger is fired and delivered to every die (R493–R496): `sources` and `capture` as merged, `origin` of a remote
trigger, `out` asked for by a command. -/
def Dev.deliver (d : Dev) (sources : Nat) (capture : Bool) (origin : Option (Nat × Nat)) (out : Bool) : Dev :=
  let num := (d.fld SNP_STATUS.TRIG_NUM + 1) % 65536
  let d := d.setFld SNP_STATUS.TRIG_NUM num
  let from_ := origin.getD (d.fld SVC_ROLE.RANK, num)
  let d := d.withTrig { d.trig with busy := true, sources := sources }
  let body := leBytes 2 num ++ leBytes 2 (sources + if capture then 0x8000 else 0) ++ leBytes 2 from_.1 ++
    leBytes 2 from_.2 ++ [0, 0]
  let d := (List.range 16).foldl (fun d x => d.deliverDie capture body x) d
  let d := if capture then d.capture num (snapHeader num sources from_.1 from_.2 d.committed) out else d
  d.withTrig { d.trig with busy := false }

/-- A TRIGGER message to every other rank of group 0 (R494). -/
def Dev.sendTrigger (d : Dev) (capture : Bool) (sources : Nat) : Dev :=
  d.podPeers.foldl (fun d r => d.sendMgmt r d.stepNow
    (.trigger (BitVec.ofNat 12 d.rank) (BitVec.ofNat 16 (d.fld SNP_STATUS.TRIG_NUM)) capture
      (BitVec.ofNat 8 sources))) d

/-- A trigger source fires (R492): nothing when its EN bit is 0; merged while a trigger is being delivered (R493). -/
def Dev.fire (d : Dev) (source : Nat) : Dev :=
  if !bitOf (d.fld SNP_TRIG_CFG.EN) source then d
  else if d.trig.busy then d.withTrig { d.trig with sources := Nat.lor d.trig.sources (2 ^ source) }
  else
    let capture := bitOf (d.fld SNP_TRIG_CFG.CAPTURE) source
    let d := d.deliver (2 ^ source) capture none false
    if d.flag SNP_TRIG_CFG.SEND_POD then d.sendTrigger capture (2 ^ source) else d

/-- The codes of the COUPLER_FAULT source (R492): CPL_PORT_DOWN, CPL_LANE_SWAP, CPL_XCH_TIMEOUT, CPL_XCH_STALL,
CPL_SRC_POISON, RDU_TIMEOUT (R377). -/
def couplerFaults : List Nat := [0xB003, 0xB001, 0xB007, 0xB008, 0xB00B, 0xB804]

/-- An event is raised: logged, delivered, and its trigger sources fired (R453, R492). -/
def Dev.raise (d : Dev) (code : Nat) : Dev :=
  let d := d.log code
  let m := d.fld SNP_MATCH.MASK
  let d :=
    if ¬(0xD800 ≤ code ∧ code ≤ 0xDFFF) ∧ Nat.land code m = Nat.land (d.fld SNP_MATCH.CODE) m then d.fire 1 else d
  if code ∈ couplerFaults then d.fire 4 else d

def Dev.raises (d : Dev) (codes : List Nat) : Dev := codes.foldl Dev.raise d

/-- A trace record with the events it raises. -/
def Dev.record (d : Dev) (x kind : Nat) (tile : Option Nat) (src : Nat) (body : List Byte) : Dev :=
  let res := d.trace x kind tile src body
  let ev := res.2
  let d := res.1
  d.raises ev

/-! ## Check-value units (R512, R514) -/

/-- A mismatch seen by CVU instance `i` (R512): counted, logged, raised, and the interrupt that is a trigger source. -/
def Dev.cvuMismatch (d : Dev) (i computed expected : Nat) : Dev :=
  let first := !d.flag CVU_STATUS.MISMATCH i
  let d := (d.setFld CVU_STATUS.MISMATCH 1 i).bump CVU_COUNTS.MISMATCH 1 i
  let d := (d.setFld CVU_LOG.COMPUTED computed i).setFld CVU_LOG.EXPECTED expected i
  let d := d.raise 0xC001
  if first ∧ d.flag CVU_CTRL.IRQ_EN i then d.fire 2 else d

/-- An alive counter judged (R514): the expected value, none while unarmed, and the value received. Returns whether it
repeats, whether it skips, and the new expectation. -/
def aliveJudge (e : Option Nat) (a : Nat) : Bool × Bool × Nat :=
  match e with
  | none => (false, false, (a + 1) % 256)
  | some e => if a = e then (false, false, (a + 1) % 256) else if (a + 1) % 256 = e then (true, false, e)
    else (false, true, (a + 1) % 256)

/-- A repeat or a skip counted by CVU instance `i` (R514, R521). -/
def Dev.cvuAlive (d : Dev) (i : Nat) (repeat_ skip : Bool) : Dev :=
  if repeat_ then ((d.setFld CVU_STATUS.REPEAT 1 i).bump CVU_COUNTS.REPEAT 1 i).raise 0xC002
  else if skip then ((d.setFld CVU_STATUS.SKIP 1 i).bump CVU_COUNTS.SKIP 1 i).raise 0xC003
  else d

/-! ## Running a command -/

/-- A state with another device, whose memory is put into its canonical form. -/
def State.put (s : State) (d : Dev) : State := { s with dev := d.withMem (Memory.canon d.mem) }

/-- The outcome of a command whose effect on the device is `f`: the queue is left alone. -/
def run (f : Dev → Dev) (s : State) : Host.Outcome State Fault Refusal := .next (s.put (f s.dev))

end Sys2Proof.Machine
end

