-- ==== Sys2Proof/Machine/Operands.lean ====
section
/-! DEFINITION. The fields of a descriptor (R225–R230), tensor records (R231), the layouts (R307–R318) and the operand
forms of the engine commands. -/

namespace Sys2Proof.Machine

/-- The n bytes from byte i of a descriptor. -/
def Desc.f (x : Desc) (i n : Nat) : Nat := x.toNat / 256 ^ i % 256 ^ n
/-- Bits hi…lo of word w. -/
def Desc.w (x : Desc) (w hi lo : Nat) : Nat := bitsOf (x.f (8 * w) 8) hi lo

def Desc.opcode (x : Desc) : Nat := x.w 0 7 0
def Desc.layer (x : Desc) : Nat := x.w 0 31 16
def Desc.operator (x : Desc) : Nat := x.w 0 47 32
def Desc.mb (x : Desc) : Nat := x.w 0 55 48
def Desc.pass (x : Desc) : Nat := x.w 0 57 56
def Desc.chkSem (x : Desc) : Nat := x.w 0 63 58
def Desc.waitAEn (x : Desc) : Bool := bitOf (x.w 0 15 8) 0
def Desc.waitBEn (x : Desc) : Bool := bitOf (x.w 0 15 8) 1
def Desc.sigEn (x : Desc) : Bool := bitOf (x.w 0 15 8) 2
def Desc.chkEn (x : Desc) : Bool := bitOf (x.w 0 15 8) 3
def Desc.chkLast (x : Desc) : Bool := bitOf (x.w 0 15 8) 4
def Desc.seq (x : Desc) : Nat := x.w 1 11 0
def Desc.waitASem (x : Desc) : Nat := x.w 1 17 12
def Desc.waitAVal (x : Desc) : Nat := x.w 1 33 18
def Desc.waitBSem (x : Desc) : Nat := x.w 1 39 34
def Desc.waitBVal (x : Desc) : Nat := x.w 1 55 40
def Desc.sigSem (x : Desc) : Nat := x.w 1 61 56

/-- The bytes of a descriptor. -/
def Desc.bytes (x : Desc) : List Byte := leBytes 64 x.toNat
def Desc.ofBytes (bs : List Byte) : Desc := BitVec.ofNat 512 (leNat bs)

/-! ## Operands (R230–R232) -/

/-- A tensor record with its addresses formed for the version selected (R190, R231). -/
structure Tensor where
  base : Nat
  fmtCode : Nat
  layout : Nat
  versioned : Bool
  hasZp : Bool
  hasDrip : Bool
  rows : Nat
  cols : Nat
  pitch : Nat
  scale : Nat
  drip : Nat
  vsel : Nat
  deriving DecidableEq, Repr

/-- No operand (R230). -/
def noOp : Nat := 0xFFFF

/-- The format of a record; codes that name none read as I8 and are rejected before use. -/
def Tensor.fmt (t : Tensor) : Fmt := (Fmt.ofCode t.fmtCode).getD .I8

/-- The device address of the tensor table (R231, R266). -/
def Dev.ttab (d : Dev) (p : Nat) : Nat := larderAddr p (d.fld ENG_TTAB.BASE p * 0x10000)

/-- The 32 B of record i: as `recs` holds them since dispatch, or as the table holds them now (R231). -/
def Dev.recordBytes (d : Dev) (recs : List (Nat × Nat)) (p i : Nat) : List Byte :=
  match recs.find? (fun e => e.1 == i) with
  | some e => leBytes 32 e.2
  | none => d.bytes (d.ttab p + 32 * i) 32

/-- The record that an operand reference names, for buffer `sel` (0 committed, 1 next), among records read at dispatch:
none for no operand or an index beyond the table (R230–R232). -/
def Dev.tensorIn (d : Dev) (recs : List (Nat × Nat)) (p opref sel : Nat) : Option Tensor :=
  let i := opref % 0x10000
  if i = noOp ∨ (i ≥ d.fld ENG_TTAB.ENTRIES p ∧ !recs.any (fun e => e.1 == i)) then none
  else
    let bs := d.recordBytes recs p i
    let b (o n : Nat) := fieldAt bs o n
    let fl := b 6 1
    let tf := b 7 1
    let cbuf := d.fld ENG_STEP_CTX.CBUF p
    let inBuf1 := bitOf tf 0 && (if sel = 0 then cbuf == 1 else cbuf == 0)
    let add (x : Nat) (always : Bool) : Nat :=
      if inBuf1 && (always || x != 0) then x + d.fld ENG_VERSION_STRIDE.STRIDE p * 4096 else x
    some
      { base := add (b 0 6) true, fmtCode := fl % 16, layout := fl / 16, versioned := bitOf tf 0
        hasZp := bitOf tf 1, hasDrip := bitOf tf 2, rows := b 8 4, cols := b 12 4, pitch := b 16 4
        scale := add (b 20 6) false, drip := add (b 26 6) false, vsel := opref / 0x10000 % 2 }

/-- The record that the command at work on tile p names, for buffer `sel` (R231). -/
def Dev.tensorAt (d : Dev) (p opref sel : Nat) : Option Tensor := d.tensorIn (d.tile p).recs p opref sel

/-- The operand as the descriptor selects its version. -/
def Dev.tensor (d : Dev) (p opref : Nat) : Option Tensor := d.tensorAt p opref (opref / 0x10000 % 2)

/-- The operand among the records of another command (R231). -/
def Dev.tensorOf (d : Dev) (recs : List (Nat × Nat)) (p opref : Nat) : Option Tensor :=
  d.tensorIn recs p opref (opref / 0x10000 % 2)

/-- The tensor records of a command at work on tile p, as they were read at its dispatch (R231). -/
def Dev.useRecs (d : Dev) (p : Nat) (recs : List (Nat × Nat)) : Dev := d.modTile p (fun t => { t with recs := recs })

/-- A unit of tile p begins work: with the records of its command, and its DRAM requests pass the decoder of its die (R231, R277). -/
def Dev.workAs (d : Dev) (p : Nat) (recs : List (Nat × Nat)) : Dev := (d.useRecs p recs).withVia (some (p / 5))

/-- The operand references of a descriptor, by the bytes at which they lie (R244–R256). -/
def Desc.oprefs (x : Desc) : List Nat :=
  (match x.opcode with
    | 0x10 => [16, 19, 22, 25, 28, 54]
    | 0x20 => [16, 19, 22, 25, 28]
    | 0x30 => [16, 19, 22]
    | 0x40 => [19, 22, 25, 28, 31, 34]
    | 0x50 => [18, 21, 39]
    | 0x60 => [20, 53]
    | 0x78 => [17]
    | _ => []).map (fun o => x.f o 3 % 0x10000)

/-- The records that a descriptor names, as the table holds them at dispatch (R231). -/
def Dev.namedRecs (d : Dev) (p : Nat) (x : Desc) : List (Nat × Nat) :=
  (x.oprefs.eraseDups.filter (fun i => i != noOp && decide (i < d.fld ENG_TTAB.ENTRIES p))).map (fun i =>
    (i, d.nat (d.ttab p + 32 * i) 32))

/-- Bytes of one row's elements. -/
def Tensor.rowBytes (t : Tensor) : Nat :=
  match t.layout with
  | 2 => (t.rows + 7) / 8
  | 3 => 4 * t.cols
  | _ => if t.fmt.isQ then (t.cols + 31) / 32 * (4 * t.fmt.bits) else t.fmt.bytes * t.cols

/-- Bytes of a tile row and of a tile (R313). -/
def Tensor.tileRow (t : Tensor) : Nat := 16 * t.fmt.bits
def Tensor.codeBytes (t : Tensor) : Nat := 2048 * t.fmt.bits
def Tensor.rb (t : Tensor) : Nat := (t.rows + 127) / 128
def Tensor.kb (t : Tensor) : Nat := (t.cols + 127) / 128
/-- The side block of row block rb (R315). -/
def Tensor.sideAddr (t : Tensor) (rb : Nat) : Nat := t.base + t.rb * t.kb * t.codeBytes + rb * (768 + 288 * t.kb)
/-- The side entry of tile (rb, kb): DRIP_N, DRIP_OVF, PSUM (R315). -/
def Tensor.tileSide (t : Tensor) (rb kb : Nat) : Nat := t.sideAddr rb + 768 + 288 * kb
/-- The drip slot of tile (rb, kb) (R317). -/
def Tensor.dripSlot (t : Tensor) (rb kb : Nat) : Nat := t.drip + (rb * t.kb + kb) * 4096

/-- The address of element (r, c) in layouts 0x0 and 0x3 (R307, R310). -/
def Tensor.addr (t : Tensor) (r c : Nat) : Nat := t.base + 32 * t.pitch * r + (if t.layout = 3 then 4 else t.fmt.bytes) * c

/-- Reserved bits and pitch of a record (R231, R307, R313): whether the record is well-formed, else the rejecting event. -/
def Tensor.bad (t : Tensor) : Option Nat :=
  if (Fmt.ofCode t.fmtCode).isNone then some 0x2008
  else if t.layout > 3 then some 0x2007
  else if t.hasZp ∧ t.fmt ≠ .U8 then some 0x2008
  else if t.layout = 0 ∧ 32 * t.pitch < (t.cols + 31) / 32 * (4 * t.fmt.bits) then some 0x2007
  else if t.layout = 1 ∧ !(t.fmt.isQ || t.fmt == .I8) then some 0x2008
  else if t.layout = 1 ∧ 32 * t.pitch ≠ t.codeBytes then some 0x2007
  else none

/-- The byte range from the first to beyond the last byte of a record's rows (R321, R326), or of its code and side
sections. -/
def Tensor.span (t : Tensor) : Nat × Nat :=
  if t.layout = 1 then (t.base, t.rb * t.kb * t.codeBytes + t.rb * (768 + 288 * t.kb))
  else if t.layout = 2 then (t.base, (t.rows + 7) / 8)
  else (t.base, 32 * t.pitch * t.rows)

/-- The ranges that a read of the first `rows` rows touches: elements, scales and zero points, drip lists (R311). -/
def Tensor.reads (t : Tensor) (rows : Nat) : List (Nat × Nat) :=
  if t.layout = 1 then
    t.span :: (if t.hasDrip then [(t.drip, t.rb * t.kb * 4096)] else [])
  else
    (List.range (Nat.min rows t.rows)).map (fun r => (t.addr r 0, t.rowBytes)) ++
      (if t.scale = 0 then [] else [(t.scale, 2 * rows)])

/-- The first event that the reads of a list of ranges meet. -/
def Dev.readErrors (d : Dev) (rs : List (Nat × Nat)) : Option Nat := rs.findSome? (fun r => d.readError r.1 r.2)

/-- A row mask: which rows are live; without an operand every row is (R90, R310). -/
def Dev.live (d : Dev) (m : Option Tensor) (r : Nat) : Bool :=
  match m with
  | none => true
  | some t => bitOf (d.nat (t.base + r / 8) 1) (r % 8)

/-- The row scale of a tensor: 1.0 where the record names none (R248), the side block's for packed tiles (R315). -/
def Dev.scaleCode (d : Dev) (t : Tensor) (r : Nat) : Nat :=
  if t.layout = 1 then d.nat (t.sideAddr (r / 128) + 2 * (r % 128)) 2
  else if t.scale = 0 then 0x3F00
  else d.nat (t.scale + 2 * r) 2
/-- The scale as a number. The manual gives no result for a scale of zero, of an infinity or of NaN found in memory (R56 writes
none): one that is not finite is read as 0, and a quotient by 0 is 0 (DESIGN CHOICE, log 101). -/
def Dev.rowScale (d : Dev) (t : Tensor) (r : Nat) : Rat := (decG16 (d.scaleCode t r)).val
/-- The row's zero point, I8, at the next multiple of 32 B after the scales (R231). -/
def Dev.rowZp (d : Dev) (t : Tensor) (r : Nat) : Int :=
  if t.hasZp ∧ t.scale ≠ 0 then signed 8 (d.nat (t.scale + (2 * t.rows + 31) / 32 * 32 + r) 1) else 0

/-- The code of weight element (j, k) of packed tiles (R314), or of a row. -/
def Dev.code (d : Dev) (t : Tensor) (j k : Nat) : Nat :=
  if t.layout = 1 then
    let a := t.base + (j / 128 * t.kb + k / 128) * t.codeBytes + j % 128 * t.tileRow
    let b := t.fmt.bits
    let kk := k % 128
    d.nat (a + kk * b / 8) 1 / 2 ^ (kk * b % 8) % 2 ^ b
  else d.nat (t.addr j k) (if t.layout = 3 then 4 else t.fmt.bytes)

/-- The drip entries of tile (rb, kb) (R117, R317): (row in tile, column in tile, G16 code), as stored. -/
def Dev.tileDrips (d : Dev) (t : Tensor) (rb kb : Nat) : List (Nat × Nat × Nat) :=
  if !t.hasDrip then []
  else
    let n := Nat.min (d.nat (t.tileSide rb kb) 2) 1024
    (List.range n).map (fun i =>
      let w := d.nat (t.dripSlot rb kb + 4 * i) 4
      (bitsOf w 13 7, bitsOf w 6 0, bitsOf w 31 16))

/-- The drip entries of weight row j in ascending tile order then ascending k, below reduction length `len` (R79). -/
def Dev.rowDrips (d : Dev) (t : Tensor) (j len : Nat) : List (Nat × Nat) :=
  if t.layout ≠ 1 then []
  else
    (List.range t.kb).flatMap (fun kb =>
      let es := (d.tileDrips t (j / 128) kb).filter (fun e => e.1 = j % 128)
      let es := es.map (fun e => (128 * kb + e.2.1, e.2.2))
      (es.mergeSort (fun a b => a.1 ≤ b.1)).filter (fun e => e.1 < len))

/-- The drip value of an escape at (j, k), if its tile's table holds one (R309, R317). -/
def Dev.dripAt (d : Dev) (t : Tensor) (j k : Nat) : Option Nat :=
  ((d.tileDrips t (j / 128) (k / 128)).find? (fun e => e.1 = j % 128 ∧ e.2.1 = k % 128)).map (·.2.2)

/-- The activation drip list of row r: (k, δ) in ascending k, at most 32 (R311). -/
def Dev.actDrips (d : Dev) (t : Tensor) (r : Nat) : List (Nat × Nat) :=
  if !t.hasDrip ∨ t.layout ≠ 0 then []
  else
    let a := t.drip + 288 * r
    (List.range (Nat.min (d.nat a 1) 32)).map (fun i => (d.nat (a + 32 + 8 * i) 4, d.nat (a + 36 + 8 * i) 2))

/-- The exact value of element (r, c) under its row scale and zero point (R53, R56); a tail element is 0 (R308); an escape
of a packed tile takes its drip value (R52). -/
def Dev.elem (d : Dev) (t : Tensor) (r c : Nat) : XR :=
  if c ≥ t.cols ∨ r ≥ t.rows then .zero
  else
    let code := d.code t r c
    if t.layout = 1 ∧ (expand t.fmt code).2 then
      (match d.dripAt t r c with | some g => decG16 g | none => .zero)
    else decode t.fmt (d.rowScale t r) (d.rowZp t r) code

/-- A row of exact values. -/
def Dev.row (d : Dev) (t : Tensor) (r n : Nat) : List XR := (List.range n).map (d.elem t r)

/-- An element written in layout 0x0 or 0x3. -/
def Dev.putElem (d : Dev) (t : Tensor) (r c code : Nat) : Dev :=
  d.fabricWrite (t.addr r c) (leBytes (if t.layout = 3 then 4 else t.fmt.bytes) code)

/-- Codes written from element (r, c) on. -/
def Dev.putRow (d : Dev) (t : Tensor) (r c : Nat) (codes : List Nat) : Dev :=
  let e := if t.layout = 3 then 4 else t.fmt.bytes
  d.fabricWrite (t.addr r c) (codes.flatMap (leBytes e))

/-- A larder address given in units of 64 B (R233). -/
def unit64 (p x : Nat) : Nat := larderAddr p (64 * x)

/-! ## Rejections: the first failing check of a list decides -/

/-- A check of a command: the event it is rejected with, or none. -/
abbrev Chk := Option Nat

def badField (b : Bool) : Chk := if b then some 0x2007 else none
def badFormat (b : Bool) : Chk := if b then some 0x2008 else none
def bounds (b : Bool) : Chk := if b then some 0x200B else none
def wversion (b : Bool) : Chk := if b then some 0x2009 else none
def firstOf (cs : List Chk) : Chk := cs.findSome? id

/-- How an operand is used: read, or written; the update reads committed and writes next with VSEL = 1 (R192, R252). -/
inductive Use where
  | read | write | update
  deriving DecidableEq, Repr

/-- The checks common to every operand (R230–R232, R192): `fmt` the format its descriptor or its role demands, `rows` and
`cols` the extents the command uses, `layouts` the layouts allowed. An absent optional operand passes. The record's words
are read first (R231), and a failed read of them stops the dispatch. -/
def Dev.chkOp (d : Dev) (p opref : Nat) (required : Bool) (use : Use) (fmt : Option Nat) (rows cols : Nat)
    (layouts : List Nat) : Chk :=
  if opref / 0x20000 ≠ 0 then some 0x2007
  else if opref % 0x10000 = noOp then badField required
  else match d.tensor p opref with
    | none => some 0x2007
    | some t =>
      firstOf
        [ d.readError (d.ttab p + 32 * (opref % 0x10000)) 32, badField (t.vsel == 1 && !t.versioned), t.bad,
          badFormat (match fmt with | some f => f != t.fmtCode | none => false),
          badField (!layouts.contains t.layout),
          bounds (t.layout != 2 && (decide (rows > t.rows) || decide (cols > t.cols)) ||
            t.layout == 2 && decide (rows > t.rows)),
          wversion (match use with
            | .read => t.versioned && t.vsel == 1
            | .write => t.versioned && t.vsel == 0
            | .update => t.vsel == 0) ]

end Sys2Proof.Machine
end

