-- ==== Sys2Proof/Machine/Mixing.lean ====
section
/-! DEFINITION. The mixing function and its draws (R204–R208), the whisk (R105–R109), tree sums (R110), statistics records
(R119–R121), the layer table (R122) and the gradient tracker's table (R123, R138). -/

namespace Sys2Proof.Machine

/-! ## The mixing function -/

/-- The round constants (R205). -/
def mixK : List (BitVec 64) :=
  [0x7C3E91A50B6D24F3, 0x2E85D4C916B7A06B, 0xF14A3867C92D5E19, 0x58D30E7BA4F61C8D,
   0x93B76C21E85AF347, 0x0D69F8B23C4791E5, 0xC82F57A06E19B43B, 0x46A1EB3D9F0572C9]

/-- One round of R204 on (a, b, c, d). -/
def mixRound (s : BitVec 64 × BitVec 64 × BitVec 64 × BitVec 64) (k : BitVec 64) :
    BitVec 64 × BitVec 64 × BitVec 64 × BitVec 64 :=
  let (a, b, c, d) := s
  let a := a + b
  let d := (d ^^^ a).rotateLeft 29
  let c := c + d
  let b := (b ^^^ c).rotateLeft 17
  let a := a + b
  let d := (d ^^^ a).rotateLeft 43
  let c := c + d
  let b := (b ^^^ c).rotateLeft 11
  (a ^^^ k, b, c, d)

/-- isloup_mix (R204). -/
def isloupMix (seed step layer purpose index : Nat) : Nat :=
  let (a, b, c, d) := mixK.foldl mixRound
    (BitVec.ofNat 64 seed, BitVec.ofNat 64 (seed / 2 ^ 64), BitVec.ofNat 64 (step * 65536 + layer),
      BitVec.ofNat 64 (purpose * 2 ^ 48 + index))
  let h := a ^^^ b.rotateLeft 7 ^^^ c.rotateLeft 23 ^^^ d
  let h := (h ^^^ (h >>> 31)) * 0xB3F16E2D48A9C5D7
  (h ^^^ (h >>> 29)).toNat

/-- The 128-bit job seed of a tile (R207, R219). -/
def Dev.seed (d : Dev) (p : Nat) : Nat :=
  d.fld ENG_JOB_SEED_HI.SEED p * 2 ^ 64 + d.fld ENG_JOB_SEED_LO.SEED p
/-- The step number of a tile (R217). -/
def Dev.stepOf (d : Dev) (p : Nat) : Nat := d.fld ENG_STEP_CTX.STEP p

/-- One draw of a command (R207): the index is taken modulo 2^48. -/
def Dev.draw (d : Dev) (p layer purpose index : Nat) : Nat :=
  isloupMix (d.seed p) (d.stepOf p) layer purpose (index % 2 ^ 48)
/-- The precision mode of the step (R203). -/
def Dev.narrowMode (d : Dev) (p : Nat) : Bool := d.flag ENG_STEP_CTX.NARROW p

/-- The 16 random bits of an element (R46, R206); no draw is made outside SR. -/
def Dev.srBits (d : Dev) (p layer : Nat) (rnd : Rnd) (index : Nat) : Nat :=
  if rnd = .sr then d.draw p layer 1 index % 65536 else 0

/-! ## Tree sums (R110) -/

/-- One level of a pairwise tree. -/
def pairSums : List XR → List XR
  | a :: b :: l => wadd a b :: pairSums l
  | l => l

/-- The seven levels over one chunk of 128, filled with +0. -/
def chunkSum (l : List XR) : XR :=
  let l := l ++ List.replicate (128 - l.length) .zero
  (pairSums (pairSums (pairSums (pairSums (pairSums (pairSums (pairSums l))))))).headD .zero

/-- Chunks of 128, in order. -/
def chunks128 (l : List α) : List (List α) :=
  (List.range ((l.length + 127) / 128)).map (fun i => (l.drop (128 * i)).take 128)

/-- The sum in the tree order of R110: a seven-level tree per chunk, then the chunks in ascending order, all in W32. -/
def treeSum (l : List XR) : XR :=
  match (chunks128 l).map chunkSum with
  | [] => .zero
  | c :: cs => cs.foldl wadd c

/-! ## The whisk (R105–R109) -/

def invSqrt128 : XR := decW32 0x3DB504F3
def sqrt128 : XR := decW32 0x413504F3

/-- Butterfly stage s over a block (R105). -/
def butterfly (s : Nat) (y : List XR) : List XR :=
  (List.range y.length).map (fun i =>
    if bitOf i s then wsub (y.getD (i - 2 ^ s) .zero) (y.getD i .zero)
    else wadd (y.getD i .zero) (y.getD (i + 2 ^ s) .zero))
/-- H·y of one block of 128. -/
def hadamard (y : List XR) : List XR := (List.range 7).foldl (fun y s => butterfly s y) y

/-- The sign bit of D at reduction position k (R105), for a step and a whisk layer. -/
def Dev.whiskSign (d : Dev) (p step layer k : Nat) : Bool := bitOf (isloupMix (d.seed p) step layer 2 k) 0

def pad128 (l : List XR) : List XR := l ++ List.replicate ((128 - l.length % 128) % 128) .zero

/-- D·x over a row, from its first position on. -/
def Dev.signs (d : Dev) (p step layer : Nat) (x : List XR) : List XR :=
  (x.zip (List.range x.length)).map (fun e => if d.whiskSign p step layer e.2 then e.1.neg else e.1)

/-- The whisk of a row: u = H·D·x per block; non-finite inputs and positions beyond the row enter as +0 (R105). -/
def Dev.whisk (d : Dev) (p step layer : Nat) (x : List XR) : List XR :=
  let x := pad128 (x.map (fun v => if v.isFin then v else .zero))
  (chunks128 (d.signs p step layer x)).flatMap hadamard

/-- The inverse whisk of a row: H·p, D, then inv_sqrt_128 (R109). -/
def Dev.unwhisk (d : Dev) (p step layer : Nat) (x : List XR) : List XR :=
  (d.signs p step layer ((chunks128 (pad128 x)).flatMap hadamard)).map (fun v => wmul v invSqrt128)

/-! ## Statistics records (R119–R121) -/

/-- One converted element as the record counts it: the input `u`, the value entering stage 5, the value of the result in
the units of u, OVF (or a saturated accumulator), whether a drip entry holds its residue, and whether its position's input
was non-finite before the whisk (R105, R119). -/
structure Tally where
  u : XR
  ent : XR
  res : XR
  sat : Bool
  drip : Bool := false
  wild : Bool := false
  deriving DecidableEq, Repr

/-- The largest finite W32 value. -/
def maxW32 : XR := decW32 0x7F7FFFFF

def xmax (a b : XR) : XR := if a.lt b then b else a

/-- A row added into a record (R119–R121); drip counts are added by the command. A finite stage-5 value beyond the W32 range
enters RUN_MAX as the largest finite W32 value (DESIGN CHOICE, log 94). -/
def RecCnt.addRow (c : RecCnt) (ts : List Tally) : RecCnt :=
  let count (f : Tally → Bool) := (ts.filter f).length
  let both (t : Tally) := t.u.isFin && t.res.isFin
  let top := ts.foldl (fun m t => if t.ent.isFin then xmax m (if (rw t.ent).isFin then t.ent.abs else maxW32) else m) (decW32 c.runMax)
  let sq := treeSum (ts.map (fun t => if both t then wmul (rw t.u) (rw t.u) else .zero))
  let er := treeSum (ts.map (fun t =>
    if both t && !t.drip then (let e := wsub (rw t.u) (rw t.res); wmul e e) else .zero))
  { c with
    elems := c.elems + ts.length
    zeros := c.zeros + count (fun t => t.res.isZero)
    sat := c.sat + count (·.sat)
    nonfin := c.nonfin + count (fun t => !both t || t.wild)
    runMax := encW32 (rw top)
    sumSq := encW32 (wadd (decW32 c.sumSq) sq)
    sumSqErr := encW32 (wadd (decW32 c.sumSqErr) er) }

/-- The bytes of a record (R120): `dir` byte 5, `fmt` byte 6, `verdict` byte 7. -/
def recBytes (x : Desc) (dir fmt verdict : Nat) (c : RecCnt) (err2 tiles : Nat) (g : Int) (retry : Nat) : List Byte :=
  let sat (n v : Nat) := leBytes n (Nat.min v (256 ^ n - 1))
  withCrc (leBytes 2 x.layer ++ leBytes 2 x.operator ++ leBytes 1 x.mb ++ leBytes 1 dir ++ leBytes 1 fmt ++
    leBytes 1 verdict ++ sat 6 c.elems ++ sat 6 c.zeros ++ sat 6 c.sat ++ sat 6 c.nonfin ++ sat 4 c.drip ++
    sat 4 c.dripOvf ++ leBytes 4 c.runMax ++ leBytes 4 c.sumSq ++ leBytes 4 c.sumSqErr ++ leBytes 2 err2 ++
    sat 2 tiles ++ leBytes 1 (unsigned 8 g) ++ sat 1 retry ++ [0, 0])

/-- A record written at its larder unit; unit 0 names none (R233). -/
def Dev.putRec (d : Dev) (p unit : Nat) (bs : List Byte) : Dev :=
  if unit = 0 then d else d.fabricWrite (unit64 p unit) bs
/-- The bytes of a record. -/
def Dev.recAt (d : Dev) (p unit : Nat) : List Byte := d.bytes (unit64 p unit) 64
/-- A record's check matches (R120). -/
def recOk (bs : List Byte) : Bool := crc32c (bs.take 60) == fieldAt bs 60 4
/-- A record with some bytes replaced and its check formed again. -/
def Dev.patchRec (d : Dev) (p unit pos : Nat) (new : List Byte) : Dev :=
  let bs := (d.recAt p unit).take 60
  d.putRec p unit (withCrc (bs.take pos ++ new ++ bs.drop (pos + new.length)))
/-- Bits ORed into VERDICT (R120). -/
def Dev.verdict (d : Dev) (p unit bits : Nat) : Dev :=
  d.patchRec p unit 7 (leBytes 1 (Nat.lor (fieldAt (d.recAt p unit) 7 1) bits))

/-- The exponent of a gradient operand (R163): unit 0 gives 0; a failed record gives no value. -/
def Dev.gIn (d : Dev) (p unit : Nat) : Option Int :=
  if unit = 0 then some 0
  else
    let bs := d.recAt p unit
    if recOk bs then some (signed 8 (fieldAt bs 56 1)) else none

/-! ## The layer table (R122) -/

/-- An entry of the layer table, with KAPPA, KAPPA_W, SHADOW_EPS and MSE_MAX as G16 codes. -/
structure LTab where
  kappa : Nat
  kappaW : Nat
  shadowEn : Bool
  k : Nat
  whisk : Bool
  fbEn : Bool
  trkEn : Bool
  h : Nat
  dripCap : Nat
  eps : Nat
  satMax : Nat
  zeroMax : Nat
  dripOvfMax : Nat
  mseMax : Nat
  gsatMax : Nat
  zjump : Nat
  deriving DecidableEq, Repr

def Dev.ltab (d : Dev) (p layer : Nat) : LTab :=
  let a := larderAddr p (d.fld SIV_TABLES.LTAB_BASE p * 0x8000 + 32 * (layer % 1024))
  let n (o k : Nat) := d.nat (a + o) k
  let fl := n 5 1
  { kappa := n 0 2, kappaW := n 2 2, shadowEn := bitOf (n 4 1) 7, k := n 4 1 % 16, whisk := bitOf fl 0, fbEn := bitOf fl 1
    trkEn := bitOf fl 2, h := fl / 8 % 4, dripCap := Nat.min (n 6 1 % 64) 32, eps := n 8 2, satMax := n 10 2
    zeroMax := n 12 2, dripOvfMax := n 14 2, mseMax := n 16 2, gsatMax := n 18 2, zjump := n 20 2 }

/-- κ is +0, a positive value or +infinity (R122). -/
def kappaOk (c : Nat) : Bool := decide (c ≤ 0x7F00)

/-! ## The gradient tracker (R123, R138–R140) -/

/-- A tracker entry. -/
structure Trk where
  g : Int
  e : Int
  smax : Int
  zbase : Nat
  deriving DecidableEq, Repr

/-- The address of the tracker table in the committed buffer, or the next one, which a step works on (R123, R190,
R202). -/
def Dev.trkBase (d : Dev) (p : Nat) (next : Bool) : Nat :=
  larderAddr p (d.fld SIV_TABLES.TRK_BASE p * 0x2000) +
    (if (d.fld ENG_STEP_CTX.CBUF p == 1) != next then d.fld ENG_VERSION_STRIDE.STRIDE p * 4096 else 0)

def trkOf (bs : List Byte) : Trk :=
  ⟨signed 8 (fieldAt bs 0 1), signed 8 (fieldAt bs 1 1), signed 8 (fieldAt bs 2 1), fieldAt bs 4 2⟩
def Trk.bytes (t : Trk) : List Byte :=
  leBytes 1 (unsigned 8 t.g) ++ leBytes 1 (unsigned 8 t.e) ++ leBytes 1 (unsigned 8 t.smax) ++ [0] ++ leBytes 2 t.zbase ++ [0, 0]

/-- n table entries, each changed by f. -/
def mapTrks (f : Trk → Trk) : Nat → List Byte → List Byte
  | 0, _ => []
  | n + 1, bs => (f (trkOf bs)).bytes ++ mapTrks f n (bs.drop 8)

def Dev.trk (d : Dev) (p layer : Nat) : Trk := trkOf (d.bytes (d.trkBase p true + 8 * (layer % 1024)) 8)
def Dev.putTrk (d : Dev) (p layer : Nat) (t : Trk) : Dev :=
  d.write (d.trkBase p true + 8 * (layer % 1024)) t.bytes

/-- The step-start rule (R138): each entry of the next buffer is the committed one with E := max(E − 1, −128) and
SMAX := −128. -/
def Dev.openTrackers (d : Dev) (p : Nat) : Dev :=
  d.write (d.trkBase p true) (mapTrks (fun t => { t with e := max (t.e - 1) (-128), smax := -128 }) 1024 (d.bytes (d.trkBase p false) 8192))

def clampI (lo hi x : Int) : Int := max lo (min hi x)

/-- ⌊log2⌋ of a finite nonzero magnitude; 0 otherwise. -/
def log2X (x : XR) : Int := if x.isFin && !x.isZero then floorLog2 x.abs.val else 0

/-- Tracking is enabled for a layer (R138). -/
def Dev.tracking (d : Dev) (p layer : Nat) : Bool := (d.ltab p layer).trkEn && d.flag SIV_CTRL.GRAD_TRK_EN p

/-- The exponent of a dX conversion, and the tracker's G set to it (R138). -/
def Dev.takeG (d : Dev) (p layer : Nat) : Int × Dev :=
  let t := d.trk p layer
  if d.tracking p layer then
    let g := clampI (-127) 127 (60 - ((d.ltab p layer).h : Int) - t.e)
    (g, d.putTrk p layer { t with g := g })
  else (t.g, d)

/-- The tracker update after a widening conversion that stands (R139); m − g is kept within the i8 range of E and SMAX (DESIGN
CHOICE, log 95). -/
def Dev.trackAfter (d : Dev) (p layer : Nat) (c : RecCnt) (g : Int) : Dev :=
  if c.elems = 0 then d
  else
    let t := d.trk p layer
    let m := decW32 c.runMax
    let x := clampI (-128) 127 (log2X m - g)
    let t := if m.isZero then t else { t with e := max t.e x, smax := max t.smax x }
    d.putTrk p layer { t with zbase := (7 * t.zbase + c.zeros * 65536 / c.elems) / 8 % 65536 }

end Sys2Proof.Machine
end

