-- ==== Sys2Proof/Machine/Packets.lean ====
section
/-! DEFINITION. Packets: their bytes (R346), routing and sending (R351, R352, R516). -/

namespace Sys2Proof.Machine

/-- The check-value unit of a base die: 0 packet trailers, 1 packet alive counters, 2 flash blocks (R513, R521). -/
def cvuBase (s i : Nat) : Nat := 80 + 3 * s + i
/-- The check-value unit of the service complex: 0 mailbox, 1 manifests, export blocks and snapshots. -/
def cvuSvc (i : Nat) : Nat := 128 + i

end Sys2Proof.Machine

namespace Sys2Proof
open Sys2Proof.Machine

/-- A packet's PATH, CLASS, LAST, SCALED and RENARROW (R346). -/
def Packet.path (p : Packet) : Nat := p.pflags.toNat / 16
def Packet.cls (p : Packet) : Bool := bitOf p.pflags.toNat 2
def Packet.isLast (p : Packet) : Bool := bitOf p.pflags.toNat 0
def Packet.scaled (p : Packet) : Bool := bitOf p.pflags.toNat 1
def Packet.renarrow (p : Packet) : Bool := bitOf p.pflags.toNat 3
def Packet.wire (p : Packet) : Nat := p.fmts.toNat % 16
def Packet.deliver (p : Packet) : Nat := p.fmts.toNat / 16
def Packet.exponent (p : Packet) : Int := signed 8 p.sg.toNat

/-- A payload padded with zero bytes to a multiple of 8 (R346). -/
def padTo8 (bs : List Byte) : List Byte := bs ++ List.replicate ((8 - bs.length % 8) % 8) 0

/-- Header and padded payload (R346). -/
def Packet.body (p : Packet) : List Byte :=
  leBytes 1 (p.ptype.toNat + 16 * p.vc.toNat) ++ leBytes 1 p.pflags.toNat ++ leBytes 2 p.src.toNat ++ leBytes 2 p.dst.toNat ++
    leBytes 1 p.group.toNat ++ leBytes 1 p.alive.toNat ++ leBytes 2 p.epoch.toNat ++ leBytes 2 p.tag.toNat ++
    leBytes 1 p.dstL.toNat ++ leBytes 1 p.fmts.toNat ++ leBytes 1 p.sg.toNat ++ leBytes 1 p.hop.toNat ++
    leBytes 4 p.pseq.toNat ++ leBytes 6 p.offset.toNat ++ leBytes 2 p.payload.length ++ leBytes 2 p.nelem.toNat ++
    leBytes 4 p.total.toNat ++ leBytes 6 0 ++ padTo8 p.payload

/-- The whole packet with its trailer. -/
def Packet.bytes (p : Packet) : List Byte := p.body ++ leBytes 4 p.crc.toNat ++ leBytes 4 0

/-- The packet that a header spells, of at least 48 bytes; `n` is its whole length. -/
def packetOf (bs : List Byte) : Packet :=
  let n (i k : Nat) := fieldAt bs i k
  let len := n 26 2
  let padded := (len + 7) / 8 * 8
  { ptype := BitVec.ofNat 4 (n 0 1), vc := BitVec.ofNat 2 (n 0 1 / 16), pflags := BitVec.ofNat 8 (n 1 1)
    src := BitVec.ofNat 12 (n 2 2), dst := BitVec.ofNat 12 (n 4 2), group := BitVec.ofNat 8 (n 6 1)
    alive := BitVec.ofNat 8 (n 7 1), epoch := BitVec.ofNat 16 (n 8 2), tag := BitVec.ofNat 16 (n 10 2)
    dstL := BitVec.ofNat 6 (n 12 1), fmts := BitVec.ofNat 8 (n 13 1), sg := BitVec.ofNat 8 (n 14 1)
    hop := BitVec.ofNat 8 (n 15 1), pseq := BitVec.ofNat 32 (n 16 4), offset := BitVec.ofNat 48 (n 20 6)
    nelem := BitVec.ofNat 16 (n 28 2), total := BitVec.ofNat 32 (n 30 4), payload := slice bs 40 len
    crc := BitVec.ofNat 32 (n (40 + padded) 4) }

end Sys2Proof

namespace Sys2Proof.Machine

def Dev.port (d : Dev) (c : Nat) : Port := tget {} d.ports c
def Dev.setPort (d : Dev) (c : Nat) (x : Port) : Dev := d.withPorts (tset {} d.ports c x)

/-- The ports of an entry that are UP, in ascending order (R351). -/
def Dev.upPorts (d : Dev) (ports : Nat) : List Nat :=
  (List.range 16).filter (fun c => bitOf ports c && d.fld CPL_PORT_STATUS.STATE c == 2)

/-- A destination without a usable port: counted on base die s, raised once per destination (R352). -/
def Dev.noRoute (d : Dev) (s dst : Nat) : Dev :=
  let d := d.bump CPL_COUNTS.UNMATCHED 1 s
  if dst ∈ d.noRouteSaid then d else (d.withNoRouteSaid (dst :: d.noRouteSaid)).raise 0xB006

/-- A packet enters a port's transmit queue: its ALIVE and its trailer check are set there (R346, R516). -/
def Dev.enqueue (d : Dev) (c : Nat) (pk : Packet) : Dev :=
  let key := pk.dst.toNat * 64 + pk.vc.toNat * 16 + pk.path
  let a := tget 0 d.txAlive key
  let pk := { pk with alive := BitVec.ofNat 8 a }
  let pk := { pk with crc := BitVec.ofNat 32 (crc32c pk.body) }
  let t := d.port c
  (d.withTxAlive (tset 0 d.txAlive key ((a + 1) % 256))).setPort c { t with queue := t.queue ++ [pk] }

/-- A device that is isolated sends nothing on the couplers but HEARTBEAT (R394). -/
def Dev.isolated (d : Dev) : Bool := d.fld SVC_ROLE.STATE == 6

/-- A packet of this device routed from base die s (R351): PATH is PSEQ mod the number of usable ports. -/
def Dev.routePacket (d : Dev) (s : Nat) (pk : Packet) : Dev :=
  let dst := pk.dst.toNat
  let ps := if d.flag CPL_ROUTE.VALID s dst then d.upPorts (d.fld CPL_ROUTE.PORTS s dst) else []
  match ps[pk.pseq.toNat % ps.length]? with
  | none => d.noRoute s dst
  | some c => d.enqueue c { pk with pflags := BitVec.ofNat 8 (pk.pflags.toNat % 16 + 16 * (pk.pseq.toNat % ps.length)) }

/-- A packet of this device sent from base die s: an isolated device sends none but those of a HEARTBEAT (R394). -/
def Dev.sendPacket (d : Dev) (s : Nat) (pk : Packet) : Dev := if d.isolated then d else d.routePacket s pk

/-- The management messages that no packet carries yet are put into packets, oldest first; one to this device itself needs none.
Dammel hands them to base die 0 (DESIGN CHOICE, log 114). -/
def Dev.packMgmt (d : Dev) : Dev :=
  let new := (d.mgmtOut.take (d.mgmtOut.length - d.mgmtPacked)).reverse
  (new.filter (fun m => m.dst.toNat ≠ d.rank)).foldl (fun d m => (mgmtPackets m).foldl (fun d k => d.routePacket 0 k) d)
    (d.withMgmtPacked d.mgmtOut.length)

def Dev.sendPackets (d : Dev) (s : Nat) (pks : List Packet) : Dev := pks.foldl (fun d k => d.sendPacket s k) d

/-- A packet for another rank forwarded from base die s (R352): PATH modulo its own number of ports; CLASS = 1 where DL is
set, and kept once set. ALIVE and the trailer are the sender's, the check being formed again over the changed class. -/
def Dev.forwardPacket (d : Dev) (s : Nat) (pk : Packet) : Dev :=
  let dst := pk.dst.toNat
  let ps := if d.flag CPL_ROUTE.VALID s dst then d.upPorts (d.fld CPL_ROUTE.PORTS s dst) else []
  match ps[pk.path % ps.length]? with
  | none => d.noRoute s dst
  | some c =>
    let t := d.port c
    let pk' := if d.flag CPL_ROUTE.DL s dst ∧ !pk.cls then { pk with pflags := pk.pflags ||| 4 } else pk
    -- a wrong trailer stays wrong: the difference between the received and the correct check is carried on
    let diff := crc32c pk.body ^^^ pk.crc.toNat
    d.setPort c { t with queue := t.queue ++ [{ pk' with crc := BitVec.ofNat 32 (crc32c pk'.body ^^^ diff) }] }

end Sys2Proof.Machine
end

