-- ==== Sys2Proof/Machine/Stacks.lean ====
section
/-! DEFINITION. What a memory controller and a larder do when a check fails: counts, logs, row retirement (R282–R289, R295,
R296), the region table (R285) and the recovery of a failed line by the class of its address (R286). -/

namespace Sys2Proof.Machine

/-! ## The region table (R285, R406, R408) -/

/-- The versioned regions in ascending buffer-0 address: the state map (R408). TENSOR_BIND has put the table into that
order; a tile replacement changes addresses and keeps the order (log 46). -/
def Dev.stateMap (d : Dev) : List RegionEnt := d.regions.filter (fun r => r.other.isSome)
def regSize (r : RegionEnt) : Nat := r.limit - r.base
/-- S and P (R406). -/
def Dev.stateBytes (d : Dev) : Nat := d.stateMap.foldl (fun s r => s + regSize r) 0
def Dev.programRegions (d : Dev) : List RegionEnt := d.regions.filter (fun r => r.cls = 4)
def Dev.programBytes (d : Dev) : Nat := d.programRegions.foldl (fun s r => s + regSize r) 0

/-- The first address of buffer b of a versioned region. -/
def regBuf (r : RegionEnt) (b : Nat) : Nat := if b = 0 then r.base else r.other.getD r.base

/-- The tender offset of an address of buffer b (R408). -/
def mapOffset (b : Nat) : List RegionEnt → Nat → Nat → Option Nat
  | [], _, _ => none
  | r :: rs, off, a =>
    if regBuf r b ≤ a ∧ a < regBuf r b + regSize r then some (off + (a - regBuf r b)) else mapOffset b rs (off + regSize r) a

/-- The committed buffer: CBUF is the same on every engine (R193); engine 0's is read. -/
def Dev.cbuf (d : Dev) : Nat := d.fld ENG_STEP_CTX.CBUF (d.tileOf 0)

/-- The address of a tender offset in tender buffer b (R408). -/
def Dev.tenderAddr (d : Dev) (b off : Nat) : Nat :=
  d.fld SVC_TENDER_BASE.BASE * 4096 + b * (d.fld SVC_TENDER_CFG.STRIDE * 4096) + off

/-- The class of an address (R285, R286, R408): an address in no region is UNUSED. A versioned region's buffer CBUF is
COMMITTED and its other one NEXT; the tender buffer TBUF and the ward's program copy are TENDER_C, the other buffer is
TENDER_N. -/
def Dev.classOf (d : Dev) (a : Nat) : Nat :=
  let inTender (b n : Nat) := decide (d.tenderAddr b 0 ≤ a) && decide (a < d.tenderAddr b 0 + n)
  let t := d.fld SVC_TENDER_CFG.TBUF
  if (mapOffset d.cbuf d.stateMap 0 a).isSome then 1
  else if (mapOffset (1 - d.cbuf) d.stateMap 0 a).isSome then 2
  else if inTender t d.wardBytes ∨ inTender 2 d.wardProgram then 5
  else if inTender (1 - t) d.wardBytes then 6
  else ((d.regions.find? (fun r => r.base ≤ a ∧ a < r.limit)).map (·.cls)).getD 0

/-- The bytes of a range as the program copy in flash holds them (R286, R421). -/
def Dev.programBytesAt (d : Dev) (a n : Nat) : Option (List Byte) :=
  (mapOffset 0 d.programRegions 0 a).map (fun off => padTo n ((d.programCopy.drop off).take n))

/-! ## Recovery by class (R286) -/

/-- Ranks that train (R381). -/
def Dev.activeRanks (d : Dev) : List Nat := (d.ranks.filter (fun e => e.2.state = 1)).map (·.1)
/-- A tender exists: a pod of one ACTIVE rank has none (R407). -/
def Dev.hasTender (d : Dev) : Bool := decide (d.activeRanks.length > 1)

/-- Bytes of a failed unit: a line of DRAM, a word elsewhere. -/
def unitBytes (a : Nat) : Nat := if a < 0x10000000000 then 64 else 32

/-- The bytes that a class's recovery writes over a failed unit (R286), none for a class that needs none, or while the copy
has not come; a pod of one ACTIVE rank has no copy of its state (R407). -/
def Dev.recovery (d : Dev) (copies : List (Nat × List Byte)) (a : Nat) : Option (List Byte) :=
  let n := unitBytes a
  match d.classOf a with
  | 0 => some (List.replicate n 0)
  | 1 | 5 => if d.hasTender then (copies.find? (fun c => c.1 = a)).map (fun c => padTo n c.2) else none
  | 4 => d.programBytesAt a n
  | _ => none

/-- A failed unit recovered by the class of its address; `copies` are the bytes, by address, that the partner sends from
its copy. A unit whose copy has not come stays on the list. Bytes of a STEP input are the host's to write again (R412). -/
def Dev.recover (d : Dev) (copies : List (Nat × List Byte)) (a : Nat) : Dev :=
  let c := d.classOf a
  match d.recovery copies a with
  | some bs => (d.withLost (d.lost.filter (· ≠ a))).write a bs
  | none =>
    if c = 1 ∨ c = 4 ∨ c = 5 then d
    else
      let d := d.withLost (d.lost.filter (· ≠ a))
      if c = 3 ∧ d.regions.any (fun r => r.input && decide (r.base ≤ a) && decide (a < r.limit)) then d.withLostInput (a :: d.lostInput) else d

/-- Every failed unit that waits for its recovery is recovered. -/
def Dev.recoverLost (d : Dev) (copies : List (Nat × List Byte)) : Dev := d.lost.foldl (fun d a => d.recover copies a) d

/-- The recovery that needs no abort: of any class while no step is open, of UNUSED and TENDER_C always (R286). -/
def Dev.recoverNow (d : Dev) (copies : List (Nat × List Byte)) : Dev :=
  (d.lost.filter (fun a => d.openStep.isNone || [0, 5].contains (d.classOf a))).foldl (fun d a => d.recover copies a) d

/-! ## Line failures and row retirement (R282–R289) -/

/-- The code of a requester in MEM_ERR_LOG.SRC (R300). -/
def srcCode : MemSrc → Nat
  | .engine _ => 0 | .peerFabric => 1 | .host => 2 | .coupler => 3 | .flash => 4 | .controller => 5

/-- Recovery after a hard failure that Dammel learns of at once (R286, R290, R296): what needs no abort is recovered; what needs one
is reported to the manager while a step is open, unless the halt of an engine reports it. What an engine command's own accesses
lose is recovered with the abort that its halt leads to, or with the next failure that Dammel handles. -/
def Dev.afterHard (d : Dev) (code : Nat) (copies : List (Nat × List Byte)) (halts : Bool) : Dev :=
  let needs := d.lost.any (fun a => !([0, 5].contains (d.classOf a)))
  let d := d.recoverNow copies
  if needs ∧ !halts then d.report code else d

/-- A bank of a place: 512·stack + 32·channel + bank (R279). -/
def bankOf (c : Nat) : Nat :=
  let j := c / 2048 / 16
  512 * homeStack c + 32 * (j % 16) + j / 16 % 32

/-- Dammel declares stack s failed (R289, R292): the failover follows with the abort of the open step, or as STACK_FAILOVER; the
manager hears of it while a step is open. -/
def Dev.stackBad (d : Dev) (s : Nat) : Dev :=
  if d.stackDue.isSome then d else (d.withStackDue (some s)).report 0xA006

/-- A hard line failure counted and logged (R282, R300, R301); the 64th of a stack in one checkpoint interval makes the stack
fail (R292). -/
def Dev.countHard (d : Dev) (c kind src : Nat) : Dev :=
  let s := homeStack c
  let d := (d.bump MEM_ERR_COUNT.HARD 1 s).setReg ⟨.MEM_ERR_LOG, s, 0⟩
    (kind * 2 ^ 61 + src * 2 ^ 58 + (addrOf d.failed (c / 64 * 64)).getD c / 64 * 64)
  let n := tget 0 d.stackHard s + 1
  let d := d.withStackHard (tset 0 d.stackHard s n)
  if n ≥ 64 then d.stackBad s else d

/-- The failing lines of a row, by line number. -/
def Dev.rowFailing (d : Dev) (c : Nat) : List Nat := (d.lineX.filter (fun e => e.1 / 32 = c / 2048)).map (·.1)

/-- A line of a retirement copy that fails three reads: counted, poisoned, and left to the recovery of its class (R282, R287). -/
def Dev.copyHard (d : Dev) (l : Nat) : Dev :=
  let d := (d.countHard (64 * l) 3 5).raise 0xA002
  let d := d.withLineX (tset 0 d.lineX l 0xFFFFFFFF)
  match addrOf d.failed (64 * l) with
  | some a => d.withLost (d.lost.filter (· ≠ a) ++ [a])
  | none => d

/-- A line of a retirement copy whose re-read matches: reported and counted; the row's soft count goes with the row. -/
def Dev.copySoft (d : Dev) (l : Nat) : Dev := (d.raise 0xA001).bump MEM_ERR_COUNT.SOFT 1 (homeStack (64 * l))

/-- A row is retired (R287): its 32 lines are copied to the bank's next spare row, those that still fail poisoned; without a
spare row it stays in place and its stack is treated as failed (R289). The failed lines other than the one already reported
count as the copy's failures; `copy` names further lines of the row whose reads the copy finds failing (true) or matching on
a re-read (false). -/
def Dev.retire (d : Dev) (c : Nat) (reported : Option Nat) (copy : List (Fin 32 × Bool)) : Dev :=
  let s := homeStack c
  let bad := d.rowFailing c
  let used := tget 0 d.bankUsed (bankOf c)
  if used ≥ 32 then
    ((d.withLineX (d.lineX.map (fun (e : Nat × Nat) => if bad.contains e.1 then (e.1, 0xFFFFFFFF) else e))).raise 0xA005).stackBad s
  else
    let new := copy.filter (fun e => !bad.contains (c / 2048 * 32 + e.1.val))
    let d := (bad.filter (fun l => some l ≠ reported)).foldl Dev.copyHard d
    let d := new.foldl (fun (d : Dev) e => if e.2 then d.copyHard (c / 2048 * 32 + e.1.val) else d.copySoft (c / 2048 * 32 + e.1.val)) d
    let d := d.withLineX (d.lineX.map (fun (e : Nat × Nat) => if bad.contains e.1 then (e.1, 0xFFFFFFFF) else e))
    let d := (d.withBankUsed (tset 0 d.bankUsed (bankOf c) (used + 1))).withRowSoft (tset 0 d.rowSoft (c / 2048) 0)
    let d := d.withRowMap (tset 0 d.rowMap (c / 2048) (used + 1))
    let left := 31 - used
    let d := d.bump MEM_RETIRE_STATUS.RETIRED 1 s
    let d := if left < d.fld MEM_RETIRE_STATUS.MIN_FREE s then d.setFld MEM_RETIRE_STATUS.MIN_FREE left s else d
    let d := d.raise 0xA003
    if left = 4 then d.raise 0xA004 else d

/-- A line whose first read mismatches and whose re-read matches (R282, R288). -/
def Dev.lineSoft (d : Dev) (c : Nat) (copy : List (Fin 32 × Bool) := []) : Dev :=
  let n := tget 0 d.rowSoft (c / 2048) + 1
  let d := (d.raise 0xA001).bump MEM_ERR_COUNT.SOFT 1 (homeStack c)
  let d := d.withRowSoft (tset 0 d.rowSoft (c / 2048) n)
  if n ≥ 8 then d.retire c none copy else d

/-- A line that fails three reads, but for the event (R282): counted, logged, its damage kept, its row retired, and left to
the recovery of its class. What its stored check differs by is free (log 1). -/
def Dev.lineHard (d : Dev) (c kind src : Nat) (copy : List (Fin 32 × Bool) := []) : Dev :=
  let l := c / 64
  let d := d.countHard c kind src
  let d := if tget 0 d.lineX l ≠ 0 then d else
    ((d.withLineX (tset 0 d.lineX l (1 + Config.freeNat d.free % 0xFFFFFFFE))).withFree (d.free + 1))
  let d := match addrOf d.failed (64 * l) with
    | some a => d.withLost (d.lost.filter (· ≠ a) ++ [a])
    | none => d
  d.retire c (some l) copy

/-- The outcome of a controller's read of a line: a stored check that is wrong fails whatever the silicon adds. -/
def Dev.lineOutcome (d : Dev) (c : Nat) (o : ReadOutcome) : ReadOutcome :=
  if tget 0 d.lineX (c / 64) ≠ 0 then .hard else o

/-! ## Larder words (R294–R296) -/

/-- A larder check-byte failure logged (R305): kind 1 soft, 2 hard, 3 poisoned. -/
def Dev.larLog (d : Dev) (p off kind req layer : Nat) : Dev :=
  let l := off / 128
  let n := Nat.min 255 (d.fld LAR_ERR_LOG.COUNT p + 1)
  d.setReg ⟨.LAR_ERR_LOG, p, 0⟩
    (layer * 2 ^ 48 + off / 32 * 2 ^ 20 + Nat.xor (l % 64) (l / 64 % 64) * 2 ^ 14 + kind * 2 ^ 12 + req * 2 ^ 8 + n)

/-- A word whose re-read matches (R296). -/
def Dev.larSoft (d : Dev) (p off req layer : Nat) : Dev :=
  ((d.larLog p off 1 req layer).setFld LAR_STATUS.SOFT 1 p).raise 0x8001

/-- A word that fails three reads, but for the event (R296): `kind` 2 for a read, 3 for a word that a partial write leaves
poisoned (R295). What the stored check byte of a word not poisoned differs by is free (log 1). -/
def Dev.larHard (d : Dev) (p off req layer : Nat) (kind : Nat := 2) : Dev :=
  let a := larderAddr p off / 32 * 32
  let d := (d.larLog p off kind req layer).setFld LAR_STATUS.HARD 1 p
  let d := if kind = 3 then (d.withWordX (tset 0 d.wordX (a / 32) 0xFF)).setFld LAR_STATUS.POISONED 1 p
    else if tget 0 d.wordX (a / 32) ≠ 0 then d
    else (d.withWordX (tset 0 d.wordX (a / 32) (1 + Config.freeNat d.free % 254))).withFree (d.free + 1)
  (d.withLost (d.lost.filter (· ≠ a) ++ [a]))

/-- What stands behind a failed access that a command of tile p meets, or (`src` not 0) a transfer of its exchange: the
controller's or the larder's own record of it (R178, R282, R295, R296, R300). `req` is the requester in the order of R21, and `rmw`
tells the read of a partial write. -/
def Dev.failedRead (d : Dev) (p stop req layer : Nat) (src : Nat := 0) (rmw : Bool := false) : Dev :=
  let a := stopAddr stop
  match stopCode stop with
  | 0xA002 => d.lineHard (cellOf d.failed a) (if rmw then 2 else 1) src
  | 0x8002 => d.larHard ((a - 0x10000000000) / 0x4000000) (a % 0x4000000) req (if req = 6 then 0 else layer) (if rmw then 3 else 2)
  | 0x7004 => d.setFld ACB_STATUS.CHECK_HARD 1 p
  | 0x200A => d.modTile p (fun t => { t with suspect := (a, 64) })
  | _ => d

/-- A failed access of a requester that is no engine: recorded and raised, and what it has lost recovered (R282, R296). -/
def Dev.failAccess (d : Dev) (src : Nat) (rmw : Bool) (stop : Nat) : Dev :=
  ((d.failedRead ((stopAddr stop - 0x10000000000) / 0x4000000) stop 6 0 src rmw).raise (stopCode stop)).afterHard (stopCode stop) [] false

/-- The answers to the writes of a requester that is no engine, `src` as in R300 (R272, R295, R297). -/
def Dev.settleFor (d : Dev) (src : Nat) : Dev := d.slips.foldl (fun (d : Dev) stop => d.failAccess src true stop) (d.withSlips [])
/-- The answers to a host's writes. -/
def Dev.settleHost (d : Dev) : Dev := d.settleFor 2

/-- The failed units of a range, as stops. -/
def Dev.failures (d : Dev) (a n : Nat) : List Nat :=
  (d.lineX.filter (d.unitMeets 64 a n)).map (fun e => stopAt 0xA002 ((d.unitAddr 64 e).getD 0)) ++
    (d.wordX.filter (d.unitMeets 32 a n)).map (fun e =>
      stopAt (match d.region (e.1 * 32) with | .acb _ _ => 0x7004 | _ => 0x8002) (e.1 * 32))

/-- A source range read by the host, a coupler or the flash interface (`src` as in R300): an unmapped address (R272) and every
failed unit is recorded and raised; the transfer goes on only if there is none (R284). -/
def Dev.sourceRead (d : Dev) (src a n : Nat) : Dev × Bool :=
  if !d.rangeData a n then (d.raise 0xA007, false)
  else if (d.failures a n).isEmpty then (d, true)
  else ((d.failures a n).foldl (fun (d : Dev) stop => d.failAccess src false stop) d, false)

/-- The same for a list of ranges. -/
def Dev.sourceReads (d : Dev) (src : Nat) (rs : List (Nat × Nat)) : Dev × Bool :=
  rs.foldl (fun (x : Dev × Bool) r => let res := x.1.sourceRead src r.1 r.2; (res.1, x.2 && res.2)) (d, true)

end Sys2Proof.Machine
end

