-- ==== Sys2Proof/Machine/Static.lean ====
section
/-! DEFINITION. The checks made at dispatch (R258): the descriptor's own fields and its operands, per opcode. Where several
checks fail, the first in the order written here decides (DESIGN CHOICE, log 10). -/

namespace Sys2Proof.Machine

/-- The unit that runs an opcode, in the order of ENG_STATUS.UNIT_BUSY (R234); none for an unknown opcode (R228). -/
def unitOf : Nat → Option Nat
  | 0x10 => some 0 | 0x20 => some 1 | 0x30 => some 2 | 0x40 => some 3 | 0x50 => some 4 | 0x60 => some 5
  | 0x70 => some 6 | 0x78 => some 6 | 0x7F => some 6 | _ => none

/-- CHK_EN and CHK_LAST by command (R241): `narrow` a narrowing CVT, `fmm`, `dx` a BMM with PASS 0b01. -/
def chkGroupBits (x : Desc) (narrow fmm dx : Bool) : Chk :=
  firstOf [badField (x.chkEn && !(narrow || fmm || dx)), badField (x.chkLast && !x.chkEn),
    badField (x.chkLast && narrow)]

/-- The fields that every descriptor has (R226–R228). -/
def chkCommon (x : Desc) : Chk :=
  firstOf
    [ badField (x.w 0 15 13 ≠ 0), badField (x.w 1 63 62 ≠ 0),
      badField (!x.sigEn && x.sigSem ≠ 0),
      badField (!x.waitAEn && (x.waitASem ≠ 0 || x.waitAVal ≠ 0)),
      badField (!x.waitBEn && (x.waitBSem ≠ 0 || x.waitBVal ≠ 0)),
      badField (!x.chkEn && x.chkSem ≠ 0) ]

/-- The bits of an operand reference above VSEL are 0, whether the command uses the operand or not (R228, R230). -/
def oprefBits (o : Nat) : Chk := badField (o / 0x20000 ≠ 0)
/-- An operand that a form of the command does not have: its reference is 0xFFFF. -/
def absent (o : Nat) : Chk := badField (o ≠ noOp)
/-- A format code that no format has (R35, R36). -/
def noFmt (c : Nat) : Chk := badFormat (Fmt.ofCode c).isNone

/-! ## FMM (R244, R245) -/

def Desc.fM (x : Desc) : Nat := x.f 31 3
def Desc.fN (x : Desc) : Nat := x.f 34 3
def Desc.fK (x : Desc) : Nat := x.f 37 3
def Desc.fBatch (x : Desc) : Nat := bitsOf (x.f 40 2) 12 0
def Desc.fForm (x : Desc) : Nat := bitsOf (x.f 42 1) 1 0
def Desc.fRnd (x : Desc) : Nat := bitsOf (x.f 42 1) 3 2
def Desc.fDrip (x : Desc) : Bool := bitOf (x.f 42 1) 4
def Desc.fWrap (x : Desc) : Bool := bitOf (x.f 42 1) 5
def Desc.fWRows (x : Desc) : Bool := bitOf (x.f 42 1) 6
def Desc.fNsat (x : Desc) : Bool := bitOf (x.f 42 1) 7
def Desc.fXFmt (x : Desc) : Nat := bitsOf (x.f 43 2) 3 0
def Desc.fWFmt (x : Desc) : Nat := bitsOf (x.f 43 2) 7 4
def Desc.fOut (x : Desc) : Nat := bitsOf (x.f 43 2) 11 8
def Desc.fRndBase (x : Desc) : Nat := x.f 45 6
def Desc.fStat (x : Desc) : Nat := x.f 51 3

def Dev.chkFmm (d : Dev) (p : Nat) (x : Desc) : Chk :=
  let b := x.fBatch
  firstOf
    [ badField (x.pass ≠ 0), chkGroupBits x false true false,
      badField (x.f 40 2 / 8192 ≠ 0), badField (x.f 43 2 / 4096 ≠ 0), badField (x.f 57 3 ≠ 0),
      badField (decide (b > 4096)), badField (decide (b > 1) && x.fForm ≠ 1),
      badField (x.fForm == 3 && decide (x.fM > 16)),
      badField (x.fStat / 0x100000 ≠ 0), badField (x.fStat == 0),
      badFormat (x.fRnd == 3), badFormat (!([3, 4].contains x.fXFmt)), badFormat (!([0, 1, 2, 3].contains x.fWFmt)),
      badFormat (!([6, 7, 8].contains x.fOut)), badFormat (x.fWRows && (x.fWFmt ≠ 3 || x.fXFmt ≠ 3)),
      d.chkOp p (x.f 16 3) true .read (some x.fXFmt) (b * x.fM) x.fK [0],
      d.chkOp p (x.f 19 3) true .read (some x.fWFmt) (b * x.fN) x.fK (if x.fWRows then [0] else [1]),
      d.chkOp p (x.f 22 3) true .write (some x.fOut) (b * x.fM) x.fN [0],
      d.chkOp p (x.f 25 3) false .read none (b * x.fM) 0 [2],
      d.chkOp p (x.f 28 3) false .read (some 8) x.fM x.fN [0, 3],
      d.chkOp p (x.f 54 3) false .read
        (if (d.tensor p (x.f 54 3)).any (fun t => t.fmtCode == 7) then some 7 else some 6) (b * x.fN) x.fK [0] ]

/-! ## BMM (R229, R246) -/

def Desc.bM (x : Desc) : Nat := x.f 31 3
def Desc.bN (x : Desc) : Nat := x.f 34 3
def Desc.bK (x : Desc) : Nat := x.f 37 3
def Desc.bSlotDest (x : Desc) : Bool := bitOf (x.f 42 1) 6
def Desc.bTrans (x : Desc) : Bool := bitOf (x.f 42 1) 5
def Desc.bGFmt (x : Desc) : Nat := bitsOf (x.f 43 2) 3 0
def Desc.bNFmt (x : Desc) : Nat := bitsOf (x.f 43 2) 7 4
def Desc.bOut (x : Desc) : Nat := bitsOf (x.f 43 2) 11 8
def Desc.bSlot (x : Desc) : Nat := x.f 45 1
def Desc.bGRec (x : Desc) : Nat := x.f 46 3
def Desc.bStat (x : Desc) : Nat := x.f 49 3
def Desc.bRndBase (x : Desc) : Nat := x.f 52 6

/-- The bounds of the slot a command names, with the result shape it needs (R166). -/
def Dev.chkSlot (d : Dev) (p slot rows cols : Nat) : Chk :=
  let r := d.fld ACB_SLOT_GEOM.ROWS p slot
  let c := d.fld ACB_SLOT_GEOM.COLS p slot
  if r = 0 ∨ d.fld ACB_SLOT_GEOM.BASE p slot + r * ((c + 15) / 16) > 131072 ∨ r ≠ rows ∨ c ≠ cols then some 0x7002
  else none

def Dev.chkBmm (d : Dev) (p : Nat) (x : Desc) : Chk :=
  let b := x.fBatch
  let gR := if x.bTrans then b * x.bK else b * x.bM
  let gC := if x.bTrans then x.bM else x.bK
  let nR := if x.pass = 0 then b * x.bN else b * x.bK
  let nC := if x.pass = 0 then x.bK else x.bN
  let isQ := [0, 1, 2].contains x.bNFmt
  firstOf
    [ badField (x.pass == 3), chkGroupBits x false false (x.pass == 1),
      badField (x.f 40 2 / 8192 ≠ 0), badField (x.f 43 2 / 4096 ≠ 0), badField (x.f 58 2 ≠ 0),
      badField (x.fForm == 3), badField (decide (b > 4096)), badField (decide (b > 1) && x.fForm ≠ 1),
      badField (x.bGRec / 0x100000 ≠ 0), badField (x.bStat / 0x100000 ≠ 0),
      badFormat (x.fRnd == 3), badFormat (!([5, 6].contains x.bGFmt)), badFormat (!([0, 1, 2, 3, 5, 6].contains x.bNFmt)),
      (if x.bSlotDest then
        firstOf [badFormat (x.bOut ≠ 7), absent (x.f 22 3), absent (x.f 28 3),
          badField (x.bStat ≠ 0), d.chkSlot p x.bSlot (b * x.bM) x.bN]
      else
        firstOf [badFormat (!([5, 6, 7].contains x.bOut)), badField (x.bSlot ≠ 0), badField (x.bStat == 0),
          d.chkOp p (x.f 22 3) true .write (some x.bOut) (b * x.bM) x.bN [0],
          d.chkOp p (x.f 28 3) false .read (some 7) (b * x.bM) x.bN [0]]),
      d.chkOp p (x.f 16 3) true .read (some x.bGFmt) gR gC [0],
      d.chkOp p (x.f 19 3) true .read (some x.bNFmt) nR nC (if isQ then [1] else if x.bNFmt = 3 then [0, 1] else [0]),
      d.chkOp p (x.f 25 3) false .read none (b * (if x.pass = 2 then x.bK else x.bM)) 0 [2] ]

/-! ## CVT (R247, R248) -/

def Desc.cKind (x : Desc) : Nat := bitsOf (x.f 31 1) 2 0
def Desc.cRnd (x : Desc) : Nat := bitsOf (x.f 31 1) 4 3
def Desc.cWrap (x : Desc) : Bool := bitOf (x.f 31 1) 5
def Desc.cNsat (x : Desc) : Bool := bitOf (x.f 31 1) 6
def Desc.cExpl (x : Desc) : Bool := bitOf (x.f 31 1) 7
def Desc.cSrcFmt (x : Desc) : Nat := bitsOf (x.f 32 1) 3 0
def Desc.cDstFmt (x : Desc) : Nat := bitsOf (x.f 32 1) 7 4
def Desc.cRows (x : Desc) : Nat := x.f 25 3
def Desc.cCols (x : Desc) : Nat := x.f 28 3
def Desc.cScale (x : Desc) : Nat := x.f 33 2
def Desc.cZp (x : Desc) : Nat := x.f 35 1
def Desc.cRndBase (x : Desc) : Nat := x.f 36 6
def Desc.cStat (x : Desc) : Nat := x.f 42 3

/-- The side that SCALE and ZP of a plain CVT apply to is the target (R248). -/
def Desc.cScalesTarget (x : Desc) : Bool := [3, 4, 5].contains x.cDstFmt

/-- The layouts a plain CVT accepts for a format: packed tiles for a Q format (R309). -/
def plainLayouts (f : Nat) : List Nat := if f ≤ 2 then [1] else if f = 3 then [0, 1] else if f = 8 then [0, 3] else [0]

/-- The checks of a CVT (R247, R248). A nonzero ZP with EXPL = 0 is ENG_BAD_FIELD, as R228 says of a field that is "0 otherwise",
where R53 would allow ENG_BAD_FORMAT (DESIGN CHOICE, log 100). -/
def Dev.chkCvt (d : Dev) (p : Nat) (x : Desc) : Chk :=
  let k := x.cKind
  let wide := [6, 7].contains x.cSrcFmt
  let side := if x.cScalesTarget then x.cDstFmt else x.cSrcFmt
  let pair := match Fmt.ofCode x.cSrcFmt, Fmt.ofCode x.cDstFmt with
    | some s, some t => pairKind s t
    | _, _ => none
  firstOf
    [ badField (decide (k > 2)), chkGroupBits x (k == 1) false false, badField (x.f 45 15 ≠ 0),
      badField (x.cExpl && k ≠ 0), badField (x.cStat / 0x100000 ≠ 0), badField (k ≠ 0 && x.cStat == 0),
      badFormat (x.cRnd == 3),
      (match k with
        | 0 => badFormat (pair.isNone || pair == some .weight)
        | 1 => badFormat (!wide || !([3, 4, 5].contains x.cDstFmt))
        | _ => badFormat (!wide || !([0, 1, 2, 3].contains x.cDstFmt))),
      (if x.cExpl then firstOf [badFormat (!scaleOk x.cScale), badFormat (x.cZp ≠ 0 && side ≠ 4)]
       else badField (x.cZp ≠ 0)),
      d.chkOp p (x.f 16 3) true .read (some x.cSrcFmt) x.cRows x.cCols (if k = 0 then plainLayouts x.cSrcFmt else [0]),
      d.chkOp p (x.f 19 3) true .write (some x.cDstFmt) x.cRows x.cCols
        (match k with | 0 => plainLayouts x.cDstFmt | 1 => [0] | _ => [1]),
      d.chkOp p (x.f 22 3) false .read none x.cRows 0 [2] ]

/-! ## VEC (R249–R252, R582) -/

def Desc.vOp (x : Desc) : Nat := x.f 16 1
def Desc.vRnd (x : Desc) : Nat := bitsOf (x.f 17 1) 1 0
def Desc.vWrap (x : Desc) : Bool := bitOf (x.f 17 1) 2
def Desc.vNsat (x : Desc) : Bool := bitOf (x.f 17 1) 3
def Desc.vDst (x : Desc) : Nat := bitsOf (x.f 17 1) 7 4
def Desc.vFirst (x : Desc) : Bool := bitOf (x.f 17 1) 0
def Desc.vLast (x : Desc) : Bool := bitOf (x.f 17 1) 1
def Desc.vA (x : Desc) : Nat := x.f 19 3
def Desc.vB (x : Desc) : Nat := x.f 22 3
def Desc.vC (x : Desc) : Nat := x.f 25 3
def Desc.vD (x : Desc) : Nat := x.f 28 3
def Desc.vE (x : Desc) : Nat := x.f 31 3
def Desc.vDstRef (x : Desc) : Nat := x.f 34 3
def Desc.vRows (x : Desc) : Nat := x.f 37 3
def Desc.vCols (x : Desc) : Nat := x.f 40 3
def Desc.vImm0 (x : Desc) : Nat := x.f 43 4
def Desc.vImm1 (x : Desc) : Nat := x.f 47 4
def Desc.vRndBase (x : Desc) : Nat := x.f 51 6
def Desc.vStat (x : Desc) : Nat := x.f 57 3

/-- An element operand of a VEC (R582): its layout, and the two rejections that differ from the common ones. -/
def Dev.chkVec (d : Dev) (p opref : Nat) (required : Bool) (use : Use) (fmt : Option Nat) (rows cols : Nat) : Chk :=
  let q := (d.tensor p opref).any (fun t => t.fmt.isQ)
  let i32 := (d.tensor p opref).any (fun t => t.fmtCode == 8)
  firstOf [badFormat q, d.chkOp p opref required use fmt rows cols (if i32 then [0, 3] else [0])]

/-- Elements that a flat list operand holds (R582). -/
def Dev.flatLen (d : Dev) (p opref : Nat) : Nat := ((d.tensor p opref).map (fun t => t.rows * t.cols)).getD 0

def Dev.chkVecOp (d : Dev) (p : Nat) (x : Desc) : Chk :=
  let r := x.vRows
  let c := x.vCols
  let aF := some (bitsOf (x.f 18 1) 3 0)
  let bF := some (bitsOf (x.f 18 1) 7 4)
  let dF := some x.vDst
  let a := d.chkVec p x.vA true .read aF r c
  let b := d.chkVec p x.vB true .read bF r c
  let dst := d.chkVec p x.vDstRef true .write dF r c
  let i32 (o n : Nat) (use : Use) : Chk :=
    firstOf [d.chkVec p o true use (some 8) 0 0, bounds (decide (d.flatLen p o < n))]
  let slot := d.chkSlot p (x.vImm0 % 256) r c
  let recOk := badField (x.vImm1 / 0x100000 ≠ 0)
  let noDst := firstOf [absent x.vDstRef, badField (x.f 17 1 ≠ 0)]
  let upd (ada : Bool) : Chk :=
    let last := x.vImm0 + r
    firstOf
      [ badField (x.pass ≠ 3), badField (x.f 17 1 / 4 ≠ 0), recOk, badField (x.vStat == 0),
        d.chkVec p x.vA true .read aF r c, badFormat (!([some 6, some 7].contains aF)), badFormat (bF ≠ some 6),
        d.chkVec p x.vB true .update (some 6) last c, d.chkVec p x.vC true .update (some 6) last c,
        (if ada then d.chkVec p x.vD true .update (some 6) last c else none),
        d.chkOp p x.vE true .update none last c [1],
        d.chkVec p x.vDstRef true .update none 0 0 ]
  let checks : List Chk :=
    match x.vOp with
    | 0x01 | 0x02 | 0x05 | 0x06 => [a, b, dst]
    | 0x03 => [a, b, d.chkVec p x.vC true .read none r c, dst]
    | 0x04 | 0x08 | 0x09 | 0x0A | 0x0B | 0x1C => [a, dst]
    | 0x10 => [a, d.chkVec p x.vB true .read bF 1 c, d.chkVec p x.vC true .write none r 1, dst]
    | 0x11 => [a, d.chkVec p x.vB true .read bF 1 c, d.chkVec p x.vC true .read none r 1,
        d.chkVec p x.vD true .read none r c, dst, slot, recOk]
    | 0x14 => [a, d.chkVec p x.vB false .read (if x.vB % 0x10000 = noOp then none else bF) r c,
        d.chkVec p x.vC true .write none r 2, dst]
    | 0x15 => [a, b, dst]
    | 0x18 => [a, badFormat (bF ≠ some 8), i32 x.vB r .read, d.chkVec p x.vC true .write none r 2, dst, badField (x.vStat == 0)]
    | 0x1D => [a, b, dst]
    | 0x20 | 0x21 => [a, dst]
    | 0x28 => [noDst, a, badFormat (aF == some 8), slot, recOk]
    | 0x29 => [noDst, a, badFormat (aF == some 8), badFormat (bF ≠ some 8), i32 x.vB r .read, recOk,
        slot]
    | 0x30 => [a, d.chkVec p x.vA true .write aF r c, d.chkVec p x.vDstRef true .write (some 8) r (x.vImm0 + 1)]
    | 0x34 => [badFormat (aF ≠ some 8), i32 x.vA (r * c) .read, d.chkVec p x.vA true .read (some 8) r c, i32 x.vDstRef x.vImm0 .write]
    | 0x40 => [upd false]
    | 0x41 => [upd true]
    | _ => [some 0x2007]
  firstOf ([chkGroupBits x false false false, badField (x.vStat / 0x100000 ≠ 0),
      firstOf ([x.vA, x.vB, x.vC, x.vD, x.vE, x.vDstRef].map oprefBits)] ++
    (if checks = [some 0x2007] then [] else [noFmt (bitsOf (x.f 18 1) 3 0), noFmt (bitsOf (x.f 18 1) 7 4)]) ++
    (if x.vOp = 0x40 ∨ x.vOp = 0x41 ∨ checks = [some 0x2007] then [] else
      [badFormat (x.vRnd == 3),
        badFormat (x.vOp ≠ 0x28 && x.vOp ≠ 0x29 && (Fmt.ofCode x.vDst).isNone)]) ++ checks)

/-! ## SHN: the plan (R253, R320–R329) -/

/-- A shunter plan (R320): per level extent, source stride, destination stride, shift, source extent, ownership box. -/
structure Plan where
  ext : List Nat
  ss : List Int
  ds : List Int
  shift : List Int
  sext : List Nat
  lo : List Nat
  hi : List Nat
  ndim : Nat
  padEn : Bool
  padBits : List Byte
  reserved : Bool
  deriving DecidableEq, Repr

def planOf (bs : List Byte) : Plan :=
  let n (o k : Nat) := fieldAt bs o k
  let five {α : Type} (f : Nat → α) : List α := (List.range 5).map f
  { ext := five (fun i => n (12 * i) 4), ss := five (fun i => signed 32 (n (12 * i + 4) 4))
    ds := five (fun i => signed 32 (n (12 * i + 8) 4)), shift := five (fun i => signed 24 (n (68 + 12 * i) 3))
    sext := five (fun i => n (71 + 12 * i) 3), lo := five (fun i => n (74 + 12 * i) 3)
    hi := five (fun i => n (77 + 12 * i) 3), ndim := n 60 1 % 8, padEn := bitOf (n 61 1) 0
    padBits := slice bs 64 4
    reserved := n 60 1 / 8 ≠ 0 || n 61 1 / 2 ≠ 0 || n 62 2 ≠ 0 }

def Dev.plan (d : Dev) (a : Nat) : Plan := planOf (d.bytes a 128)

def Desc.sKind (x : Desc) : Nat := bitsOf (x.f 16 1) 2 0
/-- Element size: 1, 2 or 4 bytes, or a plan in bytes for packed Q (R253, R322). -/
def Desc.sEsize (x : Desc) : Nat := match bitsOf (x.f 16 1) 4 3 with | 0 => 1 | 1 => 2 | 2 => 4 | _ => 1
def Desc.sPackedQ (x : Desc) : Bool := bitsOf (x.f 16 1) 4 3 == 3
def Desc.sFromSlot (x : Desc) : Bool := bitOf (x.f 16 1) 5
def Desc.sSlot (x : Desc) : Nat := x.f 17 1
def Desc.sPlan (x : Desc) : Nat := x.f 36 3
def Desc.sIdx (x : Desc) : Nat := x.f 39 3
def Desc.sCount (x : Desc) : Nat := x.f 42 4

/-- Every combination of loop indices, level 0 innermost, in ascending loop order (R323). -/
def loopIdx : List Nat → List (List Nat)
  | [] => [[]]
  | e :: es => (loopIdx es).flatMap (fun t => (List.range e).map (fun i => i :: t))

def dot (is : List Int) (ss : List Int) : Int := (is.zip ss).foldl (fun a e => a + e.1 * e.2) 0

/-- One element of the walk (R321): whether it is valid, inside the ownership box, its source and destination address. -/
structure Step4 where
  valid : Bool
  own : Bool
  src : Int
  dst : Int
  deriving DecidableEq, Repr

def Plan.at (pl : Plan) (src dst : Int) (i : List Nat) : Step4 :=
  let ii : List Int := i.map Int.ofNat
  let s : List Int := if pl.padEn then (ii.zip pl.shift).map (fun e => e.1 + e.2) else ii
  let valid := !pl.padEn || (s.zip pl.sext).all (fun e => decide (0 ≤ e.1) && decide (e.1 < (e.2 : Int)))
  let own := (i.zip (pl.lo.zip pl.hi)).all (fun e => decide (e.2.1 ≤ e.1) && decide (e.1 < e.2.2))
  ⟨valid, own, src + dot s pl.ss, dst + dot ii pl.ds⟩

/-- The whole walk of a permute (R321, R323). -/
def Plan.walk (pl : Plan) (src dst : Int) : List Step4 := (loopIdx pl.ext).map (pl.at src dst)

/-- The lowest byte and the byte beyond the highest of a set of elements of e bytes (R326). -/
def footprint (e : Nat) (addrs : List Int) : Option (Int × Int) :=
  match addrs with
  | [] => none
  | a :: as => some (as.foldl (fun r x => (min r.1 x, max r.2 (x + e))) (a, a + e))

/-- The memory an address belongs to: DRAM, or one tile's window (R326). -/
def memoryOf (a : Int) : Int := if a < 0x10000000000 then -1 else (a - 0x10000000000) / 0x4000000

def footMeet (a b : Option (Int × Int)) : Bool :=
  match a, b with
  | some (l, h), some (l', h') => memoryOf l == memoryOf l' && decide (l < h') && decide (l' < h)
  | _, _ => false

/-- Every element of a walk lies within a record's footprint (R321): its rows, or its three sections in layout 0x1. -/
def Tensor.holds (t : Tensor) (e : Nat) (a : Int) : Bool :=
  let (b, n) := t.span
  (decide ((b : Int) ≤ a) && decide (a + e ≤ (b + n : Nat))) ||
    (t.layout == 1 && t.hasDrip && decide ((t.drip : Int) ≤ a) && decide (a + e ≤ (t.drip + t.rb * t.kb * 4096 : Nat)))

/-- The first byte and size of a slot in the accumulator buffer (R166, R329). -/
def Dev.slotSpan (d : Dev) (p n : Nat) : Nat × Nat :=
  (acbAddr p (64 * d.fld ACB_SLOT_GEOM.BASE p n),
    64 * d.fld ACB_SLOT_GEOM.ROWS p n * ((d.fld ACB_SLOT_GEOM.COLS p n + 15) / 16))

/-- The I32 indices of a gather (R328). -/
def Dev.gatherIdx (d : Dev) (p : Nat) (x : Desc) : List Int :=
  match d.tensor p x.sIdx with
  | none => []
  | some t => (List.range x.sCount).map (fun n => signed 32 (d.nat (t.addr (n / Nat.max t.cols 1) (n % Nat.max t.cols 1)) 4))

/-- Source base of an SHN: the operand's address, or the slot's first byte, plus SRC_OFF (R321, R329). -/
def Dev.shnSrc (d : Dev) (p : Nat) (x : Desc) : Int :=
  let b := if x.sFromSlot then (d.slotSpan p x.sSlot).1 else ((d.tensor p (x.f 18 3)).map (·.base)).getD 0
  (b + x.f 24 6 : Nat)
def Dev.shnDst (d : Dev) (p : Nat) (x : Desc) : Int := (((d.tensor p (x.f 21 3)).map (·.base)).getD 0 + x.f 30 6 : Nat)

/-- The elements an SHN may read and may write, as (address) lists (R321, R325, R326, R328). -/
def Dev.shnSets (d : Dev) (p : Nat) (x : Desc) (pl : Plan) : List Int × List Int :=
  if x.sKind = 1 then
    let e0 := pl.ext.getD 0 0
    let rowAt (b : Int) (s0 s1 : Int) (r : Int) : List Int := (List.range e0).map (fun (i : Nat) => b + s0 * (i : Int) + s1 * r)
    let idx := if pl.ext.any (· == 0) then [] else d.gatherIdx p x
    (idx.flatMap (fun i => if 0 ≤ i ∧ i < (pl.ext.getD 1 0 : Int) then rowAt (d.shnSrc p x) (pl.ss.getD 0 0) (pl.ss.getD 1 0) i else []),
      (List.range idx.length).flatMap (fun (n : Nat) => rowAt (d.shnDst p x) (pl.ds.getD 0 0) (pl.ds.getD 1 0) (n : Int)))
  else
    let w := pl.walk (d.shnSrc p x) (d.shnDst p x)
    let w' := if x.sKind = 2 then w.filter (·.own) else w.filter (·.valid)
    ((w.filter (·.valid)).map (·.src), w'.map (·.dst))

/-- The destination addresses that must lie in the record: those of the elements written, and under PADMAT those of the
valid elements outside the box too (R321, R325). -/
def Dev.shnDsts (d : Dev) (p : Nat) (x : Desc) (pl : Plan) : List Int :=
  (d.shnSets p x pl).2 ++
    (if x.sKind = 2 then ((pl.walk (d.shnSrc p x) (d.shnDst p x)).filter (·.valid)).map (·.dst) else [])

/-- The identity copy (R327). -/
def Plan.identity (pl : Plan) (x : Desc) : Bool :=
  x.sKind == 0 && !pl.padEn && !x.sFromSlot && pl.ss == pl.ds &&
    (let a := (pl.walk 0 0).map (·.dst)
     let e : Int := x.sEsize
     a.all (fun y => (a.filter (fun z => decide (z < y + e) && decide (y < z + e))).length ≤ 1))

def Dev.chkShn (d : Dev) (p : Nat) (x : Desc) : Chk :=
  let pl := d.plan (unit64 p x.sPlan)
  let k := x.sKind
  let src := d.tensor p (x.f 18 3)
  let dst := d.tensor p (x.f 21 3)
  let any (t : Option Tensor) (f : Tensor → Bool) : Bool := t.any f
  let fmtOk := [0, 1, 2, 3]
  let five := List.range 5
  let sets := d.shnSets p x pl
  let e := x.sEsize
  firstOf
    [ chkGroupBits x false false false, badField (x.f 16 1 / 64 ≠ 0), badField (x.f 46 14 ≠ 0), badField (decide (k > 2)),
      badField (x.f 36 3 / 0x100000 ≠ 0), oprefBits x.sIdx, d.readError (unit64 p x.sPlan) 128,
      (if x.sFromSlot then firstOf [absent (x.f 18 3), badField (bitsOf (x.f 16 1) 4 3 ≠ 2)] else none),
      (if x.sFromSlot then
        (let r := d.fld ACB_SLOT_GEOM.ROWS p x.sSlot
         if r = 0 ∨ d.fld ACB_SLOT_GEOM.BASE p x.sSlot + r * ((d.fld ACB_SLOT_GEOM.COLS p x.sSlot + 15) / 16) > 131072
         then some 0x7002 else none)
      else d.chkOp p (x.f 18 3) true .read none 0 0 fmtOk),
      d.chkOp p (x.f 21 3) true .write none 0 0 fmtOk,
      badField (any dst (fun t => match d.region t.base with | .acb _ _ => true | _ => false)),
      (if k = 1 then firstOf [d.chkOp p x.sIdx true .read (some 8) 0 0 [0, 3],
        bounds (decide (d.flatLen p x.sIdx < x.sCount))] else none),
      badField pl.reserved, badField (decide (pl.ndim < 1) || decide (pl.ndim > 5)),
      badField (pl.ext.any (fun n => decide (n > 16777215))),
      badField (five.any (fun i => decide (i ≥ pl.ndim) && pl.ext.getD i 0 ≠ 1)),
      badField (k == 1 && (pl.ndim ≠ 2 || pl.padEn)), badField (k == 2 && !pl.padEn),
      badField (k == 2 && five.any (fun i => decide (pl.hi.getD i 0 < pl.lo.getD i 0) || decide (pl.hi.getD i 0 > pl.ext.getD i 0))),
      badField (x.sPackedQ && (pl.ss.getD 0 0 ≠ 1 || pl.ds.getD 0 0 ≠ 1 || (pl.padEn &&
        (pl.shift.getD 0 0 ≠ 0 || pl.sext.getD 0 0 ≠ pl.ext.getD 0 0 || pl.lo.getD 0 0 ≠ 0 || pl.hi.getD 0 0 ≠ pl.ext.getD 0 0)))),
      bounds (!sets.1.all (fun a =>
        if x.sFromSlot then
          (let s := d.slotSpan p x.sSlot; decide ((s.1 : Int) ≤ a) && decide (a + e ≤ (s.1 + s.2 : Nat)))
        else any src (fun t => t.holds e a))),
      bounds (!(d.shnDsts p x pl).all (fun a => any dst (fun t => t.holds e a))),
      (if !pl.identity x && footMeet (footprint e sets.1) (footprint e sets.2) then some 0x9001 else none) ]

/-! ## XCH, SYN, CHK, MRK (R254–R257) -/

def Desc.xPrim (x : Desc) : Nat := bitsOf (x.f 16 1) 1 0
def Desc.xVc (x : Desc) : Nat := bitsOf (x.f 16 1) 2 2
def Desc.xToSlot (x : Desc) : Bool := bitOf (x.f 16 1) 3
def Desc.xRenarrow (x : Desc) : Bool := bitOf (x.f 16 1) 4
def Desc.xGroup (x : Desc) : Nat := x.f 17 1
def Desc.xPeer (x : Desc) : Nat := x.f 18 2 % 4096
def Desc.xLocal (x : Desc) : Nat := x.f 20 3
def Desc.xSlot (x : Desc) : Nat := x.f 23 1
def Desc.xLocalOff (x : Desc) : Nat := x.f 24 6
def Desc.xPeerOff (x : Desc) : Nat := x.f 30 6
def Desc.xLength (x : Desc) : Nat := x.f 36 4
def Desc.xWire (x : Desc) : Nat := bitsOf (x.f 40 1) 3 0
def Desc.xDeliver (x : Desc) : Nat := bitsOf (x.f 40 1) 7 4
def Desc.xRnd (x : Desc) : Nat := bitsOf (x.f 41 1) 1 0
def Desc.xNsat (x : Desc) : Bool := bitOf (x.f 41 1) 2
def Desc.xWrap (x : Desc) : Bool := bitOf (x.f 41 1) 3
def Desc.xTag (x : Desc) : Nat := x.f 42 2
def Desc.xRndBase (x : Desc) : Nat := x.f 44 6
def Desc.xRec (x : Desc) : Nat := x.f 50 3
def Desc.xDeliverRef (x : Desc) : Nat := x.f 53 3

def Dev.chkXch (d : Dev) (p : Nat) (x : Desc) : Chk :=
  let pr := x.xPrim
  let send := pr == 0
  let pair := match Fmt.ofCode x.xWire, Fmt.ofCode x.xDeliver with
    | some s, some t => pairKind s t
    | _, _ => none
  let t := d.tensor p x.xLocal
  let lf := if x.xToSlot then 7 else (t.map (·.fmtCode)).getD 7
  let e := if x.xToSlot then 32 else ((t.map (fun t => if t.layout = 1 ∨ t.layout = 2 then 8 else if t.layout = 3 then 32 else t.fmt.bits)).getD 32)
  firstOf
    [ chkGroupBits x false false false, badField (x.f 16 1 / 32 ≠ 0), badField (pr == 3), badField (x.f 18 2 / 4096 ≠ 0),
      badField (x.f 41 1 / 16 ≠ 0), badField (x.f 56 4 ≠ 0), badField (x.xRec / 0x100000 ≠ 0),
      badFormat (x.xRnd == 3), noFmt x.xWire, noFmt x.xDeliver,
      badFormat (pair.isNone || pair == some .weight), (if x.xToSlot then absent x.xLocal else none), oprefBits x.xDeliverRef,
      (if x.xToSlot then
        (let r := d.fld ACB_SLOT_GEOM.ROWS p x.xSlot
         if r = 0 ∨ d.fld ACB_SLOT_GEOM.BASE p x.xSlot + r * ((d.fld ACB_SLOT_GEOM.COLS p x.xSlot + 15) / 16) > 131072
         then some 0x7002 else none)
      else d.chkOp p x.xLocal true (if pr = 1 then .write else .read) none 0 0 [0, 1, 2, 3]),
      badField (8 * x.xLength % e ≠ 0 || 8 * x.xLocalOff % e ≠ 0),
      bounds (decide (8 * (x.xLocalOff + x.xLength) > e * (if x.xToSlot then d.fld ACB_SLOT_GEOM.ROWS p x.xSlot * d.fld ACB_SLOT_GEOM.COLS p x.xSlot
        else ((t.map (fun t => if t.layout = 1 ∨ t.layout = 2 then t.span.2 else t.rows * t.cols)).getD 0)))),
      (if send then badFormat (x.xWire ≠ lf && (!([3, 5, 6].contains x.xWire) || !([6, 7].contains lf))) else none),
      (if pr = 1 then badFormat (if x.xToSlot then x.xDeliver ≠ 7 else x.xDeliver ≠ lf) else none),
      (if pr = 2 then
        firstOf [badFormat (!([3, 5, 6].contains x.xWire)), badFormat (!([6, 7].contains x.xDeliver)), badFormat (!([6, 7].contains lf))]
      else none),
      badField (pr ≠ 0 && x.xRec == 0),
      (if pr = 2 then d.chkOp p x.xDeliverRef false .write none 0 0 [0, 1, 2, 3] else none) ]

def Dev.chkSyn (_d : Dev) (_p : Nat) (x : Desc) : Chk :=
  let remote := bitOf (x.f 17 1) 0
  firstOf
    [ chkGroupBits x false false false, badField (x.f 16 1 / 64 ≠ 0), badField (x.f 17 1 / 2 ≠ 0),
      badField (x.f 18 1 / 64 ≠ 0), badField (x.f 19 1 / 64 ≠ 0), badField (x.f 22 38 ≠ 0),
      badField (!remote && (x.f 18 4 ≠ 0)) ]

def Dev.chkChk (d : Dev) (p : Nat) (x : Desc) : Chk :=
  let t := d.tensor p (x.f 17 3)
  firstOf
    [ chkGroupBits x false false false, badField (x.f 16 1 / 8 ≠ 0), badField (x.f 38 3 / 0x100000 ≠ 0), badField (x.f 41 19 ≠ 0),
      d.chkOp p (x.f 17 3) true .read none 0 0 [0, 1, 2, 3], badField (t.any (fun t => t.fmt.isQ && t.layout ≠ 1)),
      bounds (t.any (fun t => decide (x.f 20 6 + x.f 26 4 > t.span.2))) ]

def Dev.chkMrk (_d : Dev) (_p : Nat) (x : Desc) : Chk :=
  let hold := bitOf (x.f 22 1) 0
  firstOf
    [ chkGroupBits x false false false, badField (x.f 18 3 / 0x100000 ≠ 0), badField (decide (x.f 21 1 > 4)), badField (x.f 22 1 / 2 ≠ 0),
      badField (x.f 23 1 / 64 ≠ 0), badField (x.f 26 34 ≠ 0), badField (!hold && x.f 23 3 ≠ 0) ]

/-- Every check made at dispatch but the group limits (R258). -/
def Dev.staticCheck (d : Dev) (p : Nat) (x : Desc) : Chk :=
  match unitOf x.opcode with
  | none => some 0x2006
  | some _ =>
    (chkCommon x).or (match x.opcode with
      | 0x10 => d.chkFmm p x
      | 0x20 => d.chkBmm p x
      | 0x30 => d.chkCvt p x
      | 0x40 => d.chkVecOp p x
      | 0x50 => d.chkShn p x
      | 0x60 => d.chkXch p x
      | 0x70 => d.chkSyn p x
      | 0x78 => d.chkChk p x
      | _ => d.chkMrk p x)

end Sys2Proof.Machine
end

