-- ==== Sys2Proof/Machine/Engine.lean ====
section
/-! DEFINITION. The command queue of an engine, dispatch, semaphores, halting and flushing (R221–R243, R255–R260), and the
writes of the engine's own registers. -/

namespace Sys2Proof.Machine

/-! ## Halting and signals -/

/-- The bytes 12–20 of a trace record about a command (R487). -/
def descBody (x : Desc) (work : Nat) : List Byte :=
  leBytes 2 x.layer ++ leBytes 2 x.operator ++ leBytes 1 x.mb ++ leBytes 1 (x.pass + 4 * work) ++ leBytes 2 x.seq ++
    leBytes 1 x.opcode ++ [0]

/-- A record of tile p: its die and SRC byte (R487). -/
def Dev.tileRecord (d : Dev) (p kind unit : Nat) (body : List Byte) : Dev :=
  d.record (p / 5) kind (some (p % 5)) (16 * unit + p % 5) body

/-- The queue of tile p halts with an event (R258): the log keeps the first error until VALID is cleared (R262). -/
def Dev.halt (d : Dev) (p code : Nat) (x : Desc := 0) (fetch : Bool := false) : Dev :=
  let d := if d.flag ENG_STATUS.HALTED p then d else d.modTile p (fun t => { t with why := (code, x.seq) })
  let d := d.setFld ENG_STATUS.HALTED 1 p
  let d :=
    if d.flag ENG_ERR_LOG.VALID p then d
    else
      let v := code * 2 ^ 48 + x.seq * 2 ^ 36 + x.opcode * 2 ^ 28 + x.layer * 2 ^ 12 + x.mb * 16 + x.pass * 4 +
        (if fetch then 2 else 0) + 1
      d.setReg ⟨.ENG_ERR_LOG, p, 0⟩ v
  let d := d.raise code
  let d := d.tileRecord p 6 ((unitOf x.opcode).getD 6) (descBody x 0 ++ leBytes 2 code)
  d.report code ((d.engOf p).getD 0) x.seq

/-- The requester number of a unit at the larder banks (R21): the exchange port and the control unit read through the
fabric port. -/
def reqOf (u : Nat) : Nat := if u ≤ 4 then u else 6

/-- The queue halts on a stop: a failed read leaves the record of the memory that failed as well (R178, R284, R296). -/
def Dev.readHalt (d : Dev) (p stop : Nat) (x : Desc) (fetch : Bool := false) : Dev :=
  (d.failedRead p stop (reqOf ((unitOf x.opcode).getD 6)) x.layer).halt p (stopCode stop) x fetch

/-- The answers to a command's writes: what they have lost is recorded, and the first error that stops a command halts the queue
(R272, R284, R295, R296); what an accumulator buffer discards is only reported (R297). Returns whether the command is stopped. -/
def Dev.takeAnswers (d : Dev) (p : Nat) (x : Desc) (src : Nat := 0) : Dev × Bool :=
  if d.slips.isEmpty then (d, false)
  else
    let bad := d.slips.filter (fun s => stopCode s ≠ 0x7006)
    let d := if d.slips.contains 0x7006 then (d.withSlips []).raise 0x7006 else d.withSlips []
    let req := reqOf ((unitOf x.opcode).getD 6)
    match bad with
    | [] => (d, false)
    | s :: rest =>
      let d := (rest.filter (fun s => stopCode s ≠ 0xA007)).foldl (fun (d : Dev) s => (d.failedRead p s req x.layer src true).raise (stopCode s)) d
      ((d.failedRead p s req x.layer src true).halt p (stopCode s) x, true)

/-- A semaphore gains k; past 65,535 it stays there and the queue halts (R237). -/
def Dev.semAdd (d : Dev) (p sem k : Nat) (x : Desc := 0) : Dev :=
  let c := d.fld ENG_SEM.COUNT p sem + k
  if c > 65535 then (d.setFld ENG_SEM.COUNT 65535 p sem).halt p 0x200D x
  else d.setFld ENG_SEM.COUNT c p sem

/-- Every semaphore of tile p at 0 (R237). -/
def Dev.zeroSems (d : Dev) (p : Nat) : Dev := (List.range 64).foldl (fun d i => d.setFld ENG_SEM.COUNT 0 p i) d

/-- One enabled wait is satisfied (R237). -/
def Dev.waitsOk (d : Dev) (p : Nat) (x : Desc) : Bool :=
  (!x.waitAEn || decide (d.fld ENG_SEM.COUNT p x.waitASem ≥ x.waitAVal)) &&
    (!x.waitBEn || decide (d.fld ENG_SEM.COUNT p x.waitBSem ≥ x.waitBVal))

/-- The slot that a command names (R167, R246, R251, R253, R254). -/
def Desc.slot (x : Desc) : Option Nat :=
  match x.opcode with
  | 0x20 => if x.bSlotDest then some x.bSlot else none
  | 0x40 => if [0x11, 0x28, 0x29].contains x.vOp then some (x.vImm0 % 256) else none
  | 0x50 => if x.sFromSlot then some x.sSlot else none
  | 0x60 => if x.xToSlot then some x.xSlot else none
  | _ => none

/-- A command's access to its slot is held: an earlier command that names the slot has not completed (R169). -/
def TileSt.slotHeld (t : TileSt) (i : Issued) : Bool :=
  match i.desc.slot with
  | none => false
  | some s =>
    t.issue.any (fun j => decide (j.n < i.n) && j.desc.slot == some s) ||
      t.xchs.any (fun j => decide (j.n < i.n) && j.desc.slot == some s)

/-- Shadow tiles whose FMM's outputs and corrections are written (R126, R128). -/
def Group.shadowReady (g : Group) : Option (Nat × Nat) := g.shadow.find? (fun e => g.done.contains e.1)

/-- Work that a unit runs on behalf of other commands and that stands before its queue (R174, R236). -/
def TileSt.sideWork (t : TileSt) (u : Nat) : Bool :=
  match u with
  | 1 => !t.fbs.isEmpty || t.groups.any (fun g => g.shadowReady.isSome) || !t.reruns.isEmpty
  | 3 => !t.drips.isEmpty
  | _ => false

/-- A tile runs a Traed program only while it carries a logical engine, ungated (R20). -/
def Dev.carriesEng (d : Dev) (p : Nat) : Bool :=
  (d.engOf p).isSome && !bitOf (d.fld PWR_TILE_CTRL.GATED (p / 5)) (p % 5)

/-- The command that a unit may start now (R236). -/
def Dev.startable (d : Dev) (p u : Nat) : Option Issued :=
  let t := d.tile p
  match t.issue.find? (fun i => unitOf i.desc.opcode == some u) with
  | none => none
  | some i =>
    if !d.carriesEng p ∨ d.flag ENG_STATUS.HALTED p ∨ d.flag ENG_STATUS.FLUSHING p ∨ !d.waitsOk p i.desc ∨ t.slotHeld i ∨ t.sideWork u ∨
        (u = 5 ∧ t.xchs.length ≥ 32) then none
    else some i

/-- A command is accessing a slot: an exchange that reads or adds into one is running (R181, R182). -/
def TileSt.usesSlot (t : TileSt) : Bool := t.xchs.any (fun x => x.desc.slot.isSome)

/-- A unit's next command waits for the slot order alone (R169, R182). -/
def Dev.orderWait (d : Dev) (p : Nat) : Bool :=
  let t := d.tile p
  (List.range 7).any (fun u => match t.issue.find? (fun i => unitOf i.desc.opcode == some u) with
    | some i => t.slotHeld i && d.waitsOk p i.desc
    | none => false)

/-- A SYN holds the control unit while it waits (R255). -/
def Dev.synWaits (d : Dev) (p : Nat) : Bool :=
  match d.startable p 6 with
  | some i => i.desc.opcode == 0x70
  | none => false

/-- No command is at work on tile p any more: the answers to its last writes are in, and ENG_STATUS.HELD, IDLE and UNIT_BUSY,
SIV_STATUS and ACB_STATUS say what the tile holds (R144, R182, R261). -/
def Dev.sync (d : Dev) (p : Nat) : Dev :=
  let d := ((d.takeAnswers p 0).1.useRecs p []).withVia none
  let t := d.tile p
  let busy := (if t.drips.isEmpty then 0 else 8) + (if t.xchs.isEmpty then 0 else 32) + (if d.synWaits p then 64 else 0)
  let idle := t.issue.isEmpty && t.drips.isEmpty && t.xchs.isEmpty && t.reruns.isEmpty && t.groups.isEmpty &&
    d.fld ENG_CQ_PTR.HEAD p == d.fld ENG_CQ_PTR.TAIL p
  let d := d.setFld ENG_STATUS.UNIT_BUSY busy p
  let d := d.setFld ENG_STATUS.IDLE (if idle then 1 else 0) p
  let d := d.setFld SIV_STATUS.SHADOW_BUSY (if t.groups.any (fun g => !g.shadow.isEmpty) then 1 else 0) p
  let d := d.setFld SIV_STATUS.FB_ACTIVE (if t.fbs.isEmpty then 0 else 1) p
  let d := (d.setFld ACB_STATUS.BUSY (if t.usesSlot then 1 else 0) p).setFld ACB_STATUS.ORDER_WAIT (if d.orderWait p then 1 else 0) p
  d.setFld ENG_STATUS.HELD (if t.hold.isSome then 1 else 0) p

/-- RDU_STATUS.BUSY and HOLD_FULL of every base die (R362, R376). -/
def Dev.rduSync (d : Dev) : Dev :=
  let xs := d.tiles.flatMap (fun e => e.2.xchs.filter (fun x => x.prim = 2))
  (List.range 16).foldl (fun (d : Dev) c =>
    let bytes : Nat := xs.foldl (fun (s : Nat) x => x.held.foldl (fun (s : Nat) h => if h.1 = c then s + 48 + h.2.payload.length else s) s) 0
    (d.setFld RDU_STATUS.BUSY (if xs.isEmpty then 0 else 1) c).setFld RDU_STATUS.HOLD_FULL (if bytes ≥ 8388608 then 1 else 0) c) d

/-! ## Work items: counters and trace (R474–R479, R486) -/

/-- The item counts of a work item: BUSY, MASKED and stall cycles by reason, in the cycles that the manual's formulas
give; cycles that arbitration decides are left out (log 11). -/
structure Acct where
  busy : Nat
  masked : Nat := 0
  stall : List (Nat × Nat) := []
  deriving DecidableEq, Repr

def wrap48 (n : Nat) : Nat := n % 2 ^ 48

def addStall (t : Tbl Nat) (l : List (Nat × Nat)) : Tbl Nat := l.foldl (fun t e => tset 0 t e.1 (wrap48 (tget 0 t e.1 + e.2))) t

/-- A block takes up an item and ends it: current to last, the item's counts into current, cumulative and the layer's
entry (R478, R479). -/
def Dev.countItem (d : Dev) (p b : Nat) (x : Desc) (work : Nat) (a : Acct) : Dev :=
  let t := d.tile p
  let c := tget {} t.blocks b
  let stallSum := a.stall.foldl (fun s e => s + e.2) 0
  let ident := x.layer * 2 ^ 48 + x.operator * 2 ^ 32 + x.mb * 2 ^ 24 + x.opcode * 2 ^ 16 + x.pass * 2 ^ 14 + work * 2 ^ 11
  let cur : ItemCnt := ⟨wrap48 a.busy, wrap48 a.masked, addStall [] a.stall, ident,
    x.seq * 2 ^ 52 + d.fld ENG_STEP_CTX.STEP p⟩
  let c' : BlockCnt :=
    { c with
      cum := { c.cum with busy := wrap48 (c.cum.busy + a.busy), masked := wrap48 (c.cum.masked + a.masked), stall := addStall c.cum.stall a.stall }
      cur := cur, last := c.cur }
  let l := tget [] t.layers (x.layer % 1024)
  let bump (l : LayerCnt) (i k : Nat) : LayerCnt := tset 0 l i (wrap48 (tget 0 l i + k))
  let l := bump (bump (bump l (2 * b) a.busy) (2 * b + 1) stallSum) 14 1
  let l := if b < 2 then bump l (12 + b) a.masked else l
  d.setTile p { t with blocks := tset {} t.blocks b c', layers := tset [] t.layers (x.layer % 1024) l }

/-- Bytes 22–30 of an END record (R487). -/
def endBody (a : Acct) : List Byte :=
  let s := a.stall.foldl (fun s e => s + e.2) 0
  let top := a.stall.foldl (fun (m : Nat × Nat) e => if e.2 > m.2 ∨ (e.2 = m.2 ∧ e.1 < m.1) then e else m) (0, 0)
  leBytes 4 (Nat.min a.busy 0xFFFFFFFF) ++ leBytes 4 (Nat.min s 0xFFFFFFFF) ++ leBytes 1 top.1

/-- A work item on a unit, taken up and ended: its counts (units 0–4 are blocks 0, 1, 2, 4, 5; `widen` is block 3) and
its trace records. WORK is 0 for a command (R483). -/
def Dev.item (d : Dev) (p unit : Nat) (x : Desc) (work : Nat) (a : Acct) : Dev :=
  let b : Option Nat := match unit with | 0 => some 0 | 1 => some 1 | 2 => some 2 | 3 => some 4 | 4 => some 5 | _ => none
  let kind := if work = 0 then 1 else 3
  let d := d.tileRecord p kind unit (descBody x work ++ (if work = 0 then leBytes 6 (d.fld ENG_STEP_CTX.STEP p) else []))
  let d := match b with | some b => d.countItem p b x work a | none => d
  d.tileRecord p (kind + 1) unit (descBody x work ++ endBody a)

/-! ## Completion -/

/-- A command that a failed access has stopped: its group is never evaluated (R284). -/
def TileSt.stopped (t : TileSt) (n : Nat) : TileSt :=
  { t with groups := t.groups.map (fun (g : Group) =>
      if g.cmds.any (fun i => i.n == n) ∨ g.cvt.any (fun i => i.n == n) then { g with dead := true } else g) }

/-- A command completes (R238, R243), unless one of its writes has stopped it: its SIG_SEM is signalled, but a dX BMM of a group
signals it with the group. -/
def Dev.finish (d : Dev) (p : Nat) (i : Issued) : Dev :=
  let x := i.desc
  let grouped := x.opcode == 0x20 && x.pass == 1 && x.chkEn
  let res := d.takeAnswers p x
  if res.2 then res.1.modTile p (fun t => t.stopped i.n)
  else if x.sigEn ∧ !grouped then res.1.semAdd p x.sigSem 1 x else res.1

/-- A command leaves the queue of its unit, and works with the records it was dispatched with (R231, R236); its DRAM requests pass
the decoder of its die (R277). -/
def Dev.leaveQueue (d : Dev) (p : Nat) (i : Issued) : Dev :=
  (d.modTile p (fun t => { t with issue := t.issue.filter (fun j => j.n ≠ i.n) })).workAs p i.recs

/-- The head of a unit's queue runs, if it is the kind of command named and may start: it leaves the queue, then `body`
has its effect. Otherwise nothing changes. -/
def Dev.runUnit (d : Dev) (p u : Nat) (sel : Desc → Bool) (body : Issued → Dev → Dev) : Dev :=
  match d.startable p u with
  | none => d
  | some i =>
    if sel i.desc then
      (body i (d.leaveQueue p i)).sync p
    else d

/-- A command with its checks at start (R258): rejected with the first that fails, else its effect and its completion. -/
def Dev.startChecked (d : Dev) (p : Nat) (i : Issued) (chk : Chk) (eff : Dev → Dev) : Dev :=
  match chk with
  | some code => d.readHalt p code i.desc
  | none => eff d

/-! ## Check groups at dispatch (R241, R242) -/

def Group.sameKey (g : Group) (x : Desc) : Bool := g.layer == x.layer && g.mb == x.mb && g.sem == x.chkSem

/-- The groups after a command with CHK_EN is dispatched, or the rejection. -/
def dispatchGroup (gs : List Group) (i : Issued) : Except Nat (List Group) :=
  let x := i.desc
  let isFwd := x.opcode == 0x30 || x.opcode == 0x10
  let isOpen (g : Group) := g.fwd == isFwd && g.sameKey x && !g.closed
  let nOpen := (gs.filter (fun g => g.fwd == isFwd && !g.closed)).length
  if !x.chkEn then .ok gs
  else if x.opcode = 0x30 then
    if gs.any isOpen then .error 0x2007
    else if nOpen ≥ 4 then .error 0x200C
    else .ok (gs ++ [{ fwd := true, layer := x.layer, mb := x.mb, sem := x.chkSem, cvt := some i }])
  else
    match gs.find? isOpen with
    | none =>
      if isFwd then .error 0x2007
      else if nOpen ≥ 4 then .error 0x200C
      else .ok (gs ++ [{ fwd := false, layer := x.layer, mb := x.mb, sem := x.chkSem, cmds := [i], closed := x.chkLast }])
    | some g =>
      if g.cmds.length + (if g.cvt.isSome then 1 else 0) ≥ 16 then .error 0x200C
      else .ok (gs.map (fun h => if isOpen h then { h with cmds := h.cmds ++ [i], closed := x.chkLast } else h))

/-! ## Fetch and dispatch (R221–R228, R235) -/

/-- A descriptor's DCHECK matches (R223). -/
def Desc.checkOk (x : Desc) : Bool := crc32c (x.bytes.take 60) == x.f 60 4

/-- The next descriptor of the list at HEAD is read, checked and dispatched: `err` is what its reads suffered, if anything
(true: all three mismatch). Returns whether fetching goes on. -/
def Dev.fetchOne (d : Dev) (p addr : Nat) (err : Option Bool) : Dev × Bool :=
  let t := d.tile p
  let a := addr + 64 * t.fetchPos
  match d.readError a 64 with
  | some stop => (d.readHalt p stop 0 true, false)
  | none =>
    let x : Desc := Desc.ofBytes (d.bytes a 64)
    let good := x.checkOk
    if !good ∨ err = some true then
      let d := (List.range 3).foldl (fun d _ => d.cvuMismatch p (crc32c (x.bytes.take 60)) (x.f 60 4)) d
      (d.halt p 0x2003 x true, false)
    else
      let d :=
        if err = some false then
          let res := d.fresh
          let v := res.1
          let d := res.2
          ((d.cvuMismatch p (v % 2 ^ 32) (x.f 60 4)).setFld ENG_STATUS.DESC_SOFT 1 p).raise 0x2002
        else d
      let exp := d.fld ENG_STATUS.EXP_SEQ p
      if x.seq ≠ exp then
        (d.halt p (if (x.seq + 1) % 4096 = exp then 0x2004 else 0x2005) x true, false)
      else
        match d.staticCheck p x with
        | some code => ((if code = 0x9001 then d.setFld SHN_STATUS.OVERLAP 1 p else d).readHalt p code x, false)
        | none =>
          let u := (unitOf x.opcode).getD 6
          if (t.issue.filter (fun i => unitOf i.desc.opcode == some u)).length ≥ 16 then (d, false)
          else
            let i : Issued := ⟨t.nextN, x, if x.opcode = 0x50 then d.bytes (unit64 p x.sPlan) 128 else [], d.namedRecs p x⟩
            match dispatchGroup t.groups i with
            | .error code => (d.halt p code x, false)
            | .ok gs =>
              let holds := x.opcode == 0x7F && bitOf (x.f 22 1) 0
              let t := { t with
                groups := gs, issue := t.issue ++ [i], nextN := t.nextN + 1, fetchPos := t.fetchPos + 1
                hold := if holds then some (x.f 23 1, x.f 24 2, some i.n) else t.hold }
              ((d.setTile p t).setFld ENG_STATUS.EXP_SEQ (exp + 1) p, !holds)

/-- Descriptors are dispatched while there are some and room for them (R222, R235). -/
def Dev.fetchLoop (d : Dev) (p addr count : Nat) (errs : List (Nat × Bool)) : Nat → Dev
  | 0 => d
  | k + 1 =>
    let pos := (d.tile p).fetchPos
    if pos ≥ count then d
    else
      let res := d.fetchOne p addr ((errs.find? (fun e => e.1 == pos)).map (·.2))
      let d' := res.1
      let more := res.2
      if more then Dev.fetchLoop d' p addr count errs k else d'

/-- Fetching is allowed (R20, R222). -/
def Dev.mayFetch (d : Dev) (p : Nat) : Bool :=
  d.carriesEng p && d.flag ENG_STEP_CTX.OPEN p && !d.flag ENG_STATUS.HALTED p && !d.flag ENG_STATUS.FLUSHING p && (d.tile p).hold.isNone &&
    d.fld ENG_CQ_PTR.HEAD p != d.fld ENG_CQ_PTR.TAIL p

/-- QUEUE_ENTRY_FETCH (R222): the entry at HEAD is checked; its descriptors are dispatched as far as the issue queues have
room; HEAD advances once the last one is dispatched. `errs` names descriptors whose reads mismatch: false with a matching
re-read, true on all three (R223). -/
def Dev.queueFetch (d : Dev) (p : Nat) (errs : List (Nat × Bool)) : Dev :=
  if !d.mayFetch p then d
  else
    let d := d.withVia (some (p / 5))
    let head := d.fld ENG_CQ_PTR.HEAD p
    let bs := d.bytes (queueAddr p head) 32
    let crc := crc32c (bs.take 28)
    if crc ≠ fieldAt bs 28 4 then ((d.cvuMismatch p crc (fieldAt bs 28 4)).halt p 0x2001 0 true).sync p
    else
      let count := fieldAt bs 8 4
      let d := d.fetchLoop p (fieldAt bs 0 6) count errs 128
      let d :=
        if (d.tile p).fetchPos ≥ count then
          (d.setFld ENG_CQ_PTR.HEAD (head + 1) p).modTile p (fun t => { t with fetchPos := 0 })
        else d
      d.sync p

def execQueueEntryFetch (p : Tile) (errs : List (Nat × Bool)) (s : State) : Host.Outcome State Fault Refusal :=
  run (fun d => d.queueFetch p errs) s

/-! ## SYN, CHK, MRK (R255–R257) -/

/-- A hold ends once its MRK has completed and its semaphore has reached the value (R257). -/
def Dev.liftHold (d : Dev) (p : Nat) : Dev :=
  match (d.tile p).hold with
  | some (sem, v, none) =>
    if d.fld ENG_SEM.COUNT p sem ≥ v then (d.modTile p (fun t => { t with hold := none })).setFld ENG_STATUS.HELD 0 p else d
  | _ => d

/-- Every command before place n on the units marked has completed (R255). -/
def TileSt.before (t : TileSt) (units n : Nat) : Bool :=
  !(t.issue.any (fun i => decide (i.n < n) && bitOf units ((unitOf i.desc.opcode).getD 6)) ||
    (bitOf units 0 && t.drips.any (fun j => decide (j.n < n))) ||
    (bitOf units 1 && t.reruns.any (fun j => decide (j.n < n))) ||
    (bitOf units 5 && t.xchs.any (fun j => decide (j.n < n))))

/-- The SYN at the head of the control unit's queue, once every earlier command of its units has completed (R255). -/
def Dev.synReady (d : Dev) (p : Nat) (x : Desc) : Bool :=
  x.opcode == 0x70 && match d.startable p 6 with
    | some i => (d.tile p).before (x.f 16 1) i.n
    | none => false

/-- SYN (R255): once the earlier commands have completed, the local signal and the remote addition. -/
def Dev.runSyn (d : Dev) (p : Nat) : Dev :=
  d.runUnit p 6 (d.synReady p)
    (fun i d =>
      let x := i.desc
      let d := d.item p 6 x 0 ⟨0, 0, []⟩
      let d := d.finish p i
      if bitOf (x.f 17 1) 0 then
        let q := d.tileOf (x.f 18 1)
        ((d.semAdd q (x.f 19 1) (x.f 20 2)).liftHold q).sync q
      else d)

def execSyn (p : Tile) (s : State) : Host.Outcome State Fault Refusal := run (fun d => (d.runSyn p).liftHold p) s

/-- CHK (R256): the polynomial over LENGTH bytes, compared over its width; RESULT takes the value and a status byte. -/
def Dev.runChk (d : Dev) (p : Nat) : Dev :=
  d.runUnit p 6 (fun x => x.opcode == 0x78) (fun i d =>
    let x := i.desc
    let a := ((d.tensor p (x.f 17 3)).map (·.base)).getD 0 + x.f 20 6
    let len := x.f 26 4
    d.startChecked p i (d.readError a len) (fun d =>
      let poly := crcOfCode (bitsOf (x.f 16 1) 1 0)
      let got := cvuCrc poly (d.bytes a len)
      let want := x.f 30 8 % 2 ^ poly.width
      let bad := decide (got ≠ want)
      let d := if x.f 38 3 = 0 then d else d.fabricWrite (unit64 p (x.f 38 3)) (leBytes 8 got ++ [if bad then 1 else 0])
      let d := d.item p 6 x 0 ⟨32 + (len + 63) / 64, 0, []⟩
      if !bad then d.finish p i
      else
        let (c, e) := if poly.width = 64 then (got % 2 ^ 32, want % 2 ^ 32) else (got, want)
        let d := d.cvuMismatch p c e
        if bitOf (x.f 16 1) 2 then (d.modTile p (fun t => { t with suspect := (a, len) })).halt p 0x200F x else (d.raise 0x200F).finish p i))

def execChk (p : Tile) (s : State) : Host.Outcome State Fault Refusal := run (fun d => (d.runChk p).liftHold p) s

/-- The hold of MRK n, once that has completed, waits for its semaphore alone (R257). -/
def TileSt.holdMarked (t : TileSt) (n : Nat) : TileSt :=
  { t with hold := match t.hold with
      | some (sem, v, some m) => if m = n then some (sem, v, none) else t.hold
      | h => h }

/-- MRK (R257): ENG_MARK to Dammel, then completion; a hold of this MRK then waits for its semaphore alone. -/
def Dev.runMrk (d : Dev) (p : Nat) : Dev :=
  d.runUnit p 6 (fun x => x.opcode == 0x7F) (fun i d =>
    let x := i.desc
    d.startChecked p i (d.readError (unit64 p (x.f 18 3)) (64 * x.f 21 1)) (fun d =>
      let d := d.raise 0x2010
      let d := d.withMarks (⟨p, x.f 16 2, d.bytes (unit64 p (x.f 18 3)) (64 * x.f 21 1)⟩ :: d.marks)
      let d := d.tileRecord p 7 6 (descBody x 0 ++ leBytes 2 (x.f 16 2))
      let d := d.item p 6 x 0 ⟨0, 0, []⟩
      (d.modTile p (fun t => t.holdMarked i.n)).finish p i))

def execMrk (p : Tile) (s : State) : Host.Outcome State Fault Refusal := run (fun d => (d.runMrk p).liftHold p) s

/-! ## The watchdog, flush and the writes of engine registers -/

/-- ENG_WATCHDOG (R240): expiry while something is dispatched or pending and LIMIT is not 0; the cycles counted are the
clock's. -/
def Dev.watchdog (d : Dev) (p : Nat) : Dev :=
  if d.fld ENG_WD.LIMIT p = 0 ∨ d.flag ENG_STATUS.IDLE p then d
  else (d.setFld ENG_STATUS.WD 1 p).halt p 0x200E

def execEngWatchdog (p : Tile) (s : State) : Host.Outcome State Fault Refusal := run (fun d => d.watchdog p) s

/-- Every gradient slot of tile p is EMPTY (R167, R181, R259); contents and geometry stay. -/
def Dev.emptySlots (d : Dev) (p : Nat) : Dev :=
  (List.range 256).foldl (fun d n => d.setFld ACB_SLOT_STATE.STATE 0 p n) d

/-- An ABORT packet for a stream (R347, R365), handed to the tile's base die. -/
def Dev.sendAbort (d : Dev) (p : Nat) (x : Xch) (peer : Nat) : Dev :=
  let g := x.desc.xGroup
  let pk : Packet :=
    { ptype := 6, vc := 2, pflags := 0, src := BitVec.ofNat 12 d.rank, dst := BitVec.ofNat 12 peer
      group := BitVec.ofNat 8 g, alive := 0, epoch := BitVec.ofNat 16 (d.fld CPL_GROUP.EPOCH 0 g)
      tag := BitVec.ofNat 16 x.desc.xTag, dstL := BitVec.ofNat 6 ((d.engOf p).getD 0), fmts := 0, sg := 0, hop := 0
      pseq := 0, offset := 0, nelem := 0, total := BitVec.ofNat 32 x.total, payload := [], crc := 0 }
  d.sendPacket (p / 5) pk

/-- The ranks that an exchange's ABORT goes to: its peer, or every other member of its group (R365). -/
def Dev.abortTo (d : Dev) (x : Xch) : List Nat :=
  if x.prim ≠ 2 then [x.desc.xPeer]
  else if x.desc.xGroup = 0 then d.podPeers
  else (tget [] d.members x.desc.xGroup).filter (fun r => r ≠ d.rank)

/-- Every running exchange of tile p ends with ABORT and without a further write (R259, R365). -/
def Dev.abortXchs (d : Dev) (p : Nat) : Dev :=
  (d.tile p).xchs.foldl (fun d x => (d.abortTo x).foldl (fun d r => d.sendAbort p x r) d) d

/-- Steps 1–4 of a flush (R259): fetching stops, unstarted commands, groups and queued work are discarded, running
commands stop, exchanges end; a CTS held for a SEND is forgotten with it, and its stream starts anew (log 112). -/
def Dev.flushStart (d : Dev) (p : Nat) : Dev :=
  let d := d.setFld ENG_CQ_PTR.HEAD (d.fld ENG_CQ_PTR.TAIL p) p
  let d := d.abortXchs p
  let d := d.modTile p (fun t => { t with fetchPos := 0, issue := [], groups := [], drips := [], reruns := [], fbs := [], confirmed := [], xchs := [], cts := [] })
  let l := (d.engOf p).getD 0
  let d := d.withStreams (d.streams.filter (fun s => s.data || s.eng != l))
  ((d.setFld ENG_STATUS.FLUSHING 1 p).sync p).rduSync

/-- Steps 5–7 of a flush (R259). -/
def Dev.flushEnd (d : Dev) (p : Nat) : Dev :=
  let d := d.emptySlots p
  let d := (d.zeroSems p).setFld ENG_STATUS.EXP_SEQ 0 p
  let d := d.modTile p (fun t => { t with hold := none })
  let d := (d.setFld ENG_STATUS.HALTED 0 p).setFld ENG_STATUS.FLUSHING 0 p
  (d.raise 0x2011).sync p

/-- A whole flush, as Dammel's abort runs it (R412). -/
def Dev.flush (d : Dev) (p : Nat) : Dev := (d.flushStart p).flushEnd p

/-- A write to ENG_CQ_CTRL: a 1 to FLUSH starts a flush; one in progress ignores it (R259, R263). -/
def Dev.writeCqCtrl (d : Dev) (p v : Nat) : Dev :=
  if ENG_CQ_CTRL.FLUSH.get v = 1 ∧ !d.flag ENG_STATUS.FLUSHING p then d.flushStart p else d
def execEngCqFlush (p : Tile) (v : BitVec 32) (s : State) : Host.Outcome State Fault Refusal := run (fun d => d.writeCqCtrl p v.toNat) s

/-- ENG_FLUSHED: the running commands have stopped, and the flush completes (R259). -/
def execEngFlushed (p : Tile) (s : State) : Host.Outcome State Fault Refusal :=
  run (fun d => if d.flag ENG_STATUS.FLUSHING p then d.flushEnd p else d) s

/-- A write to ENG_SEM_ADD (R237, R270): INC added to semaphore SEM; an INC of 0 has no effect. -/
def Dev.writeSemAdd (d : Dev) (p v : Nat) : Dev :=
  let inc := ENG_SEM_ADD.INC.get v
  if inc = 0 then d else (d.semAdd p (ENG_SEM_ADD.SEM.get v) inc).liftHold p |>.sync p
def execEngSemAdd (p : Tile) (v : BitVec 32) (s : State) : Host.Outcome State Fault Refusal := run (fun d => d.writeSemAdd p v.toNat) s

/-- A step opens or closes on a tile: its trace record (R486). -/
def Dev.openRecord (d : Dev) (p kind : Nat) : Dev :=
  d.tileRecord p kind 6 (padTo 10 [] ++ leBytes 6 (d.fld ENG_STEP_CTX.STEP p))

/-- A write to ENG_STEP_CTX (R217): while OPEN reads 1 only OPEN changes; setting OPEN takes the other fields from the same
write and zeroes the semaphores and the expected SEQ (R224, R237). -/
def Dev.writeStepCtx (d : Dev) (p v : Nat) : Dev :=
  if d.flag ENG_STEP_CTX.OPEN p then
    if ENG_STEP_CTX.OPEN.get v = 1 then d
    else (d.setFld ENG_STEP_CTX.OPEN 0 p).openRecord p 9
  else
    let r : RegId := ⟨.ENG_STEP_CTX, p, 0⟩
    let d := d.setReg r (writeByAccess r true (d.reg r) v)
    if ENG_STEP_CTX.OPEN.get v = 1 then
      let d := (d.zeroSems p).setFld ENG_STATUS.EXP_SEQ 0 p
      let d := d.modTile p (fun t => { t with hold := none, retry := [], confirmed := [] })
      ((d.openRecord p 8).openTrackers p).sync p
    else d

def execEngStepCtxWrite (p : Tile) (v : BitVec 64) (s : State) : Host.Outcome State Fault Refusal :=
  run (fun d => d.writeStepCtx p v.toNat) s

/-- ACB_CTRL.CLEAR (R181): every slot EMPTY, contents unchanged, unless a command is accessing a slot. -/
def Dev.writeAcbCtrl (d : Dev) (p v : Nat) : Dev := if ACB_CTRL.CLEAR.get v = 1 ∧ !(d.tile p).usesSlot then d.emptySlots p else d
def execAcbCtrlClear (p : Tile) (v : BitVec 32) (s : State) : Host.Outcome State Fault Refusal := run (fun d => d.writeAcbCtrl p v.toNat) s

/-- SIV_PRE_WIN (R145): ignored when SIZE exceeds 64 or BASE + SIZE exceeds 256. -/
def Dev.writePreWin (d : Dev) (p v : Nat) : Dev :=
  let size := SIV_PRE_WIN.SIZE.get v
  let base := SIV_PRE_WIN.BASE.get v
  if size > 64 ∨ base + size > 256 then d
  else (d.setFld SIV_PRE_WIN.SIZE size p).setFld SIV_PRE_WIN.BASE base p

def execSivPreWinWrite (p : Tile) (v : BitVec 32) (s : State) : Host.Outcome State Fault Refusal :=
  run (fun d => d.writePreWin p v.toNat) s

/-- ACB_SLOT_GEOM[n] (R183): ignored while the slot is not EMPTY. -/
def Dev.writeSlotGeom (d : Dev) (p n v : Nat) : Dev :=
  if d.fld ACB_SLOT_STATE.STATE p n ≠ 0 then d
  else
    let r : RegId := ⟨.ACB_SLOT_GEOM, p, n⟩
    d.setReg r (writeByAccess r true (d.reg r) v)

def execAcbSlotGeomWrite (p : Tile) (n : Fin 256) (v : BitVec 64) (s : State) : Host.Outcome State Fault Refusal :=
  run (fun d => d.writeSlotGeom p n v.toNat) s

end Sys2Proof.Machine
end

