-- ==== Sys2Proof/Machine/Slots.lean ====
section
/-! DEFINITION. Gradient slots of the accumulator buffer (R165–R171). -/

namespace Sys2Proof.Machine

/-- One contribution to a slot element: a W32 value scaled in W32, or (exact) a product scaled without rounding (R164,
R168). -/
structure Contrib where
  v : XR
  exact : Bool := false
  deriving DecidableEq, Repr

/-- The address of slot element (row, col) (R166). -/
def Dev.slotAddr (d : Dev) (p n row col : Nat) : Nat :=
  (d.slotSpan p n).1 + 64 * row * ((d.fld ACB_SLOT_GEOM.COLS p n + 15) / 16) + 4 * col
def Dev.slotElem (d : Dev) (p n row col : Nat) : XR := decW32 (d.nat (d.slotAddr p n row col) 4)

/-- A contribution scaled by 2^(SLOT_G − g_in) (R164, R168). -/
def Contrib.scaled (c : Contrib) (e : Int) : XR := if c.exact then c.v.mul (.fin false (pow2 e)) else wpow2 c.v e

/-- The value of a slot element after its contributions, in order, from `old` (R168). -/
def addContribs (old : XR) (e : Int) (cs : List Contrib) : XR := cs.foldl (fun a c => wadd a (c.scaled e)) old

/-- A command's contributions added into slot n (R168): the first one to an EMPTY slot sets SLOT_G and FIRST_MB and writes
every element; `at row col` lists the contributions that reach an element. -/
def Dev.slotAdd (d : Dev) (p n : Nat) (gIn : Int) (mb : Nat) (cs : Nat → Nat → List Contrib) : Dev :=
  let rows := d.fld ACB_SLOT_GEOM.ROWS p n
  let cols := d.fld ACB_SLOT_GEOM.COLS p n
  let first := d.fld ACB_SLOT_STATE.STATE p n == 0
  let g : Int := if first then gIn else signed 8 (d.fld ACB_SLOT_STATE.SLOT_G p n)
  let old (r c : Nat) : XR := if first then .zero else d.slotElem p n r c
  let new : List (List XR) := (List.range rows).map (fun r => (List.range cols).map (fun c =>
    addContribs (old r c) (g - gIn) (cs r c)))
  let d' := (List.range rows).foldl (fun (d : Dev) r =>
    d.write (d.slotAddr p n r 0) ((new.getD r []).flatMap (fun v => leBytes 4 (encW32 v)))) d
  let d' := if first then
      (((d'.setFld ACB_SLOT_STATE.STATE 1 p n).setFld ACB_SLOT_STATE.SLOT_G (unsigned 8 g) p n).setFld
        ACB_SLOT_STATE.FIRST_MB mb p n).setFld ACB_SLOT_STATE.CONTRIB 0 p n |>.setFld ACB_SLOT_STATE.NONFIN 0 p n
    else d'
  let d' := d'.bump ACB_SLOT_STATE.CONTRIB 1 p n
  let bad := ((List.range rows).zip new).any (fun r => ((List.range cols).zip r.2).any (fun v => !v.2.isFin && (old r.1 v.1).isFin))
  let said := d'.flag ACB_SLOT_STATE.NONFIN p n
  let d' := if bad then (d'.setFld ACB_SLOT_STATE.NONFIN 1 p n).setFld ACB_STATUS.SLOT_NONFIN 1 p else d'
  if bad ∧ !said then d'.raise 0x7005 else d'

/-- Cycles in which a first contribution writes +0 to the elements that it does not reach, 256 a cycle (R168). -/
def Dev.zeroFill (d : Dev) (p n : Nat) (cs : Nat → Nat → List Contrib) : Nat :=
  if d.fld ACB_SLOT_STATE.STATE p n ≠ 0 then 0
  else
    let cols := d.fld ACB_SLOT_GEOM.COLS p n
    ((List.range (d.fld ACB_SLOT_GEOM.ROWS p n)).foldl (fun s r => s + ((List.range cols).filter (fun c => (cs r c).isEmpty)).length) 0
      + 255) / 256

/-- A command that adds into a SEALED slot is rejected (R167). -/
def Dev.addMisuse (d : Dev) (p n : Nat) : Chk := if d.fld ACB_SLOT_STATE.STATE p n = 2 then some 0x7001 else none
/-- A command that reads an EMPTY slot, or one that another command has sealed, is rejected (R167). -/
def Dev.readMisuse (d : Dev) (p n : Nat) : Chk := if d.fld ACB_SLOT_STATE.STATE p n ≠ 1 then some 0x7001 else none

/-- What the buffer's reads of an ACCUM slot suffer (R178): a mismatch with a matching re-read is reported and passes; a
failed word stops the command. -/
def Dev.slotRead (d : Dev) (p n : Nat) (rd : ReadOutcome) : Dev × Chk :=
  let (a, len) := d.slotSpan p n
  if d.fld ACB_SLOT_STATE.STATE p n = 0 then (d, none)
  else
    match rd with
    | .clean => (d, d.readError a len)
    | .soft => ((d.setFld ACB_STATUS.CHECK_SOFT 1 p).raise 0x7003, d.readError a len)
    | .hard => (d, some 0x7004)

end Sys2Proof.Machine
end

