-- ==== Sys2Proof/Machine/Arrays.lean ====
section
/-! DEFINITION. The forward array (R65–R101, R244), the backward array (R149–R180, R246), and the work it runs for check
groups: shadow tiles, fallbacks, gradient re-runs (R125–R141). -/

namespace Sys2Proof.Machine

def cdiv (a b : Nat) : Nat := (a + b - 1) / b

/-! ## The walk over blocks (R68, R71, R75, R155) -/

/-- The shape of a product and its walk: form, rows, outputs and reduction per product, and the number of products. -/
structure Walk where
  form : Nat
  m : Nat
  n : Nat
  k : Nat
  batch : Nat
  deriving DecidableEq, Repr

def Desc.walk (x : Desc) : Walk := ⟨x.fForm, x.fM, x.fN, x.fK, x.fBatch⟩
/-- The fold of a THIN product (R74). -/
def Walk.fold (w : Walk) : Nat := if w.m ≤ 1 then 1 else if w.m ≤ 2 then 2 else if w.m ≤ 4 then 4 else if w.m ≤ 8 then 8 else 16
/-- Reduction positions per block (R68); in THIN a weight tile (R75). -/
def Walk.red (w : Walk) : Nat := if w.form = 0 then 256 else 128
/-- Outputs per block (R68). -/
def Walk.outs (w : Walk) : Nat := match w.form with | 0 => 256 | 1 => 128 | 2 => 512 | _ => 65536 / w.fold
def Walk.rows (w : Walk) : Nat := if w.form = 3 then 16 else 128
def Walk.kb (w : Walk) : Nat := cdiv w.k w.red
def Walk.nb (w : Walk) : Nat := cdiv w.n w.outs
def Walk.mb (w : Walk) : Nat := cdiv w.m w.rows
def Walk.rounds (w : Walk) : Nat := if w.form = 1 then cdiv w.batch 4 else w.batch
/-- Every block walked (R86). -/
def Walk.blocks (w : Walk) : Nat := w.rounds * w.nb * w.mb * w.kb
/-- The place of an output block: rounds outermost, then N-blocks, then M-blocks (R71, R75). -/
def Walk.outBlock (w : Walk) (b i j : Nat) : Nat :=
  ((if w.form = 1 then b / 4 else b) * w.nb + j / w.outs) * w.mb + i / w.rows
/-- Rows of the last M-block and outputs of the last N-block, summed over the last round (R86). -/
def Walk.lastM (w : Walk) : Nat := w.m - w.rows * (w.mb - 1)
def Walk.lastN (w : Walk) : Nat :=
  (w.n - w.outs * (w.nb - 1)) * (if w.form = 1 then w.batch - 4 * (w.rounds - 1) else 1)
def Walk.empty (w : Walk) : Bool := w.m == 0 || w.n == 0 || w.batch == 0
/-- The blocks of a partly filled M-block are held for 128 cycles each (R71): the idle remainder over the whole walk. -/
def Walk.remainder (w : Walk) : Nat :=
  if w.form = 3 then 0 else w.rounds * w.nb * w.kb * (128 - w.lastM)

/-- Blocks of row i of product b that the array has entered, of all or of the first `lim` blocks of the walk (R71, R90). -/
def Walk.entered (w : Walk) (lim : Option Nat) (b i : Nat) : Nat :=
  match lim with
  | none => w.nb * w.kb
  | some l => (List.range w.nb).foldl (fun s j => s + Nat.min w.kb (l - w.outBlock b i (j * w.outs) * w.kb)) 0

/-- The columns of row i of product b whose output blocks come before block `lim`. -/
def Walk.doneCols (w : Walk) (lim : Option Nat) (b i : Nat) : Nat :=
  match lim with
  | none => w.n
  | some l => ((List.range w.n).filter (fun j => decide (w.outBlock b i j < l))).length

/-! ## Sums of the B-array (R153, R154) -/

/-- A W32 sum and whether it became infinite from finite operands (R154). -/
abbrev Sum := XR × Bool

def addR (s : Sum) (q : XR) : Sum :=
  let r := rw (s.1.add q)
  (r, s.2 || (s.1.isFin && q.isFin && !r.isFin))
/-- One reduction block: its products in ascending position; none when every position is masked (R153). -/
def blockSum : List XR → Option Sum
  | [] => none
  | q :: qs => some (qs.foldl addR (rw q, q.isFin && !(rw q).isFin))
/-- Block sums added into the edge store from exact +0 (R153). -/
def edgeSum (blocks : List (List XR)) : Sum :=
  blocks.foldl (fun s b => match blockSum b with
    | none => s
    | some t => let r := addR s t.1; (r.1, r.2 || t.2)) (.zero, false)

/-- The positions 0 … k − 1 cut into reduction blocks. -/
def redBlocks (k red : Nat) : List (List Nat) :=
  (List.range (cdiv k red)).map (fun b => (List.range (Nat.min red (k - b * red))).map (fun i => b * red + i))

/-! ## FMM: operands (R66, R67, R77, R84) -/

/-- A live activation row: the values as the array takes them, q − z as real integers, the converter's zero point, and
the row scale. -/
structure XRow where
  ent : List Int
  val : List Int
  z : Int
  s : XR
  drips : List (Nat × Nat)
  deriving DecidableEq, Repr

def Dev.xRow (d : Dev) (t : Tensor) (r k : Nat) : XRow :=
  let codes := (List.range k).map (fun c => d.code t r c)
  let s := decG16 (d.scaleCode t r)
  let drips := (d.actDrips t r).filter (fun e => e.1 < k)
  if t.fmt = .U8 then
    let z := d.rowZp t r
    ⟨codes.map (fun (c : Nat) => (c : Int) - 128), codes.map (fun (c : Nat) => (c : Int) - z), z - 128, s, drips⟩
  else ⟨codes.map (signed 8), codes.map (signed 8), 0, s, drips⟩

/-- The expanded weights of row j over k positions (R77). -/
def Dev.wRow (d : Dev) (t : Tensor) (j k : Nat) : List Int :=
  (List.range k).map (fun c => (expand t.fmt (d.code t j c)).1)

/-- The column sum over the FMM's reduction (R84, R316), as stored where a whole section is covered. -/
def Dev.colSum (d : Dev) (t : Tensor) (j k : Nat) : Int :=
  if t.layout ≠ 1 ∨ k = 0 then 0
  else if k = t.cols then signed 32 (d.nat (t.sideAddr (j / 128) + 256 + 4 * (j % 128)) 4)
  else
    let full := (List.range (k / 128)).foldl (fun s kb =>
      s + signed 16 (d.nat (t.tileSide (j / 128) kb + 32 + 2 * (j % 128)) 2)) (0 : Int)
    ((d.wRow t j k).drop (128 * (k / 128))).foldl (· + ·) full

/-- One addition into the edge store (R83), and whether it left I32. -/
def accAdd (wrap : Bool) (a ps : Int) : Int × Bool :=
  let s := a + ps
  if s < -2147483648 ∨ 2147483647 < s then
    (if wrap then signed 32 (unsigned 32 s) else if s < 0 then -2147483648 else 2147483647, true)
  else (s, false)

/-- The accumulation of one output: ACC_INIT, then the partial sums of the weight tiles in ascending order (R81). -/
def accumulate (wrap : Bool) (init : Int) (xs ws : List Int) : Int × Bool :=
  (redBlocks xs.length 128).foldl (fun a blk =>
    let ps := blk.foldl (fun (s : Int) i => s + xs.getD i 0 * ws.getD i 0) 0
    let r := accAdd wrap a.1 ps
    (r.1, a.2 || r.2)) (init, false)

/-- Step 4 of R58: d × p in W32, kept exact where it lies beyond the W32 range. -/
def dequant (a : Int) (p : XR) : XR :=
  let x := (rw (.ofInt a)).mul p
  if x.isFin ∧ !(rw x).isFin then x else rw x

/-- One output of the edge converter: code, flags, whether the accumulator saturated, and the value converted. -/
structure FOut where
  code : Nat
  fl : Flags
  accSat : Bool
  u : XR
  deriving DecidableEq, Repr

def Desc.rndF (x : Desc) : Rnd := (Rnd.ofCode x.fRnd).getD .rne
def Desc.outF (x : Desc) : Fmt := (Fmt.ofCode x.fOut).getD .W32
/-- The conversion of an FMM or BMM output at logical position `pos` (R208): INT_WRAP is ACC_WRAP (R581). -/
def Dev.outConv (d : Dev) (p : Nat) (x : Desc) (dst : Fmt) (base pos : Nat) : Conv :=
  { dst := dst, rnd := x.rndF, intWrap := x.fWrap, fltNsat := x.fNsat, rand := d.srBits p x.layer x.rndF (base + pos) }

/-- The value of an output code: I32 outputs in their own units (R581). -/
def outVal (f : Fmt) (code : Nat) : XR := decode f 1 0 code

/-- The output of row r against weight row jw at column j (R58, R84). -/
def Dev.fmmOut (d : Dev) (p : Nat) (x : Desc) (xr : XRow) (sw : XR) (ws : List Int) (c init : Int) (hasInit : Bool) (pos : Nat) :
    FOut :=
  let out := x.outF
  if x.fK = 0 ∧ !hasInit then ⟨0, {}, false, .zero⟩
  else
    let a := accumulate x.fWrap init xr.ent ws
    let dd := a.1 - xr.z * c
    let u := if out = .I32 then .ofInt dd else dequant dd (wmul xr.s sw)
    let r := convert (d.outConv p x out x.fRndBase pos) u
    ⟨r.1, if x.fK = 0 then { r.2 with ovf := false } else r.2, a.2 && x.fK != 0, u⟩

/-- The ACC_INIT value of (r, j), the same for every product of a QUAD FMM (R82). -/
def Dev.accInit (d : Dev) (t : Option Tensor) (r j : Nat) : Int :=
  match t with
  | none => 0
  | some t => if r < t.rows ∧ j < t.cols then signed 32 (d.nat (t.addr r j) 4) else 0

/-! ## Errors the array's checks see (R95–R98, R176–R177) -/

/-- The registers and events of one array: residue log, status fields, event codes. -/
structure ArrayRegs where
  log : RegName
  parity : Fld
  soft : Fld
  hard : Fld
  ev : Nat
  deriving DecidableEq, Repr

def fRegs : ArrayRegs := ⟨.FWA_RESIDUE_LOG, FWA_STATUS.PARITY, FWA_STATUS.RES_SOFT, FWA_STATUS.RES_HARD, 0x3001⟩
def bRegs : ArrayRegs := ⟨.BKA_RESIDUE_LOG, BKA_STATUS.PARITY, BKA_STATUS.RES_SOFT, BKA_STATUS.RES_HARD, 0x4001⟩

/-- The errors of a piece of work in the order seen, with whether each is seen in a recomputation. Errors beyond the walk, or in
an output block of `unit` blocks behind the last one's, cannot occur; one in the same output block as the one before ends the
work (R97, R98, R177). -/
def seenFaults (unit nblocks : Nat) : Option Nat → List ArrayFault → List (ArrayFault × Bool)
  | _, [] => []
  | last, f :: fs =>
    let u := f.block / Nat.max unit 1
    if f.block ≥ nblocks ∨ last.any (fun l => decide (u < l)) then seenFaults unit nblocks last fs
    else if last = some u then [(f, true)]
    else (f, false) :: seenFaults unit nblocks (some u) fs

/-- The block at which the work ends for good, if a recomputation fails (R97, R177). -/
def hardBlock : List (ArrayFault × Bool) → Option Nat
  | (f, _) :: (g, true) :: _ => some (Nat.max f.block g.block)
  | _ :: es => hardBlock es
  | [] => none

/-- Blocks walked again by the recomputations, each from the first block of its output block (R97, R177). -/
def repeatBlocks (unit : Nat) : List (ArrayFault × Bool) → Nat
  | [] => 0
  | (_, _) :: (g, true) :: _ => g.block % Nat.max unit 1 + 1
  | (f, _) :: es => f.block % Nat.max unit 1 + 1 + repeatBlocks unit es

/-- An error logged: the most recent one stands, COUNT saturates (R100, R180). -/
def Dev.resLog (d : Dev) (p : Nat) (a : ArrayRegs) (x : Desc) (block kind sub : Nat) : Dev :=
  let r : RegId := ⟨a.log, p, 0⟩
  let n := Nat.min (FWA_RESIDUE_LOG.COUNT.get (d.reg r) + 1) 255
  d.setReg r (x.layer * 2 ^ 48 + x.operator * 2 ^ 32 + x.mb * 2 ^ 24 + n * 2 ^ 16 + block % 4096 * 16 + kind * 4 + sub)

/-- One error seen: logged with its kind, or as the failure of a recomputation, and raised (R97, R100, R177). -/
def Dev.seeFault (d : Dev) (p : Nat) (a : ArrayRegs) (x : Desc) (e : ArrayFault × Bool) : Dev :=
  let d := if e.1.parity then d.setFld a.parity 1 p else d
  let d := (d.resLog p a x e.1.block (if e.2 then 3 else if e.1.parity then 2 else 1) e.1.sub.val).raise
    (if e.1.parity then a.ev + 2 else a.ev)
  if e.2 then d.setFld a.hard 1 p else d

/-- The errors of one piece of work in order: each is logged and raised and its output block, of `unit` blocks, repeated once;
the first whose repetition fails ends the work, and the block reached is answered (R97, R177). -/
def Dev.arrayFaults (d : Dev) (p : Nat) (a : ArrayRegs) (x : Desc) (unit nblocks : Nat) (fs : List ArrayFault) : Dev × Option Nat :=
  let es := seenFaults unit nblocks none fs
  let hard := hardBlock es
  let passed := es.length - (if hard.isSome then 2 else 0)
  let d := es.foldl (fun d e => d.seeFault p a x e) d
  (if passed = 0 then d else d.setFld a.soft 1 p, hard)

/-- Blocks of the repetitions of a piece of work (R97, R177, R476 reason 0x1). -/
def repeated (unit nblocks : Nat) (fs : List ArrayFault) : Nat := repeatBlocks unit (seenFaults unit nblocks none fs)
def repeatStall (n : Nat) : List (Nat × Nat) := if n = 0 then [] else [(1, n)]

/-! ## Check groups: members and sampling (R124–R126) -/

/-- The group that a dispatched command belongs to. -/
def TileSt.groupOf (t : TileSt) (n : Nat) : Option Group :=
  t.groups.find? (fun g => g.cmds.any (·.n == n) || g.cvt.any (·.n == n))
/-- A group replaced: the one that holds command n. -/
def TileSt.modGroup (t : TileSt) (n : Nat) (f : Group → Group) : TileSt :=
  { t with groups := t.groups.map (fun g => if g.cmds.any (·.n == n) || g.cvt.any (·.n == n) then f g else g) }

/-- Row blocks, column blocks and number of tiles of an FMM's output (R125). -/
def Desc.tiles (x : Desc) : Nat × Nat × Nat :=
  let rb := if x.fForm = 3 then (if x.fM = 0 then 0 else 1) else cdiv x.fM 128
  let cb := cdiv x.fN 128
  (rb, cb, x.fBatch * rb * cb)

/-- The sampled tiles of an FMM in ascending order (R125). -/
def Dev.sampled (d : Dev) (p : Nat) (x : Desc) : List Nat :=
  let lt := d.ltab p x.layer
  let n := x.tiles.2.2
  if !lt.shadowEn ∨ !d.flag SIV_CTRL.SHADOW_EN p ∨ d.fld SIV_PRE_WIN.SIZE p = 0 ∨ n = 0 then []
  else
    let idx (t : Nat) := d.draw p x.layer 3 (x.operator * 2 ^ 32 + x.mb * 2 ^ 24 + t)
    let ts := (List.range n).filter (fun t => idx t % 2 ^ lt.k == 0)
    if ts.isEmpty then [idx 0xFFFFFF % n] else ts

/-- The staging of a tile fits the pre-image window (R126, R145). -/
def Dev.windowFits (d : Dev) (p : Nat) (x : Desc) : Bool :=
  decide (256 * (128 * cdiv x.fK 128) ≤ d.fld SIV_PRE_WIN.SIZE p * 131072)

/-- An FMM of a check group samples its tiles, or counts them skipped (R125, R126). -/
def Dev.sample (d : Dev) (p : Nat) (i : Issued) : Dev :=
  let x := i.desc
  match (d.tile p).groupOf i.n with
  | none => d
  | some g =>
    if !x.chkEn ∨ g.pinned then d
    else
      let ts := d.sampled p x
      if ts.isEmpty then d
      else if d.windowFits p x then
        d.modTile p (fun t => t.modGroup i.n (fun g => { g with shadow := g.shadow ++ ts.map (fun t => (i.n, t)) }))
      else ((d.bump SIV_STEP_COUNTS.SHADOW_SKIP ts.length p).setFld SIV_STATUS.PRE_WIN_SHORT 1 p).raise 0x5004

/-- The outputs of a member stand written, with their corrections. -/
def Dev.memberDone (d : Dev) (p n : Nat) : Dev :=
  d.modTile p (fun t => t.modGroup n (fun g => if g.done.contains n then g else { g with done := g.done ++ [n] }))

/-! ## FMM -/

/-- What an FMM reads (R232): activations, weights, mask, initial values. -/
def Dev.fmmReads (d : Dev) (p : Nat) (x : Desc) : List (Nat × Nat) :=
  let rows := x.fBatch * x.fM
  let r (o : Nat) (n : Nat) := ((d.tensor p (x.f o 3)).map (fun t => t.reads n)).getD []
  let xd := match d.tensor p (x.f 16 3) with
    | some t => if t.hasDrip && x.fDrip && t.layout == 0 then [(t.drip, 288 * rows)] else []
    | none => []
  r 16 rows ++ xd ++ r 19 (x.fBatch * x.fN) ++ (if x.f 25 3 % 0x10000 = noOp then [] else r 25 0) ++ r 28 x.fM

/-- Streaming cycles of a THIN FMM (R74, R86). -/
def Dev.thinStream (d : Dev) (p : Nat) (x : Desc) : Nat :=
  let w := x.walk
  let bits := ((Fmt.ofCode x.fWFmt).getD .I8).bits
  let area := (128 * cdiv w.k 128) * (128 * cdiv w.n 128)
  let dram := match d.tensor p (x.f 19 3) with | some t => isDramAddr t.base | none => false
  -- w weights per cycle, as the fraction num ÷ den (R74)
  let (num, den) := if dram then (80000, 17 * bits) else (65536 / bits, 1)
  if 65536 / w.fold * den ≤ num then cdiv area (65536 / w.fold) else cdiv (area * den) num

/-- Masked row-cycles of an FMM that walks `lim` blocks or all: each masked row in each block entered, and in THIN each masked
row and each row beyond T of the fold in every streaming cycle (R74, R90). -/
def Dev.fmmMasked (d : Dev) (p : Nat) (x : Desc) (lim : Option Nat) : Nat :=
  let w := x.walk
  let mask := d.tensor p (x.f 25 3)
  let dead := (List.range (w.batch * w.m)).filter (fun r => !d.live mask r)
  if w.empty ∨ w.k = 0 then 0
  else if w.form = 3 then
    (dead.length + (w.fold - w.m)) * (match lim with | none => d.thinStream p x | some l => cdiv (d.thinStream p x * l) w.blocks)
  else dead.foldl (fun s r => s + w.entered lim (r / w.m) (r % w.m)) 0

/-- Cycles of an FMM and its stalls (R69, R71, R86, R93, R94). One that a hard failure ends counts its setup, its first load
and the blocks it has walked; THIN has no block period, and its blocks share the streaming cycles alike (DESIGN CHOICE, log
91). -/
def Dev.fmmCycles (d : Dev) (p : Nat) (x : Desc) (fs : List ArrayFault) : Acct :=
  let w := x.walk
  if w.empty then ⟨24, 0, []⟩
  else
    let form := if d.fld FWA_STATUS.FORM p = w.form then [] else [(2, 16)]
    if w.k = 0 then ⟨24 + 12 + cdiv (w.m * w.n) 512, 0, form⟩
    else
      let rep := repeated w.kb w.blocks fs
      let lim := (hardBlock (seenFaults w.kb w.blocks none fs)).map (· + 1)
      let masked := d.fmmMasked p x lim
      if w.form = 3 then
        let fill := 11 + cdiv (w.m * Nat.min w.k 4096) 8192
        let stream := d.thinStream p x
        let part (n : Nat) : Nat := cdiv (stream * n) w.blocks
        match lim with
        | some l => ⟨24 + fill + part l, masked, form ++ repeatStall (part rep)⟩
        | none => ⟨24 + fill + stream + 12 + cdiv (w.m * w.lastN) 512, masked, form ++ repeatStall (part rep)⟩
      else
        match lim with
        | some l => ⟨24 + 128 + 128 * l, masked, form ++ repeatStall (128 * rep)⟩
        | none =>
          let rem := w.remainder
          let fill := if w.form = 0 then 384 else 256
          ⟨24 + 128 + 128 * w.blocks - rem + fill + 12 + cdiv (w.lastM * w.lastN) 512, masked,
            form ++ repeatStall (128 * rep) ++ (if rem = 0 then [] else [(3, rem)])⟩

def outDir (x : Desc) (src : Nat) (wide : Bool) : Nat := x.pass + (if wide then 4 else 0) + 8 * src
def fmtByte (f rnd : Nat) : Nat := f + 16 * rnd

/-- The tally of one output (R119, R121). -/
def tallyOut (f : Fmt) (o : FOut) (extra : Flags) : Tally :=
  ⟨o.u, o.u, outVal f o.code, o.fl.ovf || extra.ovf || o.accSat, false, false⟩

/-- The outputs of an FMM, row by row of the live rows (R71, R84, R90). -/
def Dev.fmmRows (d : Dev) (p : Nat) (x : Desc) (tx tw : Tensor) (mask init : Option Tensor) : List (Nat × List FOut) :=
  let w := x.walk
  if w.empty then []
  else
    (List.range w.batch).flatMap (fun b =>
      let wrows := (List.range w.n).map (fun j =>
        (decG16 (d.scaleCode tw (b * w.n + j)), d.wRow tw (b * w.n + j) w.k, d.colSum tw (b * w.n + j) w.k))
      ((List.range w.m).filter (fun r => d.live mask (b * w.m + r))).map (fun r =>
        let row := b * w.m + r
        let xr := d.xRow tx row w.k
        (row, ((List.range w.n).zip wrows).map (fun jw =>
          d.fmmOut p x xr jw.2.1 jw.2.2.1 jw.2.2.2 (d.accInit init r jw.1) init.isSome (row * w.n + jw.1)))))

/-- An addition of the output block in progress at block h has saturated or wrapped, although the block was not written (R83,
R97). -/
def Dev.partSat (d : Dev) (x : Desc) (tx tw : Tensor) (mask init : Option Tensor) (h : Nat) : Bool :=
  let w := x.walk
  let len := Nat.min w.k ((h % w.kb + 1) * w.red)
  (List.range w.batch).any (fun b => (List.range w.m).any (fun r =>
    d.live mask (b * w.m + r) && (List.range w.n).any (fun j => w.outBlock b r j == h / w.kb &&
      (accumulate x.fWrap (d.accInit init r j) ((d.xRow tx (b * w.m + r) w.k).ent.take len) ((d.wRow tw (b * w.n + j) w.k).take len)).2)))

/-- An FMM's outputs stored as far as its walk came, with its form and its saturation shown (R69, R83, R96); `part` is the
saturation of a block not written. An empty FMM never occupies the array (R69, R94; DEDUCED, log 92). -/
def Dev.fmmStore (d : Dev) (p : Nat) (ty : Tensor) (w : Walk) (lim : Option Nat) (part : Bool) (rowsOut : List (Nat × List FOut)) : Dev :=
  let d := if w.empty then d else d.setFld FWA_STATUS.FORM w.form p
  let d := rowsOut.foldl (fun (d : Dev) e =>
    d.putRow ty e.1 0 ((e.2.take (w.doneCols lim (e.1 / Nat.max w.m 1) (e.1 % Nat.max w.m 1))).map (·.code))) d
  if part ∨ rowsOut.any (fun e => (e.2.take (w.doneCols lim (e.1 / Nat.max w.m 1) (e.1 % Nat.max w.m 1))).any (·.accSat))
  then (d.setFld FWA_STATUS.ACC_SAT 1 p).raise 0x3004 else d

/-- An FMM's end: its sample, then its drips (R79) or its record (R119), and its completion. -/
def Dev.fmmEnd (d : Dev) (p : Nat) (i : Issued) (rowsOut : List (Nat × List FOut)) : Dev :=
  let x := i.desc
  let w := x.walk
  let d := d.sample p i
  if x.fDrip then
    let pick (f : FOut → Bool) : List Nat := rowsOut.flatMap (fun e =>
      ((List.range e.2.length).zip e.2).filterMap (fun o => if f o.2 then some (e.1 * w.n + o.1) else none))
    d.modTile p (fun t => { t with
      drips := t.drips ++ [⟨i.n, x, pick (·.fl.ovf), pick (·.fl.nonfin), pick (·.accSat), i.recs⟩] })
  else
    let cnt := rowsOut.foldl (fun (c : RecCnt) e => c.addRow (e.2.map (fun o => tallyOut x.outF o {}))) {}
    let d := d.putRec p x.fStat (recBytes x (outDir x 2 false) (fmtByte x.fOut x.fRnd) 0 cnt 0 0 0 0)
    (d.finish p i).memberDone p i.n

/-- The effect of an FMM's array part: every output block that passed is written; the record follows at once without
drip corrections (R79, R81–R97, R121). -/
def Dev.fmmRun (d : Dev) (p : Nat) (faults : List ArrayFault) (i : Issued) : Dev :=
  let x := i.desc
  let w := x.walk
  match d.tensor p (x.f 16 3), d.tensor p (x.f 19 3), d.tensor p (x.f 22 3) with
  | some tx, some tw, some ty =>
    let mask := d.tensor p (x.f 25 3)
    let init := d.tensor p (x.f 28 3)
    let rowsOut := d.fmmRows p x tx tw mask init
    let acct := d.fmmCycles p x faults
    let res := d.arrayFaults p fRegs x w.kb w.blocks (if w.empty then [] else faults)
    let hard := res.2
    let part := hard.any (fun h => d.partSat x tx tw mask init h)
    let d := (res.1.fmmStore p ty w (hard.map (fun b => b / Nat.max w.kb 1)) part rowsOut).item p 0 x 0 acct
    if hard.isSome then d.halt p 0x3002 x else d.fmmEnd p i rowsOut
  | _, _, _ => d

/-- The check group of command n is pinned to wide outputs (R137). -/
def TileSt.pinnedGroup (t : TileSt) (n : Nat) : Bool := match t.groupOf n with | some g => g.pinned | none => false

/-- FMM (R244): under SIV_CTRL.PIN an FMM of a check group is skipped and recomputed wide (R137); its SIG_SEM is signalled at the
skip, the group's CHK_SEM after the fallback's writes (DESIGN CHOICE, log 103). -/
def Dev.fmm (d : Dev) (p : Nat) (faults : List ArrayFault) : Dev :=
  d.runUnit p 0 (fun x => x.opcode == 0x10) (fun i d =>
    let x := i.desc
    if x.chkEn && (d.tile p).pinnedGroup i.n then
      (d.modTile p (fun t => { t with fbs := t.fbs ++ [i.n] })).finish p i |>.memberDone p i.n
    else d.startChecked p i (d.readErrors (d.fmmReads p x)) (fun d => d.fmmRun p faults i))

def execFmm (p : Tile) (faults : List ArrayFault) (s : State) : Host.Outcome State Fault Refusal :=
  run (fun d => (d.fmm p faults).liftHold p) s

/-! ## Drip corrections of an FMM (R79, R116, R581) -/

/-- The correction terms of one output, exact, in the order of R79: weight drips, then activation drips. -/
def dripTerms (xr : XRow) (sw : XR) (ws : List Int) (wd : List (Nat × Nat)) : List XR :=
  wd.map (fun e => (xr.s.mul (.ofInt (xr.val.getD e.1 0))).mul (decG16 e.2)) ++
    xr.drips.flatMap (fun e =>
      let δ := decG16 e.2
      ((δ.mul sw).mul (.ofInt (ws.getD e.1 0))) ::
        (wd.filter (fun w => w.1 == e.1)).map (fun w => δ.mul (decG16 w.2)))

/-- The corrected value of an output held as `code` (R79 steps 1–3, R581). -/
def correct (f : Fmt) (code : Nat) (pij : XR) (terms : List XR) : XR :=
  if f = .I32 then (terms.map (fun t => wdiv t pij)).foldl XR.add (outVal f code)
  else terms.foldl wadd (outVal f code)

/-- DRIP_CORRECTION: the oldest FMM whose blocks are written and passed takes its corrections, its record and its
completion (R79, R96, R119). -/
def Dev.dripCorrect (d : Dev) (p : Nat) : Dev :=
  match (d.tile p).drips with
  | [] => d
  | j :: rest =>
    let x := j.desc
    let w := x.walk
    let d := (d.modTile p (fun t => { t with drips := rest })).workAs p j.recs
    match d.tensor p (x.f 16 3), d.tensor p (x.f 19 3), d.tensor p (x.f 22 3) with
    | some tx, some tw, some ty =>
      let mask := d.tensor p (x.f 25 3)
      let d0 := d
      let wdn := if tw.layout = 1 then (List.range (w.batch * w.n)).foldl (fun s j => s + (d0.rowDrips tw j w.k).length) 0 else 0
      let rows := (List.range (w.batch * w.m)).filter (fun r => d0.live mask r)
      let outs : List (Nat × List FOut) := if w.empty then [] else rows.map (fun r =>
        let b := r / w.m
        let xr := d0.xRow tx r w.k
        (r, (List.range w.n).map (fun c =>
          let jw := b * w.n + c
          let sw := decG16 (d0.scaleCode tw jw)
          let pos := r * w.n + c
          let u := correct x.outF (d0.code ty r c) (wmul xr.s sw) (dripTerms xr sw (d0.wRow tw jw w.k) (d0.rowDrips tw jw w.k))
          let o := convert (d0.outConv p x x.outF x.fRndBase pos) u
          let fl := { o.2 with ovf := o.2.ovf || j.ovf.contains pos, nonfin := o.2.nonfin || j.nonfin.contains pos }
          ⟨o.1, fl, j.accSat.contains pos, u⟩)))
      let adn := rows.foldl (fun s r => s + ((d0.actDrips tx r).filter (fun e => e.1 < w.k)).length) 0
      let d := outs.foldl (fun (d : Dev) e => d.putRow ty e.1 0 (e.2.map (·.code))) d
      let cnt := outs.foldl (fun (c : RecCnt) e =>
        let c' := c.addRow (e.2.map (fun o => tallyOut x.outF o {}))
        -- an element NONFIN by its earlier conversion counts, once
        { c' with nonfin := c'.nonfin + (e.2.filter (fun o => o.fl.nonfin && o.u.isFin && (outVal x.outF o.code).isFin)).length }) {}
      let d := d.putRec p x.fStat (recBytes x (outDir x 2 false) (fmtByte x.fOut x.fRnd) 0 cnt 0 0 0 0)
      let d := d.item p 3 x 4 ⟨wdn * cdiv w.m 256 + adn * cdiv w.n 256, 0, []⟩
      ((d.finish p ⟨j.n, x, [], j.recs⟩).memberDone p j.n).sync p
    | _, _, _ => d.sync p

def execDripCorrection (p : Tile) (s : State) : Host.Outcome State Fault Refusal :=
  run (fun d => (d.dripCorrect p).liftHold p) s

/-! ## The reference of shadow tiles and fallbacks (R126, R133) -/

/-- An element of a G16 or W32 tensor as G16: a W32 value is rounded under RNE (R126, R133). -/
def Dev.elemG16 (d : Dev) (t : Tensor) (r c : Nat) : XR :=
  let v := d.elem t r c
  if t.fmt = .W32 then rg v else v

/-- The pre-image row of an FMM's activation row, over k positions (R126): from the narrowing CVT's source, +0 beyond its
row; whisked and brought back to G16 against a frozen whisked matrix (R133). -/
def Dev.preRow (d : Dev) (p : Nat) (x : Desc) (src : Tensor) (cols r k : Nat) (frozen : Bool) : List XR :=
  let row := (List.range (Nat.min cols k)).map (fun c => d.elemG16 src r c)
  let row := if frozen && (d.ltab p x.layer).whisk then
      (d.whisk p (d.stepOf p) x.layer row).map (fun u => rg (u.mul invSqrt128))
    else row
  (row ++ List.replicate (k - row.length) XR.zero).take k

/-- Rows of the pre-image staged as G16 in the pre-image window, one after another from its start, each filled with +0 to K_p
positions; the manual gives the window's inside no layout (R126, R131, R145; DESIGN CHOICE, log 93). -/
def Dev.stage (d : Dev) (p : Nat) (src : Tensor) (cols k : Nat) (rows : List Nat) : Dev :=
  let kp := 128 * cdiv k 128
  let room := if kp = 0 then 0 else d.fld SIV_PRE_WIN.SIZE p * 131072 / (2 * kp)
  let base := larderAddr p (d.fld SIV_PRE_WIN.BASE p * 131072)
  if room = 0 then d
  else ((List.range rows.length).zip rows).foldl (fun (e : Dev) r =>
    e.fabricWrite (base + r.1 % room * (2 * kp)) (padTo (2 * kp)
      ((List.range (Nat.min cols k)).flatMap (fun c => leBytes 2 (encG16 (d.elemG16 src r.2 c)))))) d

/-- Wide sums of one row against the outputs c0 … c1 − 1 of its product, reduction blocks of `red` (R126, R131, R133,
R153), each with its SUM_INF. -/
def Dev.wideRow (d : Dev) (p : Nat) (x : Desc) (src : Tensor) (cols r c0 c1 red : Nat) : List Sum :=
  let b := r / Nat.max x.fM 1
  let k := x.fK
  match d.tensor p (x.f 54 3) with
  | some ms =>
    let row := d.preRow p x src cols r k false
    (List.range (c1 - c0)).map (fun c =>
      edgeSum ((redBlocks k red).map (fun blk => blk.map (fun q => (row.getD q .zero).mul (d.elemG16 ms (b * x.fN + c0 + c) q)))))
  | none =>
    match d.tensor p (x.f 19 3) with
    | none => []
    | some tw =>
      let row := d.preRow p x src cols r k true
      (List.range (c1 - c0)).map (fun c =>
        let j := b * x.fN + c0 + c
        let ws := d.wRow tw j k
        let s := edgeSum ((redBlocks k red).map (fun blk => blk.map (fun q => (row.getD q .zero).mul (.ofInt (ws.getD q 0)))))
        let y := wmul s.1 (decG16 (d.scaleCode tw j))
        ((d.rowDrips tw j k).foldl (fun y e => wadd y ((row.getD e.1 .zero).mul (decG16 e.2))) y, s.2))

/-- p_ij of R581. -/
def Dev.pij (d : Dev) (p : Nat) (x : Desc) (r c : Nat) : XR :=
  match d.tensor p (x.f 16 3), d.tensor p (x.f 19 3) with
  | some tx, some tw => wmul (decG16 (d.scaleCode tx r)) (decG16 (d.scaleCode tw (r / Nat.max x.fM 1 * x.fN + c)))
  | _, _ => .one

/-- Registers of a piece of B-array work (R179). -/
def Dev.bWork (d : Dev) (p work form : Nat) (wide : Bool) : Dev :=
  ((d.setFld BKA_STATUS.WORK work p).setFld BKA_STATUS.FORM form p).setFld BKA_STATUS.PAIR_WIDE (if wide then 1 else 0) p

/-- SUM_INF set and raised once for a piece of work (R154). -/
def Dev.sumInf (d : Dev) (p : Nat) (b : Bool) : Dev :=
  if b then (d.setFld BKA_STATUS.SUM_INF 1 p).raise 0x4004 else d

/-- The source of the narrowing CVT of an FMM's group, and its row length. -/
def Dev.preImage (d : Dev) (p n : Nat) : Option (Tensor × Nat) :=
  match (d.tile p).groupOf n with
  | some g => match g.cvt with
    | some c => (d.tensorOf c.recs p (c.desc.f 16 3)).map (fun t => (t, c.desc.cCols))
    | none => none
  | none => none

/-! ## SHADOW_TILE (R126–R129) -/

/-- The comparison of one tile: whether it fails, and D ÷ P as G16 (R128). A finite quotient beyond the largest G16 value is
stored as that value, as R48 saturates (DESIGN CHOICE, log 102). -/
def tileVerdict (eps : XR) (rows : List (List (XR × XR))) : Bool × XR :=
  let pairBad (e : XR × XR) : Bool := (!e.1.isFin || !e.2.isFin) && !(e.1.isNan && e.2.isNan) && e.1 != e.2
  let both (e : XR × XR) : Bool := e.1.isFin && e.2.isFin
  let dd := rows.foldl (fun a r => wadd a (treeSum (r.map (fun e => if both e then (let d := wsub e.1 e.2; wmul d d) else .zero)))) .zero
  let pp := rows.foldl (fun a r => wadd a (treeSum (r.map (fun e => if both e then wmul e.2 e.2 else .zero)))) .zero
  if rows.any (fun r => r.any pairBad) then (true, .inf false)
  else if pp.isZero then (!dd.isZero, if dd.isZero then XR.zero else XR.inf false)
  else ((rw ((eps.mul eps).mul pp)).lt dd, rg (dd.div pp))

/-- The first shadow tile in the order of R174, once no fallback waits. -/
def TileSt.nextShadow (t : TileSt) : Option (Nat × Nat) :=
  if !t.fbs.isEmpty then none
  else (t.groups.filterMap Group.shadowReady).foldl (fun (a : Option (Nat × Nat)) e => match a with
    | none => some e
    | some b => if e.1 < b.1 then some e else some b) none

/-- The verdict of one shadow tile, from the wide products of its outputs (R126, R128). -/
def Dev.shadowEnd (d : Dev) (p n τ : Nat) (x : Desc) (src : Tensor) (cols : Nat) : Dev :=
  let (rb, cb, _) := x.tiles
  let b := τ / Nat.max (rb * cb) 1
  let r0 := τ % Nat.max (rb * cb) 1 / Nat.max cb 1 * 128
  let c0 := τ % Nat.max cb 1 * 128
  let c1 := Nat.min x.fN (c0 + 128)
  match d.tensor p (x.f 22 3) with
  | none => d.sync p
  | some ty =>
    let mask := d.tensor p (x.f 25 3)
    let rows := ((List.range (Nat.min 128 (x.fM - r0))).map (fun r => b * x.fM + r0 + r)).filter (fun r => d.live mask r)
    let f := x.outF
    let sums := rows.map (fun r => (r, d.wideRow p x src cols r c0 c1 256))
    let d := d.stage p src cols x.fK rows
    let pairs := sums.map (fun e => ((List.range e.2.length).zip e.2).map (fun c =>
      let y := outVal f (d.code ty e.1 (c0 + c.1))
      if f = .I32 then (rw y, wdiv c.2.1 (d.pij p x e.1 (c0 + c.1))) else (y, c.2.1)))
    let d := d.sumInf p (sums.any (fun e => e.2.any (·.2)))
    let (fails, ratio) := tileVerdict (decG16 (d.ltab p x.layer).eps) pairs
    let old := d.recAt p x.fStat
    let err := xmax (decG16 (fieldAt old 52 2)) ratio
    let d := d.patchRec p x.fStat 52 (leBytes 2 (encG16 err) ++ leBytes 2 (Nat.min (fieldAt old 54 2 + 1) 65535))
    (d.modTile p (fun t => t.modGroup n (fun g => { g with
      shadow := g.shadow.filter (fun e => e != (n, τ)), shadowFail := g.shadowFail || fails }))).sync p

/-- A group whose shadow tile or fallback has failed hard: its queued work goes, and it is never evaluated or signalled (R131,
R177). -/
def Dev.killGroup (d : Dev) (p n : Nat) : Dev :=
  d.modTile p (fun t =>
    let mine := match t.groupOf n with | some g => g.cmds.map (fun (i : Issued) => i.n) | none => []
    { t.modGroup n (fun g => { g with shadow := [], dead := true }) with fbs := t.fbs.filter (fun m => !mine.contains m) })

/-- One shadow tile on the B-array: its work item, its faults, its verdict (R126, R129). -/
def Dev.shadowTile (d : Dev) (p : Nat) (faults : List ArrayFault) : Dev :=
  let t := d.tile p
  match t.nextShadow with
  | none => d
  | some (n, τ) =>
    match (t.groupOf n).bind (fun g => g.cmds.find? (·.n == n)), d.preImage p n with
    | some i, some (src, cols) =>
      let x := i.desc
      let d := d.workAs p i.recs
      let frozen := (d.tensor p (x.f 54 3)).isNone
      let d := d.bWork p 1 (if x.fForm = 3 then 0 else x.fForm) (!frozen)
      let kp := 128 * cdiv x.fK 128
      let nb := cdiv kp 256
      let per := if frozen then 128 else 256
      let res := d.arrayFaults p bRegs x nb nb faults
      let hard := res.2
      let d := res.1
      let d := d.item p 1 x 1 ⟨match hard with | none => 24 + 256 + per * nb + 76 | some h => 24 + 256 + per * (h + 1), 0,
        repeatStall (per * repeated nb nb faults)⟩
      if hard.isSome then ((d.killGroup p n).halt p 0x4002 x).sync p else d.shadowEnd p n τ x src cols
    | _, _ => d

def execShadowTile (p : Tile) (faults : List ArrayFault) (s : State) : Host.Outcome State Fault Refusal :=
  run (fun d => d.shadowTile p faults) s

/-! ## FALLBACK_RECOMPUTATION (R131, R133, R137, R157) -/

/-- Cycles of a fallback (R131, R156, R157). -/
def fallbackCycles (x : Desc) (frozen : Bool) : Nat :=
  let w : Walk := { x.walk with form := if x.fForm = 3 then 0 else x.fForm }
  if w.empty then 24
  else if w.k = 0 then 24 + 12 + cdiv (w.m * w.n) 512
  else 24 + 128 + (if frozen then 128 else 256) * w.blocks + (if w.form = 0 then 384 else 256) + 12 + cdiv (w.lastM * w.lastN) 512

/-- The outputs and the record of a fallback that no fault stopped (R131, R133). -/
def Dev.fallbackEnd (d : Dev) (p : Nat) (g : Group) (x : Desc) (src : Tensor) (cols : Nat) : Dev :=
  let w : Walk := { x.walk with form := if x.fForm = 3 then 0 else x.fForm }
  match d.tensor p (x.f 22 3) with
  | none => d.sync p
  | some ty =>
    let mask := d.tensor p (x.f 25 3)
    let d0 := d
    let f := x.outF
    let rows := (List.range (w.batch * w.m)).filter (fun r => d0.live mask r)
    let outs : List (Nat × List (FOut × Bool)) := rows.map (fun r =>
      (r, ((List.range w.n).zip (d0.wideRow p x src cols r 0 w.n w.red)).map (fun c =>
        let u := if f = .I32 then wdiv c.2.1 (d0.pij p x r c.1) else c.2.1
        let o := convert (d0.outConv p x f x.fRndBase (r * w.n + c.1)) u
        (⟨o.1, o.2, false, u⟩, c.2.2))))
    let d := outs.foldl (fun (d : Dev) e => d.putRow ty e.1 0 (e.2.map (·.1.code))) d
    let d := d.sumInf p (outs.any (fun e => e.2.any (·.2)))
    let cnt := outs.foldl (fun (c : RecCnt) e => c.addRow (e.2.map (fun o => tallyOut f o.1 {}))) {}
    let old := d.recAt p x.fStat
    let verdict := if g.pinned then 0x40 else fieldAt old 7 1
    let (e2, tl) := if g.pinned then (0, 0) else (fieldAt old 52 2, fieldAt old 54 2)
    ((d.stage p src cols x.fK rows).putRec p x.fStat (recBytes x (outDir x 2 false) (fmtByte x.fOut x.fRnd) verdict cnt e2 tl 0 0)).sync p

/-- One FMM's fallback on the B-array (R131, R134, R157). -/
def Dev.fallback (d : Dev) (p : Nat) (faults : List ArrayFault) : Dev :=
  let t := d.tile p
  match t.fbs with
  | [] => d
  | n :: rest =>
    match t.groupOf n, d.preImage p n with
    | some g, some (src, cols) =>
      match g.cmds.find? (·.n == n) with
      | none => d.modTile p (fun t => { t with fbs := rest })
      | some i =>
        let x := i.desc
        let d := d.workAs p i.recs
        let w : Walk := { x.walk with form := if x.fForm = 3 then 0 else x.fForm }
        let frozen := (d.tensor p (x.f 54 3)).isNone
        let d := d.bWork p 2 w.form (!frozen)
        let res := d.arrayFaults p bRegs x w.kb w.blocks (if w.empty then [] else faults)
        let hard := res.2
        let d := res.1
        let per := if frozen then 128 else 256
        let d := d.item p 1 x 2 ⟨match hard with | none => fallbackCycles x frozen | some h => 24 + 128 + per * (h + 1), 0,
          repeatStall (per * repeated w.kb w.blocks faults)⟩
        let d := d.modTile p (fun t => { t with fbs := rest })
        if hard.isSome then ((d.killGroup p n).halt p 0x4002 x).sync p else d.fallbackEnd p g x src cols
    | _, _ => d.modTile p (fun t => { t with fbs := rest })

def execFallbackRecomputation (p : Tile) (faults : List ArrayFault) (s : State) : Host.Outcome State Fault Refusal :=
  run (fun d => d.fallback p faults) s

end Sys2Proof.Machine
end

