-- ==== Sys2Proof/Machine/Backward.lean ====
section
/-! DEFINITION. BMM and the widening direction (R149–R164, R246), gradient tracking and re-runs (R138–R141), the evaluation
and the signals of check groups (R129–R137, R243), adapter additions (R172). -/

namespace Sys2Proof.Machine

/-! ## Operands (R150, R151, R155) -/

/-- The element that streams at output row i, reduction position r of product b, with its E8 row scale (R155). -/
def Dev.gElem (d : Dev) (x : Desc) (t : Tensor) (b i r : Nat) : XR :=
  if x.bTrans then d.elem t (b * x.bK + r) i else d.elem t (b * x.bM + i) r
/-- The same as the array takes it: an E8 scale of the output row is left to the edge converter (R151). -/
def Dev.gArr (d : Dev) (x : Desc) (t : Tensor) (b i r : Nat) : XR :=
  if t.fmt = .E8 ∧ !x.bTrans then decode .E8 1 0 (d.code t (b * x.bM + i) r) else d.gElem x t b i r
/-- The E8 row scale that the edge converter applies (R151). -/
def Dev.gScale (d : Dev) (x : Desc) (t : Tensor) (b i : Nat) : XR :=
  if t.fmt = .E8 ∧ !x.bTrans then .fin false (d.rowScale t (b * x.bM + i)) else .one

/-- A stationary element with its row scale; an escape counts 0 (R78, R150). -/
def Dev.narrowElem (d : Dev) (t : Tensor) (row col : Nat) : XR :=
  if t.layout = 1 then .ofRat (d.rowScale t row * ((expand t.fmt (d.code t row col)).1 : Rat)) else d.elem t row col
/-- Its row and column for reduction position r and output j: the reduction runs along rows but for PASS 0 (R151). -/
def Desc.nwPos (x : Desc) (b r j : Nat) : Nat × Nat := if x.pass = 0 then (b * x.bN + j, r) else (b * x.bK + r, j)

/-- A token of the mask is live (R175): a reduction position in the dW phase. -/
def Dev.tokenLive (d : Dev) (x : Desc) (mask : Option Tensor) (b r : Nat) : Bool :=
  x.pass != 2 || d.live mask (b * x.bK + r)

/-- The products of output (i, j) of product b, cut into reduction blocks (R153, R175). -/
def Dev.bmmBlocks (d : Dev) (x : Desc) (tg tn : Tensor) (mask : Option Tensor) (b i j : Nat) : List (List XR) :=
  (redBlocks x.bK x.walk.red).map (fun blk => (blk.filter (d.tokenLive x mask b)).map (fun r =>
    (d.gArr x tg b i r).mul (d.narrowElem tn (x.nwPos b r j).1 (x.nwPos b r j).2)))

/-- The drip corrections of output (i, j), exact, in the order of R164. -/
def Dev.bmmCorr (d : Dev) (x : Desc) (tg tn : Tensor) (mask : Option Tensor) (b i j : Nat) : List XR :=
  if !x.fDrip ∨ !tn.hasDrip then []
  else
    match x.pass with
    | 0 => (d.rowDrips tn (b * x.bN + j) x.bK).map (fun e => (d.gElem x tg b i e.1).mul (decG16 e.2))
    | 1 =>
      if tn.layout ≠ 1 then []
      else (List.range x.bK).filterMap (fun r =>
        (d.dripAt tn (b * x.bK + r) j).map (fun g => (d.gElem x tg b i r).mul (decG16 g)))
    | _ =>
      ((List.range x.bK).filter (d.tokenLive x mask b)).flatMap (fun r =>
        ((d.actDrips tn (b * x.bK + r)).filter (fun e => e.1 == j)).map (fun e => (d.gElem x tg b i r).mul (decG16 e.2)))

/-- Drip entries that the corrections of a BMM visit, and the cycles each costs (R164). -/
def Dev.bmmDripCycles (d : Dev) (x : Desc) (tn : Tensor) (mask : Option Tensor) : Nat :=
  if !x.fDrip ∨ !tn.hasDrip then 0
  else
    let b := List.range x.fBatch
    if x.pass = 2 then
      (b.foldl (fun s b => s + ((List.range x.bK).filter (d.tokenLive x mask b)).foldl (fun s r =>
        s + ((d.actDrips tn (b * x.bK + r)).filter (fun e => e.1 < x.bN)).length) 0) 0) * cdiv x.bM 256
    else if tn.layout ≠ 1 then 0
    else
      let rows := if x.pass = 0 then x.bN else x.bK
      let len := if x.pass = 0 then x.bK else x.bN
      (b.foldl (fun s b => s + (List.range rows).foldl (fun s r => s + (d.rowDrips tn (b * rows + r) len).length) 0) 0) *
        cdiv x.bM 256

/-! ## The widening direction (R102, R111, R138) -/

/-- The E8 row scale of a widened row (R111, R113). -/
def widenScale (row : List XR) : Nat :=
  let a := row.foldl (fun m v => if v.isFin then xmax m v.abs else m) XR.zero
  ceilPow2G16 (wdiv (rw a) (.ofInt 480))

/-- One row widened: the exact factor 2^(g − g_in), the conversion of each element, its tallies, and the row scale. -/
def Dev.widenRow (d : Dev) (p : Nat) (x : Desc) (dst : Fmt) (row : List XR) (r : Nat) (e : Int) : Nat × List (Nat × Tally) :=
  let vs := row.map (fun v => v.mul (.fin false (pow2 e)))
  let s := if dst = .E8 then widenScale vs else 0x3F00
  let sv := (decG16 s).val
  (s, ((List.range vs.length).zip vs).map (fun c =>
    let o := convert { d.outConv p x dst x.bRndBase (r * row.length + c.1) with scale := if dst = .E8 then sv else 1, intWrap := false } c.2
    (o.1, ⟨c.2, c.2, decode dst sv 0 o.1, o.2.ovf, false, false⟩)))

/-- Rows of a result written, with the E8 row scales at the record's SCALE address (R231). -/
def Dev.putScaledRow (d : Dev) (t : Tensor) (r : Nat) (scale : Nat) (codes : List Nat) : Dev :=
  let d := d.putRow t r 0 codes
  if t.fmt = .E8 ∧ t.scale ≠ 0 then d.fabricWrite (t.scale + 2 * r) (leBytes 2 scale) else d

/-! ## Gradient re-runs (R138–R141) -/

/-- Re-runs of a layer in the step, over its micro-batches (R140). -/
def TileSt.layerReruns (t : TileSt) (layer : Nat) : Nat :=
  t.retry.foldl (fun s e => if e.1 / 256 = layer then s + e.2 else s) 0

/-- The condition of R140 that a conversion meets: the new exponent, and whether it is an overflow condition. -/
def Dev.rerunG (d : Dev) (p : Nat) (x : Desc) (c : RecCnt) (inf : Bool) (g : Int) : Option (Int × Bool) :=
  let lt := d.ltab p x.layer
  let m := decW32 c.runMax
  let top : Int := 60 - (lt.h : Int)
  if c.elems = 0 ∨ !d.tracking p x.layer then none
  else if inf then some (clampI (-127) 127 (g - 8), true)
  else if lt.gsatMax ≠ 0xFFFF ∧ c.sat * 65536 > lt.gsatMax * c.elems then some (clampI (-127) 127 (g - (log2X m - top)), true)
  else if lt.zjump ≠ 0xFFFF ∧ !m.isZero ∧ c.zeros * 65536 > ((d.trk p x.layer).zbase + lt.zjump) * c.elems then
    some (clampI (-127) 127 (g - (log2X m - top)), false)
  else none

/-- A re-run is queued (R140): for every dX command of the group that has run, or for the BMM alone. -/
def Dev.queueRerun (d : Dev) (p : Nat) (i : Issued) (g : Int) : Dev :=
  let x := i.desc
  let t := d.tile p
  let key := 256 * x.layer + x.mb
  let n := tget 0 t.retry key + 1
  let members := if x.chkEn then
      (match t.groupOf i.n with
        | some gr => gr.cmds.filter (fun j => !t.issue.any (·.n == j.n))
        | none => [i])
    else [i]
  let t := { t with
    retry := tset 0 t.retry key n
    reruns := t.reruns.filter (fun r => !members.any (·.n == r.n)) ++ members.map (fun j => ⟨j.n, j.desc, g, j.recs⟩) }
  let t := if x.chkEn then t.modGroup i.n (fun gr => { gr with g := some g, done := [] }) else t
  let d := ((d.setTile p t).raise 0x5005).bump SIV_STEP_COUNTS.GRAD_RERUNS 1 p
  let d := d.verdict p x.bStat 0x80
  d.patchRec p x.bStat 57 (leBytes 1 (Nat.min n 255))

/-! ## BMM -/

def Dev.bmmReads (d : Dev) (p : Nat) (x : Desc) : List (Nat × Nat) :=
  let b := x.fBatch
  let r (o n : Nat) := ((d.tensor p (x.f o 3)).map (fun t => t.reads n)).getD []
  r 16 (if x.bTrans then b * x.bK else b * x.bM) ++ r 19 (if x.pass = 0 then b * x.bN else b * x.bK) ++
    (if x.f 25 3 % 0x10000 = noOp then [] else r 25 0) ++ r 28 (b * x.bM)

/-- Cycles of a BMM (R156, R168, R171) with its stalls: `fill0` zero-fill cycles of a first contribution, `rep` blocks walked
again. One that a hard failure ends after `lim` blocks counts its setup, its first load and the blocks it has walked (DESIGN
CHOICE, log 91). -/
def bmmCycles (x : Desc) (wide : Bool) (masked : Nat) (rep fill0 : Nat) (lim : Option Nat) : Acct :=
  let w := x.walk
  let pp := if wide then 256 else 128
  let rp := repeatStall (pp * rep)
  if w.empty then ⟨24, 0, []⟩
  else match lim with
  | some l => ⟨24 + 128 + pp * l + fill0, masked, rp⟩
  | none =>
    let prods (r : Nat) : Nat := if w.form = 1 then Nat.min 4 (w.batch - 4 * r) else 1
    let outBlocks : List (Nat × Nat) := (List.range w.rounds).flatMap (fun r => (List.range w.nb).flatMap (fun n =>
      (List.range w.mb).map (fun m => (Nat.min 128 (w.m - 128 * m), Nat.min w.outs (w.n - w.outs * n) * prods r))))
    let fill := if w.form = 0 then 384 else 256
    let rem := w.remainder * (pp / 128)
    let mk := masked
    if x.bSlotDest then
      if w.k = 0 then ⟨24 + fill0, 0, []⟩
      else
        let tb := outBlocks.foldl (fun s e => s + w.kb * Nat.max pp (cdiv (e.1 * e.2) 256)) 0
        ⟨24 + 128 + tb + fill + 12 + cdiv (w.lastM * w.lastN) 256 + fill0 - rem, mk, rp ++ if rem = 0 then [] else [(3, rem)]⟩
    else if w.k = 0 then ⟨24 + 40 + cdiv (w.lastM * w.lastN) 128, 0, []⟩
    else
      let tb := outBlocks.foldl (fun s e => s + Nat.max (pp * w.kb) (cdiv (e.1 * e.2) 128)) 0
      ⟨24 + 128 + tb + fill + 40 + cdiv (w.lastM * w.lastN) 128 - rem, mk, rp ++ if rem = 0 then [] else [(3, rem)]⟩

/-- The block sums of an output of a BMM into a slot, of the reduction blocks that passed (R153, R177). -/
def Dev.slotSums (d : Dev) (x : Desc) (tg tn : Tensor) (mask : Option Tensor) (hard : Option Nat) (row j : Nat) : List (Option Sum) :=
  let w := x.walk
  ((List.range w.kb).zip (d.bmmBlocks x tg tn mask (row / Nat.max w.m 1) (row % Nat.max w.m 1) j)).filterMap (fun e =>
    let blk := w.outBlock (row / Nat.max w.m 1) (row % Nat.max w.m 1) j * Nat.max w.kb 1 + e.1
    if hard.any (fun h => decide (h ≤ blk)) then none else some (blockSum e.2))

/-- A row of the result is live: every row in the dW phase, whose mask works on the reduction (R175). -/
def Dev.bmmLive (d : Dev) (x : Desc) (mask : Option Tensor) (row : Nat) : Bool := x.pass == 2 || d.live mask row

/-- What a BMM adds into element (row, j) of its slot: block sums of the reduction blocks that passed, then the corrections
(R164, R168, R177). -/
def Dev.bmmContribs (d : Dev) (p : Nat) (x : Desc) (tg tn : Tensor) (hard : Option Nat) (row j : Nat) : List Contrib :=
  let m := Nat.max x.walk.m 1
  let mask := d.tensor p (x.f 25 3)
  if !d.bmmLive x mask row then []
  else
    (d.slotSums x tg tn mask hard row j).filterMap (fun s => s.map (fun s => ⟨s.1.mul (d.gScale x tg (row / m) (row % m)), false⟩)) ++
      (if hard.isSome then [] else (d.bmmCorr x tg tn mask (row / m) (row % m) j).map (fun v => ⟨v, true⟩))

/-- A BMM into a gradient slot (R164, R168). One whose first block fails for good adds nothing, and the slot stays as it is
(R167, R177). -/
def Dev.bmmSlot (d : Dev) (p : Nat) (i : Issued) (tg tn : Tensor) (gIn : Int) (hard : Option Nat) : Dev :=
  let x := i.desc
  let w := x.walk
  let mask := d.tensor p (x.f 25 3)
  if hard = some 0 then d
  else
    let inf := (List.range (w.batch * w.m)).any (fun row => d.bmmLive x mask row && (List.range w.n).any (fun j =>
      (d.slotSums x tg tn mask hard row j).any (fun s => s.any (·.2))))
    (d.slotAdd p x.bSlot gIn x.mb (d.bmmContribs p x tg tn hard)).sumInf p inf

/-- The rows of a BMM into a tensor before the widening conversion (R159 steps 1–4): (row, values), with SUM_INF. -/
def Dev.bmmRows (d : Dev) (p : Nat) (x : Desc) (tg tn : Tensor) : List (Nat × List XR) × Bool :=
  let w := x.walk
  let mask := d.tensor p (x.f 25 3)
  let add := d.tensor p (x.f 28 3)
  let whisked := x.pass == 1 && tn.layout == 1 && (d.ltab p x.layer).whisk
  let rows := (List.range (w.batch * w.m)).filter (d.bmmLive x mask)
  let out := rows.map (fun row =>
    let b := row / Nat.max w.m 1
    let i := row % Nat.max w.m 1
    let sums := (List.range w.n).map (fun j => edgeSum (d.bmmBlocks x tg tn mask b i j))
    let vals := ((List.range w.n).zip sums).map (fun e =>
      (d.bmmCorr x tg tn mask b i e.1).foldl wadd (e.2.1.mul (d.gScale x tg b i)))
    let vals := if whisked then (d.unwhisk p (d.stepOf p) x.layer vals).take w.n else vals
    let vals := match add with
      | some t => ((List.range w.n).zip vals).map (fun e => wadd e.2 (d.elem t row e.1))
      | none => vals
    -- R171: without a reduction every output is exact +0
    ((row, if w.k = 0 then vals.map (fun _ => XR.zero) else vals), sums.any (·.2)))
  (out.map (·.1), out.any (·.2))

/-- The widening conversion of a BMM's rows with exponent g, its record, and the decision of R139–R141. `again` is set for
a re-run. -/
def Dev.bmmTensor (d : Dev) (p : Nat) (i : Issued) (tg tn td : Tensor) (gIn : Int) (ovr : Option Int) : Dev :=
  let x := i.desc
  let res := d.bmmRows p x tg tn
  let rows := res.1
  let inf := res.2
  let dx := x.pass == 1
  let gr := if x.chkEn then ((d.tile p).groupOf i.n).bind (·.g) else none
  let res := match ovr.or gr with
    | some g => if dx then (g, d) else (gIn, d)
    | none => if dx then d.takeG p x.layer else (gIn, d)
  let g := res.1
  let d := res.2
  let dst := (Fmt.ofCode x.bOut).getD .W32
  let outs := rows.map (fun e => (e.1, d.widenRow p x dst e.2 e.1 (g - gIn)))
  let d := outs.foldl (fun (d : Dev) e => d.putScaledRow td e.1 e.2.1 (e.2.2.map (·.1))) d
  let d := d.sumInf p inf
  let cnt := outs.foldl (fun (c : RecCnt) e => c.addRow (e.2.2.map (·.2))) {}
  let retry := tget 0 (d.tile p).retry (256 * x.layer + x.mb)
  let d := d.putRec p x.bStat (recBytes x (outDir x 3 true) (fmtByte x.bOut x.fRnd) (if dx && retry > 0 then 0x80 else 0) cnt 0 0 g
    (if dx then retry else 0))
  let done (d : Dev) : Dev := if dx ∧ x.chkEn then (d.finish p i).memberDone p i.n else d.finish p i
  if !dx then done d
  else
    match d.rerunG p x cnt inf g with
    | none => done (d.trackAfter p x.layer cnt g)
    | some (g', overflow) =>
      if g' ≠ g ∧ (d.tile p).layerReruns x.layer < 3 then d.queueRerun p i g'
      else if overflow then ((d.setFld SIV_STATUS.DIVERGED 1 p).withDivLayer x.layer).halt p 0x5006 x
      else done (d.trackAfter p x.layer cnt g)

/-- The end of a BMM's walk: its products kept, or a stop (R168, R171, R177). -/
def Dev.bmmEnd (d : Dev) (p : Nat) (i : Issued) (tg tn : Tensor) (gIn : Int) (ovr : Option Int) (hard : Option Nat) : Dev :=
  let x := i.desc
  let w := x.walk
  if x.bSlotDest then
    let d := if w.empty then d else d.bmmSlot p i tg tn gIn hard
    if hard.isSome then d.halt p 0x4002 x else if x.pass = 1 ∧ x.chkEn then (d.finish p i).memberDone p i.n else d.finish p i
  else if hard.isSome then d.halt p 0x4002 x
  else
    match d.tensor p (x.f 22 3) with
    | none => d
    | some td => d.bmmTensor p i tg tn td gIn ovr

/-- Masked row-cycles of a BMM that walks `lim` blocks or all: each masked row in each block entered; in the dW phase each
masked reduction position in each block that holds it (R90, R175). -/
def Dev.bmmMasked (d : Dev) (p : Nat) (x : Desc) (lim : Option Nat) : Nat :=
  let w := x.walk
  let mask := d.tensor p (x.f 25 3)
  let dead (n : Nat) := (List.range n).filter (fun r => !d.live mask r)
  if w.empty ∨ w.k = 0 then 0
  else if x.pass = 2 then
    (dead (w.batch * w.k)).foldl (fun s r =>
      let b := r / w.k
      let kb := r % w.k / w.red
      s + (match lim with
        | none => w.nb * w.mb
        | some l => ((List.range w.nb).flatMap (fun n => (List.range w.mb).map (fun m => w.outBlock b (m * w.rows) (n * w.outs)))).countP
            (fun o => decide (o * w.kb + kb < l)))) 0
  else (dead (w.batch * w.m)).foldl (fun s r => s + w.entered lim (r / w.m) (r % w.m)) 0

/-- The walk of a BMM whose operands have been read: its work items, its products, its end (R156, R163, R164). -/
def Dev.bmmWalk (d : Dev) (p : Nat) (faults : List ArrayFault) (i : Issued) (tg tn : Tensor) (gIn : Int) (ovr : Option Int) : Dev :=
  let x := i.desc
  let w := x.walk
  let work := if ovr.isSome then 3 else 0
  let mask := d.tensor p (x.f 25 3)
  let wide := tn.fmt == .G16
  let d := d.bWork p work w.form wide
  -- a repetition is of one block into a slot, of an output block into a tensor (R177)
  let unit := if x.bSlotDest then 1 else w.kb
  let res := d.arrayFaults p bRegs x unit w.blocks (if w.empty then [] else faults)
  let hard := res.2
  let lim := hard.map (· + 1)
  let fill0 := if x.bSlotDest ∧ !w.empty ∧ hard ≠ some 0 then d.zeroFill p x.bSlot (d.bmmContribs p x tg tn hard) else 0
  let acct := bmmCycles x wide (d.bmmMasked p x lim) (repeated unit w.blocks faults) fill0 lim
  let d := res.1.item p 1 x work acct
  let dc := d.bmmDripCycles x tn mask
  let d := if dc = 0 ∨ hard.isSome then d else d.item p 3 x 4 ⟨dc, 0, []⟩
  d.bmmEnd p i tg tn gIn ovr hard

/-- A BMM's work, first run or re-run (R140): `over` is the re-run's exponent. -/
def Dev.bmmRun (d : Dev) (p : Nat) (faults : List ArrayFault) (rd : ReadOutcome) (i : Issued) (ovr : Option Int) : Dev :=
  let x := i.desc
  let w := x.walk
  match d.tensor p (x.f 16 3), d.tensor p (x.f 19 3) with
  | some tg, some tn =>
    let misuse := if x.bSlotDest ∧ !w.empty then d.addMisuse p x.bSlot else none
    match firstOf [misuse, if (d.gIn p x.bGRec).isNone then some (stopAt 0x200A (unit64 p x.bGRec)) else none, d.readErrors (d.bmmReads p x)] with
    | some code => d.readHalt p code x
    | none =>
      let gIn := (d.gIn p x.bGRec).getD 0
      let res := if x.bSlotDest ∧ !w.empty then d.slotRead p x.bSlot rd else (d, none)
      let acb := res.2
      let d := res.1
      match acb with
      | some code => d.readHalt p code x
      | none =>
        d.bmmWalk p faults i tg tn gIn ovr
  | _, _ => d

def execBmm (p : Tile) (faults : List ArrayFault) (rd : ReadOutcome) (s : State) : Host.Outcome State Fault Refusal :=
  run (fun d => (d.runUnit p 1 (fun x => x.opcode == 0x20) (fun i d => d.bmmRun p faults rd i none)).liftHold p) s

/-- GRADIENT_RERUN (R140, R174): the oldest queued re-run, behind fallbacks and shadow tiles. -/
def Dev.rerun (d : Dev) (p : Nat) (faults : List ArrayFault) : Dev :=
  let t := d.tile p
  if !t.fbs.isEmpty ∨ t.nextShadow.isSome then d
  else match t.reruns with
    | [] => d
    | r :: rest => ((d.setTile p { t with reruns := rest, recs := r.recs }).bmmRun p faults .clean ⟨r.n, r.desc, [], r.recs⟩ (some r.g)).sync p

def execGradientRerun (p : Tile) (faults : List ArrayFault) (s : State) : Host.Outcome State Fault Refusal :=
  run (fun d => (d.rerun p faults).liftHold p) s

/-! ## CHECK_GROUP_EVALUATION (R130–R132, R137) -/

/-- A share test (R122, R130): a threshold of 0xFFFF disables it, a record without elements passes. -/
def shareFails (count max elems : Nat) : Bool := max != 0xFFFF && decide (count * 65536 > max * elems)

/-- The bits of VERDICT that a group's records fail (R130). -/
def Dev.groupTests (d : Dev) (p : Nat) (g : Group) : Nat :=
  let lt := d.ltab p g.layer
  let cr := match g.cvt with | some c => d.recAt p c.desc.cStat | none => []
  let n := fieldAt cr 8 6
  let fr := g.cmds.map (fun i => d.recAt p i.desc.fStat)
  let satBad (r : List Byte) := shareFails (fieldAt r 20 6) lt.satMax (fieldAt r 8 6)
  let mse := n ≠ 0 && (rw ((decG16 lt.mseMax).mul (decW32 (fieldAt cr 44 4)))).lt (decW32 (fieldAt cr 48 4))
  (if g.shadowFail then 1 else 0) + (if shareFails (fieldAt cr 36 4) lt.dripOvfMax n then 2 else 0) +
    (if satBad cr || fr.any satBad then 4 else 0) + (if shareFails (fieldAt cr 14 6) lt.zeroMax n then 8 else 0) +
    (if mse then 16 else 0)

/-- A forward group is ready for its evaluation: its CVT has run, every FMM is written and every checked tile compared. -/
def TileSt.evaluable (t : TileSt) (g : Group) : Bool :=
  g.fwd && g.closed && !g.evaluated && !g.dead && g.shadow.isEmpty && g.cmds.all (fun i => g.done.contains i.n) &&
    g.cvt.all (fun c => !t.issue.any (·.n == c.n)) && !(g.pinned && g.cmds.any (fun i => t.fbs.contains i.n))

def Dev.groupVerdict (d : Dev) (p : Nat) (g : Group) (bits : Nat) : Dev :=
  let d := match g.cvt with | some c => d.verdict p c.desc.cStat bits | none => d
  g.cmds.foldl (fun d i => d.verdict p i.desc.fStat bits) d

/-- The group evaluated next: of those that are ready, the one of the least layer, then the least micro-batch (R134). -/
def TileSt.nextGroup (t : TileSt) : Option Group :=
  (t.groups.filter t.evaluable).foldl (fun (a : Option Group) g => match a with
    | none => some g
    | some h => if g.layer < h.layer ∨ (g.layer = h.layer ∧ g.mb < h.mb) then some g else some h) none

def Dev.evaluateGroup (d : Dev) (p : Nat) : Dev :=
  let t := d.tile p
  match t.nextGroup with
  | none => d
  | some g =>
    let n := (g.cmds.headD { n := 0, desc := 0 }).n
    let close (d : Dev) (fell : Bool) : Dev :=
      d.modTile p (fun t => t.modGroup n (fun g => { g with evaluated := true, fellBack := fell }))
    if g.pinned then close (d.groupVerdict p g 0x40) true
    else
      let bits := d.groupTests p g
      let fb := (d.ltab p g.layer).fbEn && d.flag SIV_CTRL.FB_EN p
      let d := d.bump SIV_STEP_COUNTS.CHECKED 1 p
      if bits = 0 then close d false
      else if fb then
        let d := (d.raise 0x5001).bump SIV_STEP_COUNTS.FELL_BACK 1 p
        let d := close (d.groupVerdict p g (bits + 0x20)) true
        (d.modTile p (fun t => { t with fbs := t.fbs ++ g.cmds.map (·.n) })).sync p
      else close ((d.raise 0x5007).groupVerdict p g bits) false

def execCheckGroupEvaluation (p : Tile) (s : State) : Host.Outcome State Fault Refusal :=
  run (fun d => d.evaluateGroup p) s

/-! ## CHECK_SEMAPHORE_SIGNAL (R129, R241, R243) -/

/-- A group may signal: evaluated with its fallbacks done, or a closed dX group whose final run stands. -/
def TileSt.signallable (t : TileSt) (g : Group) : Bool :=
  let mine (n : Nat) := g.cmds.any (·.n == n)
  if g.fwd then g.evaluated && !g.dead && !t.fbs.any mine
  else g.closed && g.cmds.all (fun i => g.done.contains i.n) && !t.reruns.any (fun r => mine r.n)

/-- The first group that may signal with no earlier group of its key before it. -/
def TileSt.nextSignal (t : TileSt) : Option (Nat × Group) :=
  let idx := (List.range t.groups.length).zip t.groups
  idx.find? (fun e => t.signallable e.2 && !idx.any (fun f => decide (f.1 < e.1) &&
    f.2.layer == e.2.layer && f.2.mb == e.2.mb && f.2.sem == e.2.sem))

def Dev.signalGroup (d : Dev) (p : Nat) : Dev :=
  let t := d.tile p
  match t.nextSignal with
  | none => d
  | some (k, g) =>
    let frozen := g.cmds.filter (fun i => g.fwd && i.desc.f 54 3 % 0x10000 == noOp)
    let d := d.setTile p { t with groups := t.groups.eraseIdx k, confirmed := t.confirmed ++ frozen }
    let d := d.semAdd p g.sem 1 (g.cmds.headD { n := 0, desc := 0 }).desc
    let d := if g.fwd then d else g.cmds.foldl (fun d i => if i.desc.sigEn then d.semAdd p i.desc.sigSem 1 i.desc else d) d
    (d.liftHold p).sync p

def execCheckSemaphoreSignal (p : Tile) (s : State) : Host.Outcome State Fault Refusal :=
  run (fun d => d.signalGroup p) s

/-! ## ADAPTER_ADDITION (R172) -/

/-- The adapter output Y_a added on the VU into the output of an FMM whose check semaphore has been signalled: exact sums,
each rounded once into the output's format. The FMM is the confirmed one that wrote the tensor of OPREF `y`. An I32 output
takes Y_a ÷ p_ij under the FMM's own rounding field and ACC_WRAP (R581). -/
def Dev.adapterAdd (d : Dev) (p y ya rnd : Nat) (nsat : Bool) : Dev :=
  let t := d.tile p
  match t.confirmed.find? (fun i => i.desc.f 22 3 == y), d.tensor p ya with
  | some i, some ta =>
    let d := d.workAs p i.recs
    match d.tensor p y with
    | none => d.sync p
    | some ty =>
      let x := i.desc
      let mask := d.tensor p (x.f 25 3)
      let rm := (Rnd.ofCode rnd).getD .rne
      let rows := (List.range (x.fBatch * x.fM)).filter (fun r => d.live mask r)
      let d0 := d
      let d := rows.foldl (fun (d : Dev) r => d.putRow ty r 0 ((List.range x.fN).map (fun c =>
        if ty.fmt = .I32 then
          (convert (d0.outConv p x .I32 x.fRndBase (r * x.fN + c)) ((d0.elem ty r c).add (wdiv (d0.elem ta r c) (d0.pij p x r c)))).1
        else
          (convert { dst := ty.fmt, rnd := rm, intWrap := false, fltNsat := nsat, rand := d0.srBits p x.layer rm (x.fRndBase + r * x.fN + c) }
            ((d0.elem ty r c).add (d0.elem ta r c))).1))) d
      let d := d.item p 3 x 4 ⟨cdiv (x.fBatch * x.fM * x.fN) 256, 0, []⟩
      (d.modTile p (fun t => { t with confirmed := t.confirmed.filter (fun j => j.n ≠ i.n) })).sync p
  | _, _ => d

def execAdapterAddition (p : Tile) (y ya : BitVec 24) (rnd : BitVec 2) (fltNsat : Bool) (s : State) :
    Host.Outcome State Fault Refusal :=
  run (fun d => d.adapterAdd p y.toNat ya.toNat rnd.toNat fltNsat) s

end Sys2Proof.Machine
end

