-- ==== Sys2Proof/Machine/Crypto.lean ====
section
/-! DEFINITION. SHA-256, HMAC, and ECDSA over P-256 with the deterministic nonces of RFC 6979 (R525), over byte strings and
natural numbers. -/

namespace Sys2Proof.Machine

/-! ## SHA-256 -/

/-- The 64 round constants of SHA-256. -/
def shaK : List Nat :=
  [0x428a2f98, 0x71374491, 0xb5c0fbcf, 0xe9b5dba5, 0x3956c25b, 0x59f111f1, 0x923f82a4, 0xab1c5ed5] ++
  [0xd807aa98, 0x12835b01, 0x243185be, 0x550c7dc3, 0x72be5d74, 0x80deb1fe, 0x9bdc06a7, 0xc19bf174] ++
  [0xe49b69c1, 0xefbe4786, 0x0fc19dc6, 0x240ca1cc, 0x2de92c6f, 0x4a7484aa, 0x5cb0a9dc, 0x76f988da] ++
  [0x983e5152, 0xa831c66d, 0xb00327c8, 0xbf597fc7, 0xc6e00bf3, 0xd5a79147, 0x06ca6351, 0x14292967] ++
  [0x27b70a85, 0x2e1b2138, 0x4d2c6dfc, 0x53380d13, 0x650a7354, 0x766a0abb, 0x81c2c92e, 0x92722c85] ++
  [0xa2bfe8a1, 0xa81a664b, 0xc24b8b70, 0xc76c51a3, 0xd192e819, 0xd6990624, 0xf40e3585, 0x106aa070] ++
  [0x19a4c116, 0x1e376c08, 0x2748774c, 0x34b0bcb5, 0x391c0cb3, 0x4ed8aa4a, 0x5b9cca4f, 0x682e6ff3] ++
  [0x748f82ee, 0x78a5636f, 0x84c87814, 0x8cc70208, 0x90befffa, 0xa4506ceb, 0xbef9a3f7, 0xc67178f2]

/-- Its initial state. -/
def shaInit : List Nat :=
  [0x6a09e667, 0xbb67ae85, 0x3c6ef372, 0xa54ff53a, 0x510e527f, 0x9b05688c, 0x1f83d9ab, 0x5be0cd19]

def rotr32 (x k : Nat) : Nat := (x >>> k) ||| (x <<< (32 - k) % 2 ^ 32)
def add32 (l : List Nat) : Nat := l.foldl (· + ·) 0 % 2 ^ 32

/-- A big-endian byte string as a number, and the n bytes of a number, most significant first. -/
def beNat (bs : List Byte) : Nat := leNat bs.reverse
def beBytes (n v : Nat) : List Byte := (leBytes n v).reverse

/-- The 64 message words of a block, newest first. -/
def shaWords : Nat → List Nat → List Nat
  | 0, w => w
  | n + 1, w =>
    let a := w.getD 14 0
    let b := w.getD 1 0
    let s0 := rotr32 a 7 ^^^ rotr32 a 18 ^^^ (a >>> 3)
    let s1 := rotr32 b 17 ^^^ rotr32 b 19 ^^^ (b >>> 10)
    shaWords n (add32 [w.getD 15 0, s0, w.getD 6 0, s1] :: w)

/-- One round. -/
def shaRound (h : List Nat) (kw : Nat × Nat) : List Nat :=
  match h with
  | [a, b, c, d, e, f, g, x] =>
    let s1 := rotr32 e 6 ^^^ rotr32 e 11 ^^^ rotr32 e 25
    let ch := (e &&& f) ^^^ ((0xFFFFFFFF - e) &&& g)
    let t1 := add32 [x, s1, ch, kw.1, kw.2]
    let s0 := rotr32 a 2 ^^^ rotr32 a 13 ^^^ rotr32 a 22
    let maj := (a &&& b) ^^^ (a &&& c) ^^^ (b &&& c)
    [add32 [t1, s0, maj], a, b, c, add32 [d, t1], e, f, g]
  | _ => h

/-- One block of 64 bytes. -/
def shaBlock (h : List Nat) (blk : List Byte) : List Nat :=
  let w16 := ((List.range 16).map (fun i => beNat (slice blk (4 * i) 4))).reverse
  let w := (shaWords 48 w16).reverse
  List.zipWith (fun a b => add32 [a, b]) h ((shaK.zip w).foldl shaRound h)

def shaBlocks : Nat → List Nat → List Byte → List Nat
  | 0, h, _ => h
  | n + 1, h, bs => shaBlocks n (shaBlock h (bs.take 64)) (bs.drop 64)

/-- SHA-256 of a byte string: 32 bytes. -/
def sha256 (m : List Byte) : List Byte :=
  let pad := [(0x80 : Byte)] ++ List.replicate ((119 - m.length % 64) % 64) 0 ++ beBytes 8 (8 * m.length)
  let bs := m ++ pad
  (shaBlocks (bs.length / 64) shaInit bs).flatMap (beBytes 4)

/-- HMAC with SHA-256, for keys of at most 64 bytes. -/
def hmac (k m : List Byte) : List Byte :=
  let k := padTo 64 k
  sha256 (k.map (· ^^^ 0x5c) ++ sha256 (k.map (· ^^^ 0x36) ++ m))

/-! ## P-256 -/

/-- The field prime, the group order, the curve coefficients a = p − 3 and b, and the base point. -/
def p256 : Nat := 0xffffffff00000001000000000000000000000000ffffffffffffffffffffffff
def n256 : Nat := 0xffffffff00000000ffffffffffffffffbce6faada7179e84f3b9cac2fc632551
def b256 : Nat := 0x5ac635d8aa3a93e7b3ebbd55769886bc651d06b0cc53b0f63bce3c3e27d2604b
def g256 : Nat × Nat :=
  (0x6b17d1f2e12c4247f8bce6e563a440f277037d812deb33a0f4a13945d898c296,
   0x4fe342e2fe1a7f9b8ee7eb4a7c0f9e162bce33576b315ececbb6406837bf51f5)

/-- x to the power e modulo m, `k` bits of e. -/
def powMod (m : Nat) : Nat → Nat → Nat → Nat
  | 0, _, _ => 1 % m
  | k + 1, x, e => (if e % 2 = 1 then x else 1) * powMod m k (x * x % m) (e / 2) % m
/-- The inverse modulo a prime, by Fermat. -/
def invMod (m x : Nat) : Nat := powMod m 256 (x % m) (m - 2)
def subMod (m a b : Nat) : Nat := (a + m - b % m) % m

/-- A point in Jacobian coordinates; Z = 0 is the point at infinity. -/
structure Jac where
  x : Nat
  y : Nat
  z : Nat
  deriving DecidableEq, Repr

def Jac.dbl (q : Jac) : Jac :=
  let p := p256
  let zz := q.z * q.z % p
  let yy := q.y * q.y % p
  let s := 4 * q.x * yy % p
  let m := 3 * (subMod p q.x zz) * (q.x + zz) % p
  let x := subMod p (m * m) (2 * s)
  ⟨x, subMod p (m * subMod p s x) (8 * yy * yy), 2 * q.y * q.z % p⟩

def Jac.add (a b : Jac) : Jac :=
  let p := p256
  if a.z = 0 then b else if b.z = 0 then a
  else
    let za := a.z * a.z % p
    let zb := b.z * b.z % p
    let u1 := a.x * zb % p
    let u2 := b.x * za % p
    let s1 := a.y * zb % p * b.z % p
    let s2 := b.y * za % p * a.z % p
    let h := subMod p u2 u1
    let r := subMod p s2 s1
    if h = 0 then (if r = 0 then a.dbl else ⟨1, 1, 0⟩)
    else
      let hh := h * h % p
      let hhh := hh * h % p
      let v := u1 * hh % p
      let x := subMod p (subMod p (r * r) hhh) (2 * v)
      ⟨x, subMod p (r * subMod p v x) (s1 * hhh), h * a.z % p * b.z % p⟩

/-- k times a point, `n` bits of k, least significant first. -/
def Jac.mul : Nat → Nat → Jac → Jac
  | 0, _, _ => ⟨1, 1, 0⟩
  | n + 1, k, q => let r := Jac.mul n (k / 2) q.dbl; if k % 2 = 1 then q.add r else r

/-- The affine coordinates of a point that is not at infinity. -/
def Jac.affine (q : Jac) : Nat × Nat :=
  let i := invMod p256 q.z
  let ii := i * i % p256
  (q.x * ii % p256, q.y * ii % p256 * i % p256)

/-- The public key of a private scalar. -/
def publicKey (k : Nat) : Nat × Nat := (Jac.mul 256 k ⟨g256.1, g256.2, 1⟩).affine

/-- A point lies on the curve. -/
def onCurve (q : Nat × Nat) : Bool :=
  decide (q.1 < p256) && decide (q.2 < p256) &&
    q.2 * q.2 % p256 == (q.1 * q.1 * q.1 + (p256 - 3) * q.1 + b256) % p256

/-- A 64 B public key, X then Y (R522). -/
def keyOf (bs : List Byte) : Nat × Nat := (beNat (bs.take 32), beNat ((bs.drop 32).take 32))
def keyBytes (q : Nat × Nat) : List Byte := beBytes 32 q.1 ++ beBytes 32 q.2

/-- A 64 B signature, r then s, verifies over SHA-256 of a message; either value of s is accepted (R525). -/
def ecdsaVerify (key : Nat × Nat) (msg sig : List Byte) : Bool :=
  let r := beNat (sig.take 32)
  let s := beNat ((sig.drop 32).take 32)
  if sig.length ≠ 64 ∨ r = 0 ∨ r ≥ n256 ∨ s = 0 ∨ s ≥ n256 ∨ !onCurve key then false
  else
    let z := beNat (sha256 msg)
    let w := invMod n256 s
    let q := (Jac.mul 256 (z * w % n256) ⟨g256.1, g256.2, 1⟩).add (Jac.mul 256 (r * w % n256) ⟨key.1, key.2, 1⟩)
    if q.z = 0 then false else q.affine.1 % n256 == r

/-- The nonce candidates of RFC 6979: K and V as they stand, tried until one lies in 1 … n − 1. -/
def nonceLoop : Nat → List Byte → List Byte → Nat
  | 0, _, v => beNat v
  | n + 1, k, v =>
    let v := hmac k v
    let c := beNat v
    if 0 < c ∧ c < n256 then c
    else
      let k := hmac k (v ++ [0])
      nonceLoop n k (hmac k v)

/-- The nonce for a private scalar and a message hash (RFC 6979, R525). -/
def nonce (x : Nat) (h : List Byte) : Nat :=
  let xh := beBytes 32 x ++ beBytes 32 (beNat h % n256)
  let v := List.replicate 32 (1 : Byte)
  let k := hmac (List.replicate 32 0) (v ++ [0] ++ xh)
  let v := hmac k v
  let k := hmac k (v ++ [1] ++ xh)
  nonceLoop 8 k (hmac k v)

/-- The 64 B signature of a message by a private scalar (R525). -/
def ecdsaSign (x : Nat) (msg : List Byte) : List Byte :=
  let h := sha256 msg
  let k := nonce x h
  let r := (publicKey k).1 % n256
  let s := invMod n256 k * ((beNat h + r * x) % n256) % n256
  beBytes 32 r ++ beBytes 32 s

end Sys2Proof.Machine
end

