-- ==== Sys2Proof/Machine/Address.lean ====
section
/-! DEFINITION. What answers at an address outside DRAM, larders, accumulator buffers and queues: the registers of the windows and
blocks (R273, R275, R276), the counter regions (R482–R485) and the trace RAMs (R486). An offset that none of them takes is
reserved (R272). -/

namespace Sys2Proof.Machine

/-! ## Counters as they read (R482–R484) -/

/-- The 256 B of a block in a bank (R483); the cumulative bank has IDLE, the others ID and SEQ_STEP. -/
def cntBlock (c : ItemCnt) (idle : Nat) (cumulative : Bool) : List Byte :=
  let total := c.stall.foldl (fun n e => n + e.2) 0
  [c.busy, total % 2 ^ 48, idle, c.masked, (if cumulative then 0 else c.ident), (if cumulative then 0 else c.seqStep)].flatMap (leBytes 8) ++
    List.replicate 0x50 0 ++ (List.range 16).flatMap (fun r => leBytes 8 (if 1 ≤ r ∧ r ≤ 12 then tget 0 c.stall r else 0))

def Dev.block (d : Dev) (p b : Nat) : BlockCnt := tget {} (d.tile p).blocks b

/-- Block b of a bank of tile p: 0 cumulative, 1 current, 2 last (R482). -/
def Dev.cntOf (d : Dev) (p k b : Nat) : List Byte :=
  let x := d.block p b
  match k with
  | 0 => cntBlock x.cum x.idle true
  | 1 => cntBlock x.cur 0 false
  | _ => cntBlock x.last 0 false

/-- One bank of tile p. -/
def Dev.cntBank (d : Dev) (p k : Nat) : List Byte := (List.range 6).flatMap (d.cntOf p k)

/-- The entry of a layer in the per-layer table of tile p (R484). -/
def Dev.cntLayer (d : Dev) (p l : Nat) : List Byte :=
  (List.range 15).flatMap (fun i => leBytes 8 (tget 0 (tget [] (d.tile p).layers l) i)) ++ leBytes 8 0

/-- The per-layer table of tile p (R484). -/
def Dev.cntLayers (d : Dev) (p : Nat) : List Byte := (List.range 1024).flatMap (d.cntLayer p)

/-- The counter region of an engine die, but for CNT_ARITH and CNT_FABRIC: the u64 at a region offset (R482). -/
def Dev.counterAt (d : Dev) (x o : Nat) : Option Nat :=
  let p := 5 * x + o / 0x80000
  let r := o % 0x80000
  if o ≥ 0x280000 then none
  else if r < 0x3000 then
    if r % 0x1000 / 0x100 < 6 then some (fieldAt (d.cntOf p (r / 0x1000) (r % 0x1000 / 0x100)) (r % 0x100) 8) else none
  else if 0x20000 ≤ r ∧ r < 0x40000 then some (fieldAt (d.cntLayer p ((r - 0x20000) / 128)) (r % 128) 8)
  else none

/-- The offsets of a base die's counters (R485). -/
def baseCounter (o : Nat) : Bool :=
  o < 0x20 || (0x100 ≤ o && o < 0x150) || (0x200 ≤ o && o < 0x218)

/-- The u64 of a trace RAM at an offset: the record with number RSEQ stands at place RSEQ mod 131,072, and a place without a
record reads 0 (R486, R487; DESIGN CHOICE, log 104). -/
def Dev.traceAt (d : Dev) (x o : Nat) : Nat :=
  match (tget {} d.traces x).recs.find? (fun r => r.toNat / 2 ^ 48 % 131072 == o / 32) with
  | some r => r.toNat / 2 ^ (8 * (o % 32)) % 2 ^ 64
  | none => 0

/-! ## Registers by address (R273, R275, R276) -/

/-- Every register name, in the order of the tables. -/
def allRegs : List RegName := (List.range (RegName.CNT_BASE_CLEAR.ctorIdx + 1)).map RegName.ofNat

/-- The register at an offset of a unit's window. -/
def regIn (w : Window) (inst off : Nat) : Option RegId :=
  (allRegs.find? (fun n =>
    let pl := n.place
    pl.1 == w && decide (pl.2.1 ≤ off) &&
      (if pl.2.2.1 = 0 then off == pl.2.1 else (off - pl.2.1) % pl.2.2.1 == 0 && decide ((off - pl.2.1) / pl.2.2.1 < pl.2.2.2)))).bind
    (fun n =>
      let pl := n.place
      let r : RegId := ⟨n, inst, if pl.2.2.1 = 0 then 0 else (off - pl.2.1) / pl.2.2.1⟩
      if r.exists then some r else none)

/-- The register at a place of the map: the check-value units lie in the engine window at 0x0F00, in base die block 0x30_0000 +
0x1000·i and in the service block at 0x1300 and 0x1340 (R275, R516). -/
def regAt : Region → Option RegId
  | .engRegs p o => if 0xF00 ≤ o ∧ o < 0xF20 then regIn .cvu p (o - 0xF00) else regIn .engine p o
  | .dieRegs x o => regIn .die x o
  | .baseRegs s o =>
    let i := (o - 0x300000) / 0x1000
    if 0x300000 ≤ o ∧ o < 0x400000 then
      (if i < 2 ∨ (i = 2 ∧ (s = 4 ∨ s = 11)) then regIn .cvu (cvuBase s i) (o % 0x1000) else none)
    else regIn .base s o
  | .service o =>
    if 0x1300 ≤ o ∧ o < 0x1320 then regIn .cvu (cvuSvc 0) (o - 0x1300)
    else if 0x1340 ≤ o ∧ o < 0x1360 then regIn .cvu (cvuSvc 1) (o - 0x1340)
    else regIn .service 0 o
  | _ => none

/-- What a read of a window or block returns at an offset, none at a reserved one (R272). -/
def Dev.answerAt (d : Dev) (g : Region) : Option Nat :=
  match regAt g with
  | some r => some (d.readReg r)
  | none =>
    match g with
    | .dieRegs x o => if 0x400000 ≤ o ∧ o < 0x800000 then some (d.traceAt x (o - 0x400000)) else d.counterAt x o
    | .baseRegs s o =>
      if 0x500000 ≤ o ∧ o < 0x501000 ∧ baseCounter (o - 0x500000) ∧ o % 8 = 0 then some (tget 0 d.baseCnt (512 * s + (o - 0x500000) / 8)) else none
    | _ => none

end Sys2Proof.Machine
end

