-- ==== Sys2Proof/Machine/Tender.lean ====
section
/-! DEFINITION. The state map and the tender stream (R406–R409). -/

namespace Sys2Proof.Machine

/-- The ranges of buffer b of the state map. -/
def Dev.stateRanges (d : Dev) (b : Nat) : List (Nat × Nat) := d.stateMap.map (fun r => (regBuf r b, regSize r))
/-- The bytes of buffer b of the state map, concatenated. -/
def Dev.stateOf (d : Dev) (b : Nat) : List Byte := d.stateMap.flatMap (fun r => d.bytes (regBuf r b) (regSize r))
/-- The program image: every byte of the PROGRAM regions (R406). -/
def Dev.programImage (d : Dev) : List Byte := d.programRegions.flatMap (fun r => d.bytes r.base (regSize r))

/-- Bytes laid into regions one after another. -/
def Dev.fillRegions (d : Dev) (b : Nat) : List RegionEnt → List Byte → Dev
  | [], _ => d
  | r :: rs, bs => Dev.fillRegions (d.write (regBuf r b) (bs.take (regSize r))) b rs (bs.drop (regSize r))
/-- The state map's buffer b written from a byte string. -/
def Dev.putState (d : Dev) (b : Nat) (bs : List Byte) : Dev := d.fillRegions b d.stateMap bs
def Dev.putProgram (d : Dev) (bs : List Byte) : Dev := d.fillRegions 0 d.programRegions bs

/-- An address of the old tile's window at the same offset of the new tile's (R274). -/
def moveAddr (old new a : Nat) : Nat :=
  if tileBase old ≤ a ∧ a < tileBase old + 0x4000000 then a - tileBase old + tileBase new else a

/-- BASE, SCALE and DRIP of every tensor record that points into the old tile's window (R231, R274). -/
def Dev.moveTables (d : Dev) (m : Nat × Nat) : Dev :=
  d.activeTiles.foldl (fun d p =>
    (List.range (d.fld ENG_TTAB.ENTRIES p)).foldl (fun d i =>
      [0, 20, 26].foldl (fun (d : Dev) o =>
        let a := d.ttab p + 32 * i + o
        let v := d.nat a 6
        let v' := moveAddr m.1 m.2 v
        if v' = v then d else d.write a (leBytes 6 v')) d) d) d

/-- The PROGRAM regions reloaded from the program copy (R286, R411), with the window fields of replaced tiles rewritten. -/
def Dev.reloadProgram (d : Dev) : Dev := d.pod.moves.foldl Dev.moveTables (d.putProgram d.programCopy)

def Dev.partner (d : Dev) : Nat := d.fld SVC_TENDER_CFG.PARTNER
def Dev.ward (d : Dev) : Nat := d.fld SVC_TENDER_CFG.WARD

/-- A byte string cut into pieces of at most n bytes, with their offsets. -/
def cutBytes (n : Nat) (bs : List Byte) : List (Nat × List Byte) :=
  (List.range ((bs.length + n - 1) / n)).map (fun i => (n * i, (bs.drop (n * i)).take n))

/-- One DATA packet of engine l's tender stream: bytes as carried bits at a tender offset (R348, R409). WIRE_FMT and
DELIVER_FMT name I8 and TOTAL is 0: the manual gives a tender packet neither. SG tells the partner where the bytes belong:
0 the tender buffer other than TBUF, 1 TBUF, 2 the ward program copy, 3 a foreign generation, 4 and 5 the receiver's own state and
program, 6 the buffer of the committed step that TOTAL names (DESIGN CHOICE, log 30). -/
def Dev.tenderPacket (d : Dev) (l dst kind : Nat) (last : Bool) (off : Nat) (bs : List Byte) : Dev :=
  let t := tget {} d.tenderTx l
  let pk : Packet :=
    { ptype := 1, vc := 0, pflags := if last then 1 else 0, src := BitVec.ofNat 12 d.rank, dst := BitVec.ofNat 12 dst
      group := 0, alive := 0, epoch := BitVec.ofNat 16 d.podEpoch, tag := 0xFFFF, dstL := BitVec.ofNat 6 l, fmts := 0x33
      sg := BitVec.ofNat 8 kind, hop := 0, pseq := BitVec.ofNat 32 t.nextPseq, offset := BitVec.ofNat 48 off
      nelem := BitVec.ofNat 16 bs.length, total := if kind = 6 then BitVec.ofNat 32 d.committed else 0, payload := bs, crc := 0 }
  let d := d.withTenderTx (tset {} d.tenderTx l { t with nextPseq := t.nextPseq + 1, unacked := t.unacked ++ [pk] })
  d.sendPacket (d.tileOf l / 5) pk

def Dev.tenderSend (d : Dev) (l dst kind off : Nat) (bs : List Byte) : Dev :=
  (cutBytes 4096 bs).foldl (fun d e => d.tenderPacket l dst kind false (off + e.1) e.2) d

/-- Source ranges that a coupler streams: with a failed unit among them, nothing of them is sent, and the port reports it (R284,
R377). -/
def Dev.coupled (d : Dev) (rs : List (Nat × Nat)) (send : Dev → Dev) : Dev :=
  let res := d.sourceReads 3 rs
  if res.2 then send res.1 else res.1.raise 0xB00B

/-- Bytes of the next buffer sent to the partner as they were written (R202, R409). -/
def Dev.tenderRange (d : Dev) (p a n : Nat) : Dev :=
  if !d.hasTender then d
  else match mapOffset (1 - d.fld ENG_STEP_CTX.CBUF p) d.stateMap 0 a with
    | some off => d.coupled [(a, n)] (fun d => d.tenderSend ((d.engOf p).getD 0) d.partner 0 off (d.bytes a n))
    | none => d

end Sys2Proof.Machine
end

