-- ==== Sys2Proof/Machine/Memory.lean ====
section
/-! DEFINITION. The commands of the memory controllers, the larders and the accumulator buffer's window (R272, R280–R297). -/

namespace Sys2Proof.Machine

/-- A counter of base die s advanced: 48 bits, wrapping (R480, R485). -/
def Dev.countBase (d : Dev) (s off k : Nat) : Dev :=
  let i := 512 * s + off / 8
  (d.withBaseCnt (tset 0 d.baseCnt i (wrap48 (tget 0 d.baseCnt i + k))))

/-- What a read command returns to its requester. -/
def Dev.reply (d : Dev) (bs : List Byte) (bad : Bool) : Dev := (d.withAnswer bs).withAnswerBad bad

/-- The queue of the requesting engine halts on a failed access; other requesters end their transfers themselves (R272, R284). -/
def Dev.haltSource (d : Dev) (src : MemSrc) (code : Nat) : Dev :=
  match src with
  | .engine p => d.halt p code
  | _ => d.raise code

/-- An access to an address that no unit decodes: zeros, an error response, MEM_UNMAPPED (R272). -/
def Dev.unmappedAccess (d : Dev) (src : MemSrc) : Dev := (d.reply (List.replicate 64 0) true).haltSource src 0xA007

/-- The die whose decoder a requester's DRAM requests pass: an engine die's own, none for the base dies' (R277). -/
def srcDie : MemSrc → Option Nat
  | .engine p => some (p.val / 5)
  | _ => none

/-- Whether the requester's queue halts on an error, which then reports it (R284). -/
def isEngine : MemSrc → Bool
  | .engine _ => true
  | _ => false

/-- A 64 B access that lies in no DRAM: memory of a tile's window answers with its bytes, a register, counter or trace word with its
8 bytes, and a reserved offset as an unmapped address does (R272, R273, R275, R276). -/
def Dev.windowRead (d : Dev) (a : Nat) (src : MemSrc) : Dev :=
  match d.region a with
  | .larder p _ | .acb p _ | .queue p _ =>
    let a := a / 64 * 64
    let d := d.reply (d.bytes a 64) false
    (match d.readError a 64 with
    | none => d
    | some stop => ((d.withAnswerBad true).failedRead p stop 6 0 (srcCode src)).haltSource src (stopCode stop))
  | g => (match d.answerAt g with
    | some v => d.reply (leBytes 8 v) false
    | none => d.unmappedAccess src)

/-- A write that lies in no DRAM: memory of a tile's window takes it as the fabric does (R297); a register is written by
REGISTER_WRITE alone, and a reserved offset answers as an unmapped address does (R272). -/
def Dev.windowWrite (d : Dev) (a : Nat) (src : MemSrc) (bs : List Byte) : Dev :=
  match d.region a with
  | .larder _ _ | .acb _ _ | .queue _ _ => (d.fabricWrite a bs).settleHost
  | g => if (d.answerAt g).isSome then d else d.unmappedAccess src

/-- DRAM_READ (R281–R284): the line goes back to the requester, marked poisoned when three reads fail. `row` is what a retirement's
copy finds (R287). -/
def Dev.dramRead (d : Dev) (a : Nat) (src : MemSrc) (o : ReadOutcome) (row : List (Fin 32 × Bool)) (copies : List (Nat × List Byte)) : Dev :=
  match d.region a with
  | .unmapped => d.unmappedAccess src
  | .dram =>
    let a := a / 64 * 64
    let c := cellOf d.failed a
    let d := (d.countBase (homeStack c) 0 1).reply (d.bytes a 64) false
    match d.lineOutcome c o with
    | .clean => d
    | .soft => d.lineSoft c row
    | .hard => (((d.withAnswerBad true).lineHard c 1 (srcCode src) row).haltSource src 0xA002).afterHard 0xA002 copies (isEngine src)
  | _ => d.windowRead a src

def execDramRead (a : BitVec 48) (src : MemSrc) (outcome : ReadOutcome) (copies : List (Nat × List Byte)) (s : State)
    (row : List (Fin 32 × Bool) := []) : Host.Outcome State Fault Refusal :=
  run (fun d => ((d.withVia (srcDie src)).dramRead a.toNat src outcome row copies).withVia none) s

/-- DRAM_WRITE (R280, R283): a whole line with a correct check. -/
def Dev.dramWrite (d : Dev) (a : Nat) (src : MemSrc) (line : List Byte) : Dev :=
  match d.region a with
  | .unmapped => d.unmappedAccess src
  | .dram =>
    let a := a / 64 * 64
    (d.countBase (homeStack (cellOf d.failed a)) 8 1).write a (padTo 64 line)
  | _ => d.windowWrite (a / 64 * 64) src (padTo 64 line)

def execDramWrite (a : BitVec 48) (src : MemSrc) (line : List Byte) (s : State) : Host.Outcome State Fault Refusal :=
  run (fun d => ((d.withVia (srcDie src)).dramWrite a.toNat src line).withVia none) s

/-- DRAM_PARTIAL_WRITE (R280, R283): one read-modify-write of the bytes that lie in the line; a line that fails three reads is
not merged and is written poisoned. -/
def Dev.dramPartial (d : Dev) (a : Nat) (src : MemSrc) (bs : List Byte) (o : ReadOutcome) (row : List (Fin 32 × Bool))
    (copies : List (Nat × List Byte)) : Dev :=
  match d.region a with
  | .unmapped => d.unmappedAccess src
  | .dram =>
    let c := cellOf d.failed a
    let bs := bs.take (64 - a % 64)
    let d := (d.countBase (homeStack c) 0 1).countBase (homeStack c) 8 1
    match d.lineOutcome c o with
    | .clean => d.write a bs
    | .soft => (d.lineSoft c row).write a bs
    | .hard =>
      let d := (d.lineHard c 2 (srcCode src) row).haltSource src 0xA002
      (d.withLineX (tset 0 d.lineX (c / 64) 0xFFFFFFFF)).afterHard 0xA002 copies (isEngine src)
  | _ => d.windowWrite a src (bs.take (64 - a % 64))

def execDramPartialWrite (a : BitVec 48) (src : MemSrc) (bytes : List Byte) (outcome : ReadOutcome) (s : State)
    (copies : List (Nat × List Byte) := []) (row : List (Fin 32 × Bool) := []) : Host.Outcome State Fault Refusal :=
  run (fun d => ((d.withVia (srcDie src)).dramPartial a.toNat src bytes outcome row copies).withVia none) s

/-- PATROL_SCRUB (R288, R290): the next line of stack s in stack-local order; the end of a pass sets the stack's soft counts
to 0. GAP = 0 stops the scrub. -/
def Dev.patrol (d : Dev) (s : Nat) (o : ReadOutcome) (row : List (Fin 32 × Bool)) (copies : List (Nat × List Byte)) : Dev :=
  if d.fld MEM_SCRUB.GAP s = 0 then d
  else
    let n := tget 0 d.scrubPos s
    let c := cellAt s (64 * n)
    let d := d.withScrubPos (tset 0 d.scrubPos s ((n + 1) % 2 ^ 30))
    let d := match d.lineOutcome c o with
      | .clean => d
      | .soft => d.lineSoft c row
      | .hard => ((d.lineHard c 4 5 row).raise 0xA002).afterHard 0xA002 copies false
    if n + 1 = 2 ^ 30 then (d.withRowSoft (d.rowSoft.filter (fun e => e.1 % 16 ≠ s))) else d

def execPatrolScrub (x : Die) (outcome : ReadOutcome) (copies : List (Nat × List Byte)) (s : State)
    (row : List (Fin 32 × Bool) := []) : Host.Outcome State Fault Refusal := run (fun d => d.patrol x outcome row copies) s

/-! ## Larder banks (R21, R293) -/

/-- The bank of a larder offset (R293). -/
def larBank (off : Nat) : Nat := Nat.xor (off / 128 % 64) (off / 128 / 64 % 64)

/-- The key of a requester's refusals at a bank. -/
def waitKey (p bank req : Nat) : Nat := 7 * (64 * p + bank) + req

/-- The request that a bank grants: first those refused 8 times or more, each in the priority order (R21). -/
def Dev.granted (d : Dev) (p bank : Nat) (rs : List LarderReq) : Option LarderReq :=
  let order := rs.mergeSort (fun a b => a.req.val ≤ b.req.val)
  match order.find? (fun r => tget 0 d.larWait (waitKey p bank r.req) ≥ 8) with
  | some r => some r
  | none => order.head?

/-- The counted block of a requester (R474): the sieve's two directions are blocks 2 and 3, and the spill port works for the
shunter (R167); the fabric port has none. -/
def reqBlock (r : Nat) (widen : Bool) : Option Nat :=
  match r with
  | 0 => some 0 | 1 => some 1 | 2 => some (if widen then 3 else 2) | 3 => some 4 | 4 => some 5 | 5 => some 5 | _ => none

/-- The layer of the item that a requester's block holds (R305, R483). -/
def Dev.reqLayer (d : Dev) (p req : Nat) (widen : Bool) : Nat :=
  match reqBlock req widen with
  | some b => (tget {} (d.tile p).blocks b).cur.ident / 2 ^ 48
  | none => 0

/-- One stall cycle of a block with the larder-bank reason (R21, R476, R479). -/
def Dev.bankStall (d : Dev) (p b : Nat) : Dev :=
  d.modTile p (fun t =>
    let c := tget {} t.blocks b
    let c' := { c with
      cum := { c.cum with stall := addStall c.cum.stall [(6, 1)] }
      cur := { c.cur with stall := addStall c.cur.stall [(6, 1)] } }
    let k := c.cur.ident / 2 ^ 48 % 1024
    let l := tget [] t.layers k
    { t with blocks := tset {} t.blocks b c', layers := tset [] t.layers k (tset 0 l (2 * b + 1) (wrap48 (tget 0 l (2 * b + 1) + 1))) })

/-- The end of a larder access that fails three reads (R284, R296): the requesting queue halts, the fabric port's requester is told,
and the word is recovered by its class. -/
def Dev.larEnd (d : Dev) (p req : Nat) (copies : List (Nat × List Byte)) : Dev :=
  (if req = 6 then d.raise 0x8002 else d.halt p 0x8002).afterHard 0x8002 copies (req ≠ 6)

/-- A granted read: the line goes back behind those of the same cycle; a word whose stored check is wrong, or the first one when
the silicon says so, is reported (R294, R296). -/
def Dev.larRead (d : Dev) (p off req : Nat) (widen : Bool) (o : ReadOutcome) (copies : List (Nat × List Byte)) : Dev :=
  let off := off / 128 * 128
  let a := larderAddr p off
  let layer := d.reqLayer p req widen
  let d := d.withAnswer (d.answer ++ d.bytes a 128)
  let stored := (List.range 4).find? (fun i => tget 0 d.wordX (a / 32 + i) ≠ 0)
  match stored, o with
  | none, .clean => d
  | none, .soft => d.larSoft p off req layer
  | w, _ => ((d.withAnswerBad true).larHard p (off + 32 * w.getD 0) req layer).larEnd p req copies

/-- The bank that a request goes to. -/
def reqBank (r : LarderReq) : Nat := larBank r.off.toNat

/-- The requests that the banks grant in one cycle (R21). -/
def Dev.grants (d : Dev) (p : Nat) (reqs : List LarderReq) : List LarderReq :=
  (reqs.map reqBank).eraseDups.filterMap (fun b => d.granted p b (reqs.filter (fun r => reqBank r = b)))

/-- A refused read of the line that its bank writes in the same cycle: it returns the value held before the write (R22), and is
served with it (DESIGN CHOICE, log 105). -/
def readsBefore (gs : List LarderReq) (r : LarderReq) : Bool :=
  r.write.isNone && !gs.contains r && gs.any (fun g => g.write.isSome && reqBank g == reqBank r && g.off.toNat / 128 == r.off.toNat / 128)

/-- One cycle's refusals (R21): every request counts its refusals at its bank until it is served; a refused requester counts one stall
cycle, whatever the number of its banks. -/
def Dev.refusals (d : Dev) (p : Nat) (reqs gs : List LarderReq) : Dev :=
  let d := reqs.foldl (fun (d : Dev) r =>
    let key := waitKey p (reqBank r) r.req
    d.withLarWait (tset 0 d.larWait key (if gs.contains r ∨ readsBefore gs r then 0 else tget 0 d.larWait key + 1))) d
  ((reqs.filter (fun r => !gs.contains r)).filterMap (fun r => reqBlock r.req r.widen)).eraseDups.foldl (fun (d : Dev) b => d.bankStall p b) d

/-- LARDER_ACCESS (R21, R22, R293): every bank grants one of its requests. Reads return the values held before the writes of the
cycle. -/
def Dev.larAccess (d : Dev) (p : Nat) (reqs : List LarderReq) (o : ReadOutcome) (copies : List (Nat × List Byte)) : Dev :=
  let gs := d.grants p reqs
  let d := (d.refusals p reqs gs).reply [] false
  let reads := gs.filter (fun g => g.write.isNone) ++ reqs.filter (readsBefore gs)
  let d := (reads.foldl (fun (x : Dev × ReadOutcome) g => (x.1.larRead p g.off.toNat g.req g.widen x.2 copies, ReadOutcome.clean)) (d, o)).1
  gs.foldl (fun d g => match g.write with
    | some line => d.write (larderAddr p (g.off.toNat / 128 * 128)) (padTo 128 line)
    | none => d) d

def execLarderAccess (p : Tile) (reqs : List LarderReq) (outcome : ReadOutcome) (s : State)
    (copies : List (Nat × List Byte) := []) : Host.Outcome State Fault Refusal := run (fun d => d.larAccess p reqs outcome copies) s

/-- LARDER_PARTIAL_WRITE (R295, R296): a read-modify-write of the bytes that lie in the word; a word that fails three reads is
not merged and is written poisoned. -/
def Dev.larPartial (d : Dev) (p req off : Nat) (bs : List Byte) (o : ReadOutcome) (copies : List (Nat × List Byte)) : Dev :=
  let a := larderAddr p off
  let bs := bs.take (32 - off % 32)
  let layer := d.reqLayer p req false
  let fails := tget 0 d.wordX (a / 32) ≠ 0
  match (if fails then ReadOutcome.hard else o) with
  | .clean => d.write a bs
  | .soft => (d.larSoft p off req layer).write a bs
  | .hard => (d.larHard p off req layer 3).larEnd p req copies

def execLarderPartialWrite (p : Tile) (req : Fin 7) (a : BitVec 25) (bytes : List Byte) (outcome : ReadOutcome) (s : State)
    (copies : List (Nat × List Byte) := []) : Host.Outcome State Fault Refusal :=
  run (fun d => d.larPartial p req a.toNat bytes outcome copies) s

/-- ACB_FABRIC_WRITE (R297): discarded while a step is open on the tile, performed otherwise; no slot's state changes. -/
def execAcbFabricWrite (p : Tile) (a : BitVec 23) (bytes : List Byte) (s : State) : Host.Outcome State Fault Refusal :=
  run (fun d => if d.flag ENG_STEP_CTX.OPEN p then d.raise 0x7006 else d.write (acbAddr p a.toNat) (bytes.take (0x800000 - a.toNat))) s

end Sys2Proof.Machine
end

