-- ==== Sys2Proof/Machine/Link.lean ====
section
/-! DEFINITION. Coupler lanes, training, flits, replay and credits (R334–R345). -/

namespace Sys2Proof.Machine

/-! ## Lanes and training (R337–R341) -/

/-- The state of a physical lane, in the codes of R337. -/
def Dev.lane (d : Dev) (c j : Nat) : Nat := d.fld CPL_LANE_STATE.LANE c / 8 ^ j % 8
def Dev.setLane (d : Dev) (c j v : Nat) : Dev :=
  let x := d.fld CPL_LANE_STATE.LANE c
  d.setFld CPL_LANE_STATE.LANE (x - x / 8 ^ j % 8 * 8 ^ j + v * 8 ^ j) c
/-- Every lane of a port in one state. -/
def Dev.setLanes (d : Dev) (c v : Nat) : Dev := (List.range 9).foldl (fun d j => d.setLane c j v) d

/-- The physical lane that carries a logical lane (R369), and the logical lane that a physical one carries. -/
def Dev.physOf (d : Dev) (c i : Nat) : Nat := d.fld CPL_LANE_MAP.PHYS c / 16 ^ i % 16
def Dev.logicalOf (d : Dev) (c j : Nat) : Option Nat := (List.range 8).find? (fun i => d.physOf c i == j)

def Dev.standby (d : Dev) (c : Nat) : Option Nat := (List.range 9).find? (fun j => d.lane c j == 3)

/-- The status bits that follow the lane states (R368). -/
def Dev.laneSync (d : Dev) (c : Nat) : Dev :=
  let active := (List.range 9).foldl (fun m j => if d.lane c j = 2 then m + 2 ^ j else m) 0
  (d.setFld CPL_PORT_STATUS.ACTIVE active c).setFld CPL_PORT_STATUS.SPARE_FREE (if (d.standby c).isSome then 1 else 0) c

/-- A port that cannot keep 8 lanes (R339, R341). -/
def Dev.portDown (d : Dev) (c : Nat) : Dev := (d.setFld CPL_PORT_STATUS.STATE 3 c).raise 0xB003

/-- A port begins its training: all 9 lanes together (R338). -/
def Dev.startTraining (d : Dev) (c : Nat) : Dev :=
  let t := d.port c
  (((d.setLanes c 1).setFld CPL_PORT_STATUS.STATE 1 c).setPort c { t with
    attempts := [], swap := none, agreed := [], ctl := [], txBits := 0, rxBits := 0, aligned := 0, rxBad := false }).laneSync c

/-- The lanes that trained, in the ascending order of the sender's lanes that arrive on them (R338, R339; DEDUCED). -/
def trainOrder (r : TrainResult) : List Nat :=
  ((List.range 9).filter (fun j => bitOf r.trained.toNat j)).mergeSort (fun a b => r.sender.getD a a ≤ r.sender.getD b b)

/-- The lanes of a port as a training leaves them: the first 8 lanes that trained become logical lanes 0–7, a ninth STANDBY, the others
FAILED (R338, R339); a crossed or inverted lane is told. -/
def Dev.trainLanes (d : Dev) (c : Nat) (r : TrainResult) : Dev :=
  let order := trainOrder r
  let act := order.take 8
  let inv := (List.range 9).foldl (fun m j => if bitOf r.trained.toNat j && bitOf r.inverted.toNat j then m + 2 ^ j else m) 0
  let d := (List.range 9).foldl (fun (d : Dev) j =>
    d.setLane c j (if !order.contains j then 5 else if act.contains j then 2 else 3)) d
  let d := d.setFld CPL_PORT_STATUS.POL_INV inv c
  let d := if order.length ≥ 8 then
      d.setFld CPL_LANE_MAP.PHYS ((List.range 8).foldl (fun m i => m + act.getD i 0 * 16 ^ i) 0) c else d
  let d := d.laneSync c
  if order.any (fun j => bitOf r.inverted.toNat j || r.sender.getD j j != j) then d.raise 0xB002 else d

/-- A trained port comes up; what was waiting on the link for an acknowledgement is sent again. -/
def Dev.portUp (d : Dev) (c : Nat) : Dev :=
  let t := d.port c
  (d.setFld CPL_PORT_STATUS.STATE 2 c).setPort c { t with again := t.replay, tries := [] }

/-- PORT_TRAINING (R338, R339): with fewer than 8 lanes the port does not come up, nor in boundary scan (R537). -/
def Dev.train (d : Dev) (c : Nat) (r : TrainResult) : Dev :=
  if !d.flag CPL_CTRL.ENABLE c ∨ d.fld CPL_PORT_STATUS.STATE c ≥ 2 ∨ d.flag SEC_STATUS.BSCAN then d
  else if (trainOrder r).length ≥ 8 then (d.trainLanes c r).portUp c
  else (d.trainLanes c r).portDown c

def execPortTraining (c : Die) (r : TrainResult) (s : State) : Host.Outcome State Fault Refusal := run (fun d => d.train c r) s

/-- A write to CPL_CTRL (R339, R371): ENABLE 0 turns the lanes OFF and takes the port DOWN; ENABLE set, or RETRAIN, trains
the port from the start. -/
def Dev.writeCplCtrl (d : Dev) (c v : Nat) : Dev :=
  let r : RegId := ⟨.CPL_CTRL, c, 0⟩
  let was := d.flag CPL_CTRL.ENABLE c
  let d := d.setReg r (writeByAccess r true (d.reg r) v)
  if CPL_CTRL.ENABLE.get v = 0 then ((d.setLanes c 0).setFld CPL_PORT_STATUS.STATE 0 c).laneSync c
  else if !was ∨ CPL_CTRL.RETRAIN.get v = 1 then d.startTraining c
  else d

def execCplCtrlRetrain (c : Die) (v : BitVec 32) (s : State) : Host.Outcome State Fault Refusal :=
  run (fun d => d.writeCplCtrl c v.toNat) s
def execCplCtrlEnable (c : Die) (v : BitVec 32) (s : State) : Host.Outcome State Fault Refusal :=
  run (fun d => d.writeCplCtrl c v.toNat) s

/-! ## Codewords (R335) -/

/-- The codewords that a stream of message bits has filled: 5,140 bits each, and every 16,384th is an alignment codeword, which bears
none of them. -/
def codewords (bits : Nat) : Nat := bits / 5140 + bits / 5140 / 16383
/-- A flit of 4,096 bits at position `bits` of the stream begins in a codeword begun before; and one codeword begins within it, or
none. -/
def flitJoins (bits : Nat) : Bool := bits % 5140 != 0
def flitOpens (bits : Nat) : Bool := bits % 5140 == 0 || bits % 5140 + 4096 > 5140
/-- The physical lane that carries symbol i of a codeword. -/
def Dev.symbolLane (d : Dev) (c i : Nat) : Nat := d.physOf c (i % 8)

/-- The codeword that begins within the next received flit, if one does, as the FEC leaves it: corrected symbols count for their
lanes, an uncorrectable codeword for the port. Returns whether the flit overlaps one that cannot be corrected. -/
def Dev.takeWord (d : Dev) (c : Nat) (cw : Codeword) : Dev × Bool :=
  let t := d.port c
  let opens := flitOpens t.rxBits
  let bad := opens && cw == .uncorrectable
  let lost := bad || (flitJoins t.rxBits && t.rxBad)
  let symbols : List Nat := match cw with | .corrected l => if opens then l.map (·.val) else [] | _ => []
  let d := d.setPort c { t with
    rxBits := t.rxBits + 4096, rxBad := if opens then bad else t.rxBad, uncorr := t.uncorr + (if bad then 1 else 0)
    corrected := symbols.foldl (fun m i => tset 0 m (d.symbolLane c i) (tget 0 m (d.symbolLane c i) + 1)) t.corrected }
  (if bad then d.bump CPL_LINK_COUNTS.FEC_UNCORR 1 c else d, lost)

/-- An ACTIVE lane is to be replaced (R340, R341): a LANE_SWAP request, sent again while no answer has come, or the port fails when
no lane is STANDBY or the one that is has been promised to another lane. -/
def Dev.replaceLane (d : Dev) (c j : Nat) : Dev :=
  if d.lane c j ≠ 2 ∨ d.fld CPL_PORT_STATUS.STATE c ≠ 2 then d
  else
    let t := d.port c
    let l := (d.logicalOf c j).getD 0
    if t.agreed.any (fun e => e.lane == l) then d
    else if (d.standby c).isSome ∧ t.agreed.isEmpty ∧ (t.swap = none ∨ t.swap = some j) then
      d.setPort c { t with swap := some j, ctl := t.ctl ++ [.swapRequest (Fin.ofNat 8 l)] }
    else d.portDown c

def execLaneLossOfLock (c : Die) (lane : Fin 9) (s : State) : Host.Outcome State Fault Refusal :=
  run (fun d => d.replaceLane c lane) s

/-- SER_WINDOW_EXPIRY (R340): the window's counts are judged, and a new window begins; `counts` gives the corrected symbols by
physical lane, `uncorr` the uncorrectable codewords, of the window's codewords that bore no flit given here (log 109). -/
def Dev.serWindow (d : Dev) (c : Nat) (counts : List (Nat × Nat)) (uncorr : Nat) : Dev :=
  let d := d.bump CPL_LINK_COUNTS.FEC_UNCORR uncorr c
  let t := d.port c
  let n (j : Nat) := ((counts.find? (fun e => e.1 = j)).map (·.2)).getD 0 + tget 0 t.corrected j
  let uncorr := uncorr + t.uncorr
  let d := d.setPort c { t with corrected := [], uncorr := 0 }
  let active := (List.range 9).filter (fun j => d.lane c j == 2)
  let worst := active.foldl (fun (m : Option Nat) j => match m with
    | none => some j
    | some k => if n j > n k then some j else m) none
  let d := active.foldl (fun d j => if n j > d.fld CPL_CTRL.SER_MAX c then d.replaceLane c j else d) d
  match worst with
  | some j => if uncorr > 64 then d.replaceLane c j else d
  | none => d

def execSerWindowExpiry (c : Die) (counts : List (Nat × Nat)) (uncorr : Nat) (s : State) : Host.Outcome State Fault Refusal :=
  run (fun d => d.serWindow c counts uncorr) s

/-- An agreed boundary is reached. -/
def Port.reached (t : Port) (e : LaneMove) : Bool := decide (e.boundary ≤ codewords (if e.own then t.txBits else t.rxBits))

/-- LANE_SWAP (R340): at the agreed boundary the logical lane moves to the STANDBY lane, and the old lane goes to RETRAIN. -/
def Dev.laneSwap (d : Dev) (c : Nat) : Dev :=
  let t := d.port c
  match t.agreed.find? t.reached, d.standby c with
  | some e, some k =>
    let i := e.lane
    let j := d.physOf c i
    let map := d.fld CPL_LANE_MAP.PHYS c
    let d := d.setFld CPL_LANE_MAP.PHYS (map - j * 16 ^ i + k * 16 ^ i) c
    let t := { t with swap := if t.swap = some j then none else t.swap, agreed := t.agreed.filter (fun x => x.lane != i) }
    let d := (((d.setLane c k 2).setLane c j 4).setPort c t).laneSync c
    (d.setFld CPL_PORT_STATUS.SWAPPED 1 c).raise 0xB001
  | _, _ => d

def execLaneSwap (c : Die) (s : State) : Host.Outcome State Fault Refusal := run (fun d => d.laneSwap c) s

/-- LANE_RETRAIN (R341): a lane in RETRAIN becomes STANDBY, or FAILED after three failed attempts. -/
def Dev.laneRetrain (d : Dev) (c j : Nat) (ok : Bool) : Dev :=
  if d.lane c j ≠ 4 then d
  else
    let t := d.port c
    let n := tget 0 t.attempts j + 1
    if ok then ((d.setLane c j 3).setPort c { t with attempts := tset 0 t.attempts j 0 }).laneSync c
    else if n ≥ 3 then ((d.setLane c j 5).setPort c { t with attempts := tset 0 t.attempts j 0 }).laneSync c
    else d.setPort c { t with attempts := tset 0 t.attempts j n }

def execLaneRetrain (c : Die) (lane : Fin 9) (ok : Bool) (s : State) : Host.Outcome State Fault Refusal :=
  run (fun d => d.laneRetrain c lane ok) s

/-- The next alignment codeword is due: 16,383 flit-bearing codewords have gone out since the one before (R335). -/
def Port.alignDue (t : Port) : Bool := decide (16383 * (t.aligned + 1) ≤ t.txBits / 5140)

/-- ALIGNMENT_CODEWORD (R335): when it is due, in place of a flit-bearing codeword, with the sender's lane map. -/
def execAlignmentCodeword (c : Die) (s : State) : Host.Outcome State Fault Refusal :=
  run (fun d =>
    let t := d.port c
    if d.fld CPL_PORT_STATUS.STATE c ≠ 2 ∨ !t.alignDue then d
    else d.setPort c { t with aligned := t.aligned + 1, lines := .align (d.fld CPL_LANE_MAP.PHYS c) :: t.lines }) s

/-! ## Flits (R342–R345) -/

/-- Bytes 0–507 of a flit (R342). -/
def flitBytes (f : Flit) : List Byte :=
  leBytes 4 (f.vc.toNat * 2 ^ 30 + f.kind.toNat * 2 ^ 28 + f.fseq.toNat * 2 ^ 18 + f.ack.toNat * 2 ^ 8 + f.start.toNat * 4 +
    (if f.nak then 2 else 0) + (if f.cls then 1 else 0)) ++ padTo 504 f.payload

/-- A flit leaves the port (R342, R343): it carries ACK and NAK, its FCRC is formed here, and a flit slot has passed (R345). -/
def Dev.putFlit (d : Dev) (c : Nat) (f : Flit) : Dev :=
  let t := d.port c
  let f := { f with ack := BitVec.ofNat 10 (t.expSeq + 1023), nak := t.nak }
  let f := { f with fcrc := BitVec.ofNat 32 (crc32c (flitBytes f)) }
  let data := f.kind = 0
  (d.setPort c { t with
    lines := .flit f :: t.lines, sinceAck := 0, nak := false, txBits := t.txBits + 4096
    sinceMgmt := if data ∧ f.vc = 3 then 0 else t.sinceMgmt + 1, sinceCtl := if data ∧ f.vc = 2 then 0 else t.sinceCtl + 1
    tries := if data then tset 0 t.tries f.fseq.toNat (tget 0 t.tries f.fseq.toNat + 1) else t.tries }).countBase c 0x140 1

/-- An idle or link-control flit: FSEQ 0, no place in the sequence (R343). -/
def plainFlit (kind : Nat) (ctl : Option LinkCtl) : Flit :=
  { vc := 0, kind := BitVec.ofNat 2 kind, fseq := 0, ack := 0, start := 63, nak := false, cls := false, payload := [], ctl := ctl, fcrc := 0 }

/-- The receive buffer of a VC, in flits per class (R344). -/
def vcBuffer (vc : Nat) : Nat := match vc with | 0 => 96 | 1 => 128 | _ => 16

/-- The channel of a packet: 2·VC + CLASS. -/
def chanOf (pk : Packet) : Nat := 2 * pk.vc.toNat + (if pk.cls then 1 else 0)
/-- A channel has bytes to send, and holds a credit (R344). -/
def Port.waiting (t : Port) (ch : Nat) : Bool := !(tget [] t.rest ch).isEmpty || t.queue.any (fun pk => chanOf pk == ch)
def Port.credited (t : Port) (ch : Nat) : Bool := decide (tget 0 t.used ch < tget 0 t.credit ch + vcBuffer (ch / 2))
/-- The channel of a VC that may send, class 0 first. -/
def Port.ready (t : Port) (vc : Nat) : Option Nat := [2 * vc, 2 * vc + 1].find? (fun ch => t.waiting ch && t.credited ch)

/-- The channel that the next flit serves (R345): a VC without a credit is skipped, and holds nothing back. -/
def Port.choose (t : Port) : Option Nat :=
  let traffic := (t.ready 0).isSome || (t.ready 1).isSome
  let m := if traffic ∧ t.sinceMgmt < 7 then none else t.ready 3
  let k := if traffic ∧ t.sinceCtl < 7 then none else t.ready 2
  let r := t.ready 1
  let b := t.ready 0
  m <|> k <|> (if t.reduceNext then r <|> b else b <|> r)

/-- The payload of a channel's next flit: the bytes left over, then whole packets until 504 B are full. Returns the
payload, START, the bytes left over and the packets not yet begun. -/
def fillFlit (ch : Nat) (start : Nat) : List Byte → List Packet → List Byte × Nat × List Byte × List Packet
  | acc, [] => (acc.take 504, start, acc.drop 504, [])
  | acc, pk :: q =>
    if chanOf pk ≠ ch ∨ acc.length ≥ 504 then
      let r := fillFlit ch start acc q
      (r.1, r.2.1, r.2.2.1, pk :: r.2.2.2)
    else fillFlit ch (if start = 63 then acc.length / 8 else start) (acc ++ pk.bytes) q

/-- FLIT_TRANSMIT (R343–R345): flits to be sent again come first, then link control, then a channel with a credit while the
replay buffer has room; otherwise an idle flit. Management messages that wait enter the ports' queues first. -/
def Dev.flitTransmit (d : Dev) (c : Nat) : Dev :=
  let d := d.packMgmt
  let t := d.port c
  if d.fld CPL_PORT_STATUS.STATE c ≠ 2 then d
  else
    match t.again, t.ctl with
    | f :: fs, _ => (d.setPort c { t with again := fs }).putFlit c f
    | [], k :: ks => (d.setPort c { t with ctl := ks }).putFlit c (plainFlit 2 (some k))
    | [], [] =>
      match (if t.replay.length ≥ 512 then none else t.choose) with
      | none => d.putFlit c (plainFlit 1 none)
      | some ch =>
        let (pl, start, rest, q) := fillFlit ch 63 (tget [] t.rest ch) t.queue
        let vc := ch / 2
        let f : Flit := { vc := BitVec.ofNat 2 vc, kind := 0, fseq := BitVec.ofNat 10 t.nextSeq, ack := 0
                          start := BitVec.ofNat 6 start, nak := false, cls := ch % 2 == 1, payload := padTo 504 pl, ctl := none, fcrc := 0 }
        let t' := { t with
          queue := q, rest := tset [] t.rest ch rest, nextSeq := (t.nextSeq + 1) % 1024, replay := t.replay ++ [f]
          tries := tset 0 t.tries t.nextSeq 0
          used := tset 0 t.used ch (tget 0 t.used ch + 1)
          reduceNext := if vc = 1 then false else if vc = 0 then true else t.reduceNext }
        ((d.setPort c t').countBase c (0x100 + 8 * vc) pl.length).putFlit c f

def execFlitTransmit (c : Die) (s : State) : Host.Outcome State Fault Refusal := run (fun d => d.flitTransmit c) s

/-- FLIT_ACK (R343): an acknowledgement while data flits received are not yet acknowledged, or a NAK is due. -/
def execFlitAck (c : Die) (s : State) : Host.Outcome State Fault Refusal :=
  run (fun d =>
    let t := d.port c
    if d.fld CPL_PORT_STATUS.STATE c ≠ 2 ∨ (t.sinceAck = 0 ∧ !t.nak) then d else d.putFlit c (plainFlit 1 none)) s

/-- CREDIT_RETURN (R344, R362): cumulative counts while credits are owed; the reduce VC's are withheld while the forward
buffer is full. -/
def execCreditReturn (c : Die) (s : State) : Host.Outcome State Fault Refusal :=
  run (fun d =>
    let t := d.port c
    let full := d.flag RDU_STATUS.HOLD_FULL c
    let owed := (List.range 8).foldl (fun (r : Tbl Nat) ch =>
      tset 0 r ch (tget 0 (if full ∧ ch / 2 = 1 then t.returned else t.freed) ch)) []
    if d.fld CPL_PORT_STATUS.STATE c ≠ 2 ∨ owed = t.returned then d
    else (d.setPort c { t with returned := owed }).putFlit c
      (plainFlit 2 (some (.credits ((List.range 8).map (fun ch => tget 0 owed ch)))))) s

/-- Whole packets at the front of a channel's bytes, and what is left; a zero byte where a packet would begin is fill. -/
def takePackets : Nat → List Byte → List Packet × List Byte
  | 0, bs => ([], bs)
  | k + 1, bs =>
    match bs with
    | [] => ([], [])
    | b :: _ =>
      if b = 0 then ([], [])
      else if bs.length < 40 then ([], bs)
      else
        let n := 48 + (fieldAt bs 26 2 + 7) / 8 * 8
        if bs.length < n then ([], bs)
        else
          let r := takePackets k (bs.drop n)
          (packetOf (bs.take n) :: r.1, r.2)

/-- The sender's side of a received ACK and NAK (R343): acknowledged flits leave the replay buffer; on a NAK every one after
the last good flit is sent again, and a flit that has been sent four times in vain retrains the port. -/
def Dev.takeAck (d : Dev) (c : Nat) (f : Flit) : Dev :=
  let t := d.port c
  let done (g : Flit) : Bool := decide ((f.ack.toNat + 1024 - g.fseq.toNat) % 1024 < 512)
  let left := t.replay.filter (fun g => !done g)
  let t' := { t with replay := left, again := t.again.filter (fun g => !done g) }
  match left with
  | [] => d.setPort c t'
  | g :: _ =>
    if !f.nak then d.setPort c t'
    else if tget 0 t.tries g.fseq.toNat ≥ 4 then (d.setPort c t').startTraining c
    else (d.setPort c { t' with again := left }).bump CPL_LINK_COUNTS.REPLAYS 1 c

/-- The codewords of 5,440 line bits that take 256 coupler cycles of 1,024 bits, rounded up (R335, R336, R340). -/
def swapWords : Nat := 49

/-- A link-control body (R340, R344): a request is answered with the earliest boundary that R340 allows (log 109). -/
def Dev.takeCtl (d : Dev) (c : Nat) (k : LinkCtl) : Dev :=
  let t := d.port c
  match k with
  | .credits counts => d.setPort c { t with credit := (List.range 8).foldl (fun (r : Tbl Nat) ch => tset 0 r ch (counts.getD ch 0)) [] }
  | .swapRequest l =>
    match t.agreed.find? (fun e => e.lane == l.val) with
    | some e => if e.own then d.setPort c { t with ctl := t.ctl ++ [.swapAnswer l e.boundary] } else d
    | none =>
      if (d.standby c).isNone ∨ !t.agreed.isEmpty ∨ (t.swap.isSome ∧ t.swap ≠ some (d.physOf c l)) then d.portDown c
      else
        let b := codewords t.txBits + swapWords
        d.setPort c { t with agreed := [⟨l, b, true⟩], ctl := t.ctl ++ [.swapAnswer l b] }
  | .swapAnswer l b =>
    if t.swap = some (d.physOf c l) ∧ t.agreed.isEmpty then d.setPort c { t with agreed := [⟨l, b, false⟩] } else d

/-- FLIT_RECEIVE (R335, R343): a flit that overlaps an uncorrectable codeword is discarded as one that fails; then the FCRC, then
ACK and NAK, then the sequence number of a data flit. -/
def Dev.flitReceive (d : Dev) (c : Nat) (f : Flit) (cw : Codeword) : Dev :=
  if d.fld CPL_PORT_STATUS.STATE c ≠ 2 then d
  else
    let (d, lost) := (d.countBase c 0x148 1).takeWord c cw
    if lost ∨ f.fcrc.toNat ≠ crc32c (flitBytes f) then d.setPort c { d.port c with nak := true }
    else
      let d := d.takeAck c f
      let d := match f.ctl with | some k => if f.kind = 2 then d.takeCtl c k else d | none => d
      if f.kind ≠ 0 then d
      else
        let t := d.port c
        if f.fseq.toNat = t.expSeq then
          let ch := 2 * f.vc.toNat + (if f.cls then 1 else 0)
          let part := tget [] t.part ch
          let pl := padTo 504 f.payload
          let bs := if part.isEmpty then (if f.start = 63 then [] else pl.drop (8 * f.start.toNat)) else part ++ pl
          let r := takePackets 16 bs
          (d.setPort c { t with
            expSeq := (t.expSeq + 1) % 1024, sinceAck := t.sinceAck + 1, nak := false
            part := tset [] t.part ch r.2, rx := t.rx ++ r.1, freed := tset 0 t.freed ch (tget 0 t.freed ch + 1) }).countBase c
              (0x120 + 8 * f.vc.toNat) ((r.1.map (fun pk => pk.bytes.length)).foldl (· + ·) 0)
        else if (t.expSeq + 1023 - f.fseq.toNat) % 1024 < 512 then d
        else d.setPort c { t with nak := true }

def execFlitReceive (c : Die) (f : Flit) (s : State) (cw : Codeword := .clean) : Host.Outcome State Fault Refusal :=
  run (fun d => d.flitReceive c f cw) s

end Sys2Proof.Machine
end

