-- ==== Sys2Proof/Machine/Dammel.lean ====
section
/-! DEFINITION. Queue pairs, the checks of a command, completions and forwarding (R445–R454, R461–R467). -/

namespace Sys2Proof.Machine

/-! ## Completions (R448, R449, R464) -/

/-- A completion entry without its ALIVE and CFLAGS: TAG, STATUS and both results (R448). -/
def cplEntry (tag status alive flags r0 r1 : Nat) : List Byte :=
  withCrc (leBytes 4 tag ++ leBytes 2 status ++ leBytes 1 alive ++ leBytes 1 flags ++ leBytes 8 r0 ++ leBytes 8 r1 ++ leBytes 4 0)

/-- The state of the host link allows host accesses: not in D3hot (R441), and BAR reads and writes past BOOTING (R440). -/
def Dev.state (d : Dev) : Nat := d.fld MBX_STATE.STATE

/-- A queue pair enters ERROR (R454): MBX_QP_ERROR on QP 0's event ring, or vector 1 when QP 0 itself is in ERROR. -/
def Dev.qpError (d : Dev) (q : Nat) : Dev :=
  match d.qp q with
  | none => d
  | some x =>
    let d := d.setQp q { x with error := true }
    let d := d.withEvents (⟨0xE002, d.stepNow⟩ :: d.events)
    if q = 0 ∨ ((d.qp 0).map (·.error)).getD false then d.fireMsi 1 else d.putEvent 0 0xE002 d.rank d.stepNow (d.eventData 0xE002)

/-- A completion written to the ring of queue pair q (R448, R463, R464); to one that is absent or in ERROR it is discarded
(R441, R454). -/
def Dev.writeCpl (d : Dev) (q tag status r0 r1 : Nat) (dup : Bool) : Dev :=
  match d.qp q with
  | none => d
  | some x =>
    if x.error then d
    else if d.hostOff then d.qpError q
    else
      let n := 2 ^ x.logCpl
      let phase := if x.cplWr / n % 2 = 0 then 1 else 0
      let bs := cplEntry tag status x.cplAlive (phase + (if dup then 2 else 0)) r0 r1
      let unsig := x.cplUnsig + 1
      let fires := decide (unsig ≥ x.coalCount) || x.coalTime == 0
      let kept := if dup then x.kept else ((tag, cplEntry tag status 0 0 r0 r1) :: x.kept).take 64
      let d := d.withHostOut (.ring (x.cplBase + 32 * (x.cplWr % n)) bs :: d.hostOut)
      let d := d.setQp q { x with
        cplWr := x.cplWr + 1, cplAlive := (x.cplAlive + 1) % 256, cplUnsig := if fires then 0 else unsig, kept := kept }
      if fires then d.fireMsi x.cplVec else d

def entryTag (e : List Byte) : Nat := fieldAt e 4 4

/-- A queue pair destroyed: its started commands run on, and their completions are discarded (R441). -/
def Dev.destroyQp (d : Dev) (q : Nat) : Dev :=
  match d.qp q with
  | none => d
  | some x => (d.withQps (tset none d.qps q none)).withSvc { d.svc with orphans := d.svc.orphans ++ x.started.map (fun e => (q, e)) }

/-- A command that runs on without its queue pair. -/
def Dev.orphan (d : Dev) (q tag : Nat) : Option (List Byte) :=
  (d.svc.orphans.find? (fun (o : Nat × List Byte) => o.1 == q && entryTag o.2 == tag)).map (·.2)
def Dev.dropOrphan (d : Dev) (q tag : Nat) : Dev :=
  (d.withSvc { d.svc with orphans := d.svc.orphans.filter (fun (o : Nat × List Byte) => !(o.1 == q && entryTag o.2 == tag)) })

/-- A started command completes (R448, R466): it leaves the started ones and its completion is written, or sent to the
manager that forwarded it. -/
def Dev.complete (d : Dev) (who : Issuer) (tag status r0 r1 : Nat) : Dev :=
  match who with
  | .qp q =>
    match d.qp q with
    | none => d.dropOrphan q tag
    | some x =>
      if (d.orphan q tag).isSome ∧ !x.started.any (fun e => entryTag e == tag) then d.dropOrphan q tag
      else (d.setQp q { x with started := x.started.filter (fun e => entryTag e ≠ tag) }).writeCpl q tag status r0 r1 false
  | .forwarded r q =>
    let d := d.withPod { d.pod with taken := d.pod.taken.filter (fun t => !(t.1 == r.toNat && t.2.1 == q.toNat && entryTag t.2.2 == tag)) }
    d.sendMgmt (d.fld SVC_ROLE.MANAGER) d.stepNow
      (.hostCpl ⟨2, q, r, BitVec.ofNat 32 tag, 0⟩ (cplEntry tag status 0 0 r0 r1))

/-- A command that fails a check of R447 completes with its status and is counted. -/
def Dev.reject (d : Dev) (who : Issuer) (tag status : Nat) : Dev := (d.bump MBX_STATUS.REJECTED).complete who tag status 0 0

/-- Bytes written into a command's OUT list (R455), or sent towards the manager whose host holds the list (R466). -/
def Dev.emit (d : Dev) (who : Issuer) (tag : Nat) (bs : List Byte) : Dev :=
  match who with
  | .qp q => d.withHostOut (.out q tag bs :: d.hostOut)
  | .forwarded r q => (cutBytes 4080 bs).foldl (fun d e => d.sendMgmt (d.fld SVC_ROLE.MANAGER) d.stepNow
      (.hostCpl ⟨4, q, r, BitVec.ofNat 32 tag, BitVec.ofNat 64 e.1⟩ e.2)) d

/-! ## The command set (R446, R447, R456) -/

/-- The body bytes that a command's fields take, none for an unknown OPCODE (R456). The manual gives RUN_STEP its LENGTH;
of the other commands it gives the fields (DESIGN CHOICE, log 42). -/
def cmdLength : Nat → Option Nat
  | 0x01 => some 16 | 0x02 => some 36 | 0x03 => some 1 | 0x04 => some 0 | 0x05 => some 16
  | 0x10 => some 16 | 0x11 => some 8 | 0x12 => some 3 | 0x13 => some 16
  | 0x20 => some 32 | 0x21 => some 16 | 0x22 => some 30 | 0x23 => some 30 | 0x24 => some 16
  | 0x30 => some 16 | 0x31 => some 6 | 0x32 => some 6
  | 0x40 => some 10 | 0x41 => some 5 | 0x42 => some 24 | 0x43 => some 24 | 0x44 => some 4
  | 0x50 => some 18 | 0x51 => some 18 | 0x52 => some 17 | 0x53 => some 8
  | 0x60 => some 17 | 0x61 => some 1
  | 0x70 => some 48 | 0x71 => some 17 | 0x72 => some 0 | 0x73 => some 80
  | _ => none

/-- LENGTH fits the command: RUN_STEP takes 16 (R457). -/
def lengthOk (op len : Nat) : Bool :=
  match cmdLength op with
  | none => false
  | some n => if op = 0x30 then len == 16 else decide (n ≤ len)

/-- Class S (R452, R456). -/
def classS (op : Nat) : Bool := [0x05, 0x10, 0x11, 0x12, 0x13, 0x20, 0x21, 0x40, 0x41, 0x61].contains op

/-- Checks 1–3 of R447 on an entry whose queue expects `exp`: the status of the first that fails, and the expected ALIVE
afterwards. -/
def checkHead (e : List Byte) (exp maxLen : Nat) : Option Nat × Nat :=
  let len := fieldAt e 8 2
  let a := fieldAt e 3 1
  if len > maxLen ∨ crc32c (e.take 28 ++ slice e 32 len) ≠ fieldAt e 28 4 then (some 1, exp)
  else if (a + 1) % 256 = exp then (some 2, exp)
  else if a ≠ exp then (some 3, (a + 1) % 256)
  else if (cmdLength (fieldAt e 0 2)).isNone then (some 4, (exp + 1) % 256)
  else if !lengthOk (fieldAt e 0 2) len then (some 5, (exp + 1) % 256)
  else (none, (exp + 1) % 256)

/-- The entry of a started command (R451). -/
def Dev.entry (d : Dev) (who : Issuer) (tag : Nat) : Option (List Byte) :=
  match who with
  | .qp q => match d.qp q with
    | none => d.orphan q tag
    | some x => (x.started.find? (fun e => entryTag e == tag)) <|> d.orphan q tag
  | .forwarded r q =>
    let mine (t : Nat × Nat × List Byte) := t.1 == r.toNat && t.2.1 == q.toNat && entryTag t.2.2 == tag
    match d.pod.taken.find? mine with
    | some t => if bitOf (fieldAt t.2.2 2 1) 0 ∧ (d.pod.taken.head?.map mine) ≠ some true then none else some t.2.2
    | none => none

/-- This device is the manager (R378). -/
def Dev.isManager (d : Dev) : Bool := d.fld SVC_ROLE.ROLE == 1

/-- A step is armed, and its step is running (R452). -/
def Dev.armedStep (d : Dev) : Bool := d.pod.armed.isSome || d.openStep.isSome
def Dev.running (d : Dev) : Bool := (d.pod.armed.map (·.running)).getD d.openStep.isSome

/-- Check 4 of R447: path, role and state (R452, R456, R466). -/
def Dev.check4 (d : Dev) (who : Issuer) (op : Nat) (e : List Byte) : Option Nat :=
  let toRank := bitOf (fieldAt e 2 1) 1
  let manager := [0x11, 0x12, 0x13, 0x31, 0x40, 0x41, 0x44].contains op
  let byManager := [0x40, 0x41, 0x44].contains op && (match who with | .forwarded _ _ => true | _ => false)
  if toRank && !d.isManager then some 7
  else if manager && !d.isManager && !byManager then some 7
  else if [0x02, 0x03].contains op && !(match who with | .qp q => q.val == 0 | _ => false) then some 7
  else if classS op && op ≠ 0x61 && op ≠ 0x05 && d.armedStep && !(op == 0x40 && !d.running) then some 9
  else none

/-- The reserved bits of the header (R446). -/
def headOk (e : List Byte) : Bool :=
  decide (fieldAt e 2 1 < 8) && (if bitOf (fieldAt e 2 1) 1 then decide (fieldAt e 10 2 < 4096) else fieldAt e 10 2 == 0) &&
    (slice e 12 16).all (· == 0)

/-- A command is sent to its rank (R466): it carries the ALIVE of that rank's forwarding queue. -/
def Dev.forwardCmd (d : Dev) (q tag target : Nat) (e : List Byte) : Dev :=
  let a := tget 0 d.pod.fwdAlive target
  let len := fieldAt e 8 2
  let head := e.take 2 ++ leBytes 1 (fieldAt e 2 1 % 2) ++ leBytes 1 a ++ slice e 4 6 ++ leBytes 2 0 ++ slice e 12 16
  let body := slice e 32 len
  let bytes := head ++ leBytes 4 (crc32c (head ++ body)) ++ body
  let d := (d.withPod { d.pod with
    forwarded := d.pod.forwarded ++ [(⟨q, tag, target⟩ : Forwarded)], fwdAlive := tset 0 d.pod.fwdAlive target ((a + 1) % 256) })
  d.sendMgmt target d.stepNow (.hostCmd ⟨1, BitVec.ofNat 8 q, BitVec.ofNat 12 d.rank, BitVec.ofNat 32 tag, 0⟩ bytes)

/-- Commands of class S that have begun and not completed, and the armed RUN_STEP (R452). -/
def Dev.runningS (d : Dev) : List (Issuer × Nat) :=
  (d.pod.publishing.bind (fun x => x.cmd.map (fun c => (c.1, c.2.1)))).toList ++ d.pod.draining.filterMap (·.2.2) ++
    d.pod.joining.filterMap (·.cmd) ++ d.pod.ckptCmd.toList ++ (d.pod.restoring.bind (·.cmd)).toList ++
    (d.svc.activating.map (·.2)).toList
def Dev.begun (d : Dev) (who : Issuer) (tag : Nat) : Bool :=
  d.runningS.contains (who, tag) || (d.pod.armed.map (fun a => (a.who, a.tag))) == some (who, tag)

/-- A command of class S waits while another one runs (R452); those of the manager's own Dammel do not (log 49). -/
def Dev.waitsS (d : Dev) (who : Issuer) (op : Nat) : Bool :=
  classS op && !d.runningS.isEmpty && (match who with | .forwarded _ q => q ≠ 255 | _ => true)

/-- A command that this rank has forwarded and whose answer is still out (R466). -/
def Dev.isForwarded (d : Dev) (who : Issuer) (tag : Nat) : Bool :=
  d.pod.forwarded.any (fun f => (match who with | .qp q => f.q == q.val | _ => false) && f.tag == tag)
/-- A command entered by its TAG runs, if it is started and of this kind, nothing holds it, and its checks pass; one for
another rank is forwarded. Nothing starts during a handover (R468, R557). -/
def Dev.cmd (d : Dev) (who : Issuer) (tag : BitVec 32) (op : Nat) (eff : List Byte → Dev → Dev) : Dev :=
  match d.entry who tag.toNat with
  | none => d
  | some e =>
    let target := fieldAt e 10 2
    if fieldAt e 0 2 ≠ op ∨ d.state = 2 ∨ d.begun who tag.toNat then d
    else if d.isForwarded who tag.toNat then d
    else
      let forwards := bitOf (fieldAt e 2 1) 1 && d.isManager && target ≠ d.rank
      match (if forwards then none else d.check4 who op e) with
      | some st => d.reject who tag.toNat st
      | none =>
        if !headOk e then d.reject who tag.toNat 6
        else if forwards then
          (match who with
          | .qp q =>
            if [1, 2, 3, 4].contains (tget {} d.ranks target).state.toNat then d.forwardCmd q tag.toNat target e
            else d.complete who tag.toNat 0x1C 0 0
          | _ => d.reject who tag.toNat 7)
        else if d.waitsS who op then d
        else eff (e.drop 32) d

/-- A command that answers at once: its effect gives the status and both results. -/
def Dev.cmdNow (d : Dev) (who : Issuer) (tag : BitVec 32) (op : Nat) (eff : List Byte → Dev → Dev × Nat × Nat × Nat) : Dev :=
  d.cmd who tag op (fun body d =>
    let res := eff body d
    let st := res.2.1
    let r0 := res.2.2.1
    let r1 := res.2.2.2
    let d := res.1
    let d := if [5, 6, 7, 8, 9].contains st then d.bump MBX_STATUS.REJECTED else d
    d.complete who tag.toNat st r0 r1)

/-- The command came from this rank's own host. -/
def byHost : Issuer → Bool
  | .qp _ => true
  | .forwarded _ _ => false

/-- A device access through a DMA list that fails: DMA_ERROR, RESULT0 the list entry (R461, R463). -/
def Dev.sendOut (d : Dev) (who : Issuer) (tag : BitVec 32) (out : DmaOut) (bs : List Byte) (r0 r1 : Nat) : Dev × Nat × Nat × Nat :=
  if out.space < bs.length then (d, 6, 0, 0)
  else if d.hostOff && byHost who then (d, 0x18, 0, 0)
  else match out.failed with
    | some k => (d, 0x18, k, 0)
    | none => (d.emit who tag.toNat bs, 0, r0, r1)

/-! ## Doorbells (R445, R451, R453) -/

/-- An access that is dropped and counted (R443, R445). -/
def Dev.badAccess (d : Dev) : Dev := d.bump MBX_STATUS.BAD_ACCESS

/-- What the check-value units see in the first two checks of an entry (R447, R512, R514). -/
def Dev.headCheck (d : Dev) (st : Option Nat) (e : List Byte) : Dev :=
  match st with
  | some 1 => d.cvuMismatch (cvuSvc 0) (crc32c (e.take 28 ++ slice e 32 (fieldAt e 8 2))) (fieldAt e 28 4)
  | some 2 => d.cvuAlive (cvuSvc 0) true false
  | some 3 => d.cvuAlive (cvuSvc 0) false true
  | _ => d

/-- One entry read from a command ring (R447, R449). -/
def Dev.takeEntry (d : Dev) (q : Nat) (x : QP) (e : List Byte) : Dev :=
  let tag := entryTag e
  let (st, exp) := checkHead e x.cmdAlive 96
  let d := d.headCheck st e
  let d := match d.qp q with
    | some y => d.setQp q { y with cmdHead := x.cmdHead + 1, cmdAlive := exp }
    | none => d
  match st with
  | some st => (d.bump MBX_STATUS.REJECTED).writeCpl q tag st 0 0 false
  | none =>
    let reissue := bitOf (fieldAt e 2 1) 2
    if reissue ∧ x.kept.any (fun k => k.1 == tag) then
      (match x.kept.find? (fun k => k.1 == tag) with
      | some k => d.writeCpl q tag (fieldAt k.2 4 2) (fieldAt k.2 8 8) (fieldAt k.2 16 8) true
      | none => d)
    else if reissue ∧ x.started.any (fun s => entryTag s == tag) then d.writeCpl q tag 0x1B 0 0 true
    else match d.qp q with
      | some y => d.setQp q { y with started := y.started ++ [e] }
      | none => d

/-- Entries are read while there are some, the completion ring has room for them and no fence holds (R446, R451). -/
def Dev.readRing (d : Dev) (q : Nat) : List (List Byte) → Dev
  | [] => d
  | e :: es =>
    match d.qp q with
    | none => d
    | some x =>
      let n := 2 ^ x.logCmd
      if x.error ∨ x.cmdHead % n = x.cmdTail then d
      else if x.cplWr - x.cplRd + x.started.length + 1 > 2 ^ x.logCpl then d
      else if bitOf (fieldAt e 2 1) 0 ∧ !x.started.isEmpty then d
      else Dev.readRing (d.takeEntry q x (padTo 128 e)) q es

/-- CMD_TAIL (R445, R451, R454, R468): the tail is taken; outside a handover the entries from the head on are read. -/
def Dev.cmdTail (d : Dev) (q tail : Nat) (entries : List (List Byte)) (readable : Bool) : Dev :=
  if d.hostOff then d
  else match d.qp q with
  | none => d.badAccess
  | some x =>
    if tail ≥ 2 ^ x.logCmd then d.badAccess
    else if d.state = 0 then d.badAccess
    else
      let d := d.setQp q { x with cmdTail := tail }
      if d.state = 2 ∨ x.error then d
      else if !readable then d.qpError q
      else d.readRing q entries

def execCmdTail (q : Fin 64) (tail : BitVec 32) (entries : List (List Byte)) (readable : Bool) (s : State) :
    Host.Outcome State Fault Refusal := run (fun d => d.cmdTail q tail.toNat entries readable) s

/-- The count of freed entries after a head index: the next count that the index names, if the ring has written that far. -/
def freedTo (rd wr size head : Nat) : Nat :=
  let x := rd + (head + size - rd % size) % size
  if x ≤ wr then x else rd

/-- CPL_HEAD (R445, R448). -/
def Dev.cplHead (d : Dev) (q head : Nat) : Dev :=
  if d.hostOff then d
  else match d.qp q with
  | none => d.badAccess
  | some x =>
    if head ≥ 2 ^ x.logCpl then d.badAccess else d.setQp q { x with cplRd := freedTo x.cplRd x.cplWr (2 ^ x.logCpl) head }

def execCplHead (q : Fin 64) (head : BitVec 32) (s : State) : Host.Outcome State Fault Refusal :=
  run (fun d => d.cplHead q head.toNat) s

/-- EVT_HEAD (R445, R453). -/
def Dev.evtHead (d : Dev) (q head : Nat) : Dev :=
  if d.hostOff then d
  else match d.qp q with
  | none => d.badAccess
  | some x =>
    if head ≥ 2 ^ x.logEvt then d.badAccess else d.setQp q { x with evtRd := freedTo x.evtRd x.evtWr (2 ^ x.logEvt) head }

def execEvtHead (q : Fin 64) (head : BitVec 32) (s : State) : Host.Outcome State Fault Refusal :=
  run (fun d => d.evtHead q head.toNat) s

/-- MSIX_COALESCE_TIMEOUT (R464): COAL_TIME after the first unsignalled entry of the completion or the event ring. -/
def execMsixCoalesceTimeout (q : Fin 64) (evt : Bool) (s : State) : Host.Outcome State Fault Refusal :=
  run (fun d =>
    match d.qp q with
    | none => d
    | some x =>
      if x.coalTime = 0 then d
      else if evt then (if x.evtUnsig = 0 then d else (d.setQp q { x with evtUnsig := 0 }).fireMsi x.evtVec)
      else if x.cplUnsig = 0 then d else (d.setQp q { x with cplUnsig := 0 }).fireMsi x.cplVec) s

/-- MSIX_UNMASK (R464): an unmasked vector whose pending bit is set fires, and the bit clears. -/
def execMsixUnmask (v : Fin 256) (s : State) : Host.Outcome State Fault Refusal :=
  run (fun d =>
    if d.hostOff then d else
    let d := d.withMsixOpen (v.val :: d.msixOpen.filter (· ≠ v.val))
    if v.val ∈ d.msixPending then (d.withMsixPending (d.msixPending.filter (· ≠ v.val))).fireMsi v else d) s

/-! ## DEVICE_INFO, QP_CREATE, QP_DESTROY, GET_STATE (R450, R456) -/

/-- DEVICE_INFO (R456): RESULT1 is the active boot image in bit 32 and the firmware version below it; the OUT bytes have no
layout in the manual (DESIGN CHOICE, log 1, log 42). -/
def Dev.deviceInfo (d : Dev) : List Byte × Nat × Nat :=
  (Config.deviceInfoBytes d.free, d.fuses.deviceId, d.fld SEC_STATUS.IMAGE * 2 ^ 32 + fieldAt d.svc.resident 8 4)

def execDeviceInfo (who : Issuer) (tag : BitVec 32) (out : DmaOut) (s : State) : Host.Outcome State Fault Refusal :=
  run (fun d => d.cmdNow who tag 0x01 (fun _ d =>
    let (bs, r0, r1) := d.deviceInfo
    (d.withFree (d.free + 1)).sendOut who tag out bs r0 r1)) s

/-- QP_CREATE (R450, R465); `boot` marks the bootstrap mailbox, the only path for QP 0. -/
def Dev.qpCreate (d : Dev) (boot : Bool) (b : List Byte) : Dev × Nat × Nat × Nat :=
  let f (i n : Nat) := fieldAt b i n
  let q := f 0 1
  let logOk (i : Nat) := decide (4 ≤ f i 1 ∧ f i 1 ≤ 12)
  if q ≥ 64 ∨ !logOk 1 ∨ !logOk 2 ∨ !logOk 3 ∨ f 2 1 < f 1 1 ∨ f 4 1 < 2 ∨ f 5 1 < 2 ∨ f 6 1 = 0 ∨
      f 8 8 % 4096 ≠ 0 ∨ f 16 8 % 4096 ≠ 0 ∨ f 24 8 % 4096 ≠ 0 ∨ f 34 2 ≠ 0 then (d, 6, 0, 0)
  else if q = 0 ∧ !boot then (d, 7, 0, 0)
  else if (d.qp q).isSome then (d, 0x1A, 0, 0)
  else
    let x : QP := { logCmd := f 1 1, logCpl := f 2 1, logEvt := f 3 1, cplVec := f 4 1, evtVec := f 5 1, coalCount := f 6 1
                    coalTime := f 7 1, cmdBase := f 8 8, cplBase := f 16 8, evtBase := f 24 8, evtMask := f 32 2 }
    let d := d.setQp q x
    if q = 0 ∧ d.flag MBX_STATE.HOST_LOST then (((d.setFld MBX_STATE.HOST_LOST 0).fireMsi 0).raise 0xE005, 0, 0, 0)
    else (d, 0, 0, 0)

def execQpCreate (who : Issuer) (tag : BitVec 32) (s : State) : Host.Outcome State Fault Refusal :=
  run (fun d => d.cmdNow who tag 0x02 (fun b d => d.qpCreate false b)) s

/-- QP_DESTROY (R456): the pair's completions and events are no longer written. -/
def Dev.qpDestroy (d : Dev) (b : List Byte) : Dev × Nat × Nat × Nat :=
  let q := fieldAt b 0 1
  if q ≥ 64 ∨ (d.qp q).isNone then (d, 6, 0, 0) else (d.destroyQp q, 0, 0, 0)

def execQpDestroy (who : Issuer) (tag : BitVec 32) (s : State) : Host.Outcome State Fault Refusal :=
  run (fun d => d.cmdNow who tag 0x03 (fun b d => d.qpDestroy b)) s

/-- GET_STATE (R456): SVC_ROLE; c with OPEN in bit 63 and ARMED in bit 62. -/
def Dev.getState (d : Dev) : Nat × Nat :=
  (d.readReg ⟨.SVC_ROLE, 0, 0⟩,
    d.committed + (if d.openStep.isSome then 2 ^ 63 else 0) + (if d.pod.armed.isSome then 2 ^ 62 else 0))

def execGetState (who : Issuer) (tag : BitVec 32) (s : State) : Host.Outcome State Fault Refusal :=
  run (fun d => d.cmdNow who tag 0x04 (fun _ d => (d, 0, d.getState.1, d.getState.2))) s

end Sys2Proof.Machine
end

