-- ==== Sys2Proof/Machine/Flash.lean ====
section
/-! DEFINITION. The checkpoint flash: blocks, channels, wear, and foreign generations that arrive (R415, R421–R424, R437). -/

namespace Sys2Proof.Machine

def blockSize : Nat := 67108864
/-- A state cut into blocks (R424). -/
def blocksOf (state : List Byte) : List (List Byte) := (cutBytes blockSize state).map (·.2)

/-- The length of the manifest of a state of n bytes. -/
def manifestLen (n : Nat) : Nat := 192 + 16 * ((n + blockSize - 1) / blockSize) + 64

/-- The copies of MEM_FLASH_STATUS are on base dies 4 and 11 (R437). -/
def flashDies : List Nat := [4, 11]
def Dev.flashDisabled (d : Dev) : Bool := flashDies.any (fun x => d.fld MEM_FLASH_STATUS.STATE x == 2)
def popcount8 (v : Nat) : Nat := ((List.range 8).filter (bitOf v)).length
/-- Channels that still work, of 16. -/
def Dev.channels (d : Dev) : Nat := 16 - flashDies.foldl (fun s x => s + popcount8 (d.fld MEM_FLASH_STATUS.CH_FAIL x)) 0

/-- The flash is disabled (R423): generations go to the partner's flash from then on. -/
def Dev.disableFlash (d : Dev) : Dev :=
  if d.flashDisabled then d
  else ((flashDies.foldl (fun d x => d.setFld MEM_FLASH_STATUS.STATE 2 x) d).setFld SVC_CKPT_STATUS.FOREIGN 1).raise 0xA011

/-- Bytes written to the flash, and the wear they make against the rated 82 PB (R423). -/
def Dev.wear (d : Dev) (n : Nat) : Dev :=
  let w := d.flashBytes + n
  let pct := Nat.min 100 (w * 100 / 82000000000000000)
  let old := d.fld MEM_FLASH_STATUS.WEAR_PCT 4
  let d := flashDies.foldl (fun d x => d.setFld MEM_FLASH_STATUS.WEAR_PCT pct x) (d.withFlashBytes w)
  let d := if old < 90 ∧ 90 ≤ pct then (flashDies.foldl (fun d x => d.setFld MEM_FLASH_STATUS.STATE 1 x) d).raise 0xA010 else d
  if old < 100 ∧ pct = 100 then d.disableFlash else d

/-- FLASH_CHANNEL_FAILURE (R415, R423): one bit of CH_FAIL for each channel (DEDUCED, log 48). -/
def Dev.channelFails (d : Dev) (x ch : Nat) : Dev :=
  if !flashDies.contains x ∨ bitOf (d.fld MEM_FLASH_STATUS.CH_FAIL x) ch then d
  else
    let d := (d.setFld MEM_FLASH_STATUS.CH_FAIL (d.fld MEM_FLASH_STATUS.CH_FAIL x + 2 ^ ch) x).raise 0xA012
    if d.channels < 8 then d.disableFlash else d

def execFlashChannelFailure (x : Die) (ch : Fin 8) (s : State) : Host.Outcome State Fault Refusal :=
  run (fun d => d.channelFails x ch) s

/-- The bytes of the checkpoint flash: 32 TB (R1). -/
def flashCapacity : Nat := 32000000000000
/-- A generation slot: the state rounded up to 64 MiB (R421). -/
def slotBytes (n : Nat) : Nat := (n + blockSize - 1) / blockSize * blockSize
/-- What the program copy and the generations take (R421). -/
def Dev.flashUsed (d : Dev) (gs : List Gen) : Nat := gs.foldl (fun s g => s + slotBytes g.state.length) d.programCopy.length

/-- The newest generation that counts for a restore; on a rank that is not told which are pod-complete, its newest. -/
def newestGen (gs : List Gen) : Nat :=
  let best (l : List Gen) := l.foldl (fun m g => Nat.max m g.num) 0
  if gs.any (·.podComplete) then best (gs.filter (·.podComplete)) else best gs

/-- The generations without the oldest one of a rank that is neither pinned nor the newest that counts (R422), none when
there is none such. -/
def dropOldest (gs : List Gen) (rank : Nat) : Option (List Gen) :=
  let own := gs.filter (fun g => g.rank == rank)
  match own.filter (fun g => !g.pinned && decide (g.num ≠ newestGen own)) with
  | [] => none
  | g :: rest =>
    let old := rest.foldl (fun m (x : Gen) => Nat.min m x.num) g.num
    some (gs.filter (fun x => !(x.rank == rank && x.num == old)))

/-- The slot rule (R1, R421, R422): the generations that remain once there is room for another of `n` bytes of a rank, none when
no slot qualifies. The last argument bounds the slots given up. -/
def Dev.roomFor (d : Dev) (rank n : Nat) (gs : List Gen) : Nat → Option (List Gen)
  | 0 => none
  | k + 1 =>
    if (gs.filter (fun g => g.rank == rank)).length < d.fld SVC_CKPT_CFG.KEEP ∧ d.flashUsed gs + slotBytes n ≤ flashCapacity then some gs
    else match dropOldest gs rank with
      | none => none
      | some gs => Dev.roomFor d rank n gs k
def Dev.makeRoom (d : Dev) (rank n : Nat) : Option (List Gen) := d.roomFor rank n d.pod.gens (d.pod.gens.length + 1)

/-- A foreign generation whose pieces have all come is kept for the ward, under the slot rule as its own would be (R422, R423). -/
def Dev.gatherForeign (d : Dev) : Dev :=
  let bs := d.pod.foreignIn.flatMap (·.2)
  let n := d.wardBytes
  if n = 0 ∨ bs.length < n + manifestLen n then d
  else
    let m := bs.drop n
    let g : Gen := { num := fieldAt m 8 4, step := fieldAt m 12 6, rank := d.ward, state := bs.take n, manifest := m }
    match d.makeRoom d.ward n with
    | none => (d.withPod { d.pod with foreignIn := [] }).raise 0x1117
    | some gs => (d.withPod { d.pod with foreignIn := [], gens := gs ++ [g] }).wear n

end Sys2Proof.Machine
end

