-- ==== Sys2Proof/Machine/Sieve.lean ====
section
/-! DEFINITION. The sieve's narrowing direction (R102–R118, R247, R248): plain, narrowing and weight conversions. -/

namespace Sys2Proof.Machine

/-! ## Rows -/

/-- The codes of 8 ÷ b elements per byte, the first in the low bits (R314). -/
def packCodes (b : Nat) (codes : List Nat) : List Byte :=
  (List.range ((codes.length * b + 7) / 8)).map (fun i =>
    BitVec.ofNat 8 ((List.range (8 / b)).foldl (fun s j => s + codes.getD (i * (8 / b) + j) 0 % 2 ^ b * 2 ^ (b * j)) 0))

/-- A row of codes written at columns 0 … : elements of a row layout, or the row's place in its packed tiles, where the
columns not given keep their codes and pad positions hold zero bits (R307, R314, R318). -/
def Dev.putCodes (d : Dev) (t : Tensor) (r : Nat) (codes : List Nat) : Dev :=
  if t.layout ≠ 1 then d.putRow t r 0 codes
  else
    let all := (List.range (128 * t.kb)).map (fun c =>
      if c < codes.length then codes.getD c 0 else if c < t.cols then d.code t r c else 0)
    ((List.range t.kb).zip (chunks128 all)).foldl (fun (d : Dev) e =>
      d.fabricWrite (t.base + (r / 128 * t.kb + e.1) * t.codeBytes + r % 128 * t.tileRow) (packCodes t.fmt.bits e.2)) d

/-- The row clip of R110: a, the clip κ × rms where there is one, and c; a row without positions has c = a = 0. -/
def rowClip (kappa : XR) (u : List XR) : XR × Option XR × XR :=
  let fin := u.map (fun v => if v.isFin then v else .zero)
  let a := fin.foldl (fun m v => xmax m v.abs) XR.zero
  let m := treeSum (fin.map (fun v => wmul v v))
  let rms := wsqrt (wdiv m (.ofInt (Nat.max 1 u.length)))
  if !kappa.isFin ∨ !m.isFin ∨ rms.isZero then (a, none, a)
  else
    let l := wmul kappa rms
    (a, some l, if a.lt l then a else l)

/-- f of R111 and the divisor t of R108 for a scale code. -/
def whiskF (w : Bool) : XR := if w then invSqrt128 else .one
def divisor (w : Bool) (s : Nat) : XR := if w then wmul (decG16 s) sqrt128 else decG16 s

/-- The order of the sieve's directions on its blocks: a narrowing command's cycles (R103). -/
def narrowCycles (live width : Nat) (plain : Bool) : Nat :=
  let c := cdiv width 128
  if live = 0 then 24
  else if plain then 24 + 40 + live * c
  else if width ≤ 32768 then 24 + 40 + (live + 1) * c
  else 24 + 40 + 2 * live * c

/-- The first drip overflow of a command or a matrix (R115, R118). -/
def Dev.dripOvf (d : Dev) (p : Nat) : Dev := (d.setFld SIV_STATUS.DRIP_OVF 1 p).raise 0x5003

def Desc.cRndM (x : Desc) : Rnd := (Rnd.ofCode x.cRnd).getD .rne

/-- What a CVT reads of its source and mask. -/
def Dev.cvtReads (d : Dev) (p : Nat) (x : Desc) : List (Nat × Nat) :=
  ((d.tensor p (x.f 16 3)).map (fun t => t.reads x.cRows)).getD [] ++
    (if x.f 22 3 % 0x10000 = noOp then [] else ((d.tensor p (x.f 22 3)).map (fun t => t.reads 0)).getD [])

def Dev.cvtLive (d : Dev) (p : Nat) (x : Desc) : List Nat :=
  let mask := d.tensor p (x.f 22 3)
  (List.range x.cRows).filter (d.live mask)

/-! ## KIND plain (R52, R248) -/

/-- One element of a plain conversion: code, flags and its tally. An escape without a drip entry converts to +0 with ESC set
(R309). Between G16, W32 and I32 an explicit SCALE scales nothing, because R53 gives these formats no scale (DESIGN CHOICE, log
96). -/
def Dev.plainElem (d : Dev) (p : Nat) (x : Desc) (src dst : Tensor) (r c : Nat) : Nat × Flags × Tally :=
  let toTarget := x.cExpl && x.cScalesTarget
  let toSource := x.cExpl && !x.cScalesTarget
  let exS := (decG16 x.cScale).val
  let exZ := signed 8 x.cZp
  let sS := if toSource then exS else d.rowScale src r
  let sZ := if toSource then exZ else d.rowZp src r
  let scaled := [3, 4, 5].contains dst.fmtCode
  let tS := if toTarget then exS else if scaled then d.rowScale dst r else 1
  let tZ := if toTarget then exZ else d.rowZp dst r
  let code := d.code src r c
  let esc := src.fmt.isQ && (expand src.fmt code).2 && dst.fmt != .I8
  let drip := if esc then d.dripAt src r c else none
  let v : XR :=
    if src.fmt.isQ ∧ (expand src.fmt code).2 then (match drip with | some g => decG16 g | none => .zero)
    else decode src.fmt sS sZ code
  let cv : Conv := { dst := dst.fmt, rnd := x.cRndM, intWrap := x.cWrap, fltNsat := x.cNsat, scale := tS, zp := tZ
                     rand := d.srBits p x.layer x.cRndM (x.cRndBase + r * x.cCols + c) }
  let o : Nat × Flags := match pairKind src.fmt dst.fmt with
    | some .copy => (copyCode src.fmt code, {})
    | some .exact | some .exactEsc => let o := convert cv v; (o.1, { o.2 with ovf := false })
    | _ => convert cv v
  let res := if dst.fmt.isQ then v else decode dst.fmt tS tZ o.1
  (o.1, { o.2 with esc := o.2.esc || (esc && drip.isNone) }, ⟨v, v, res, o.2.ovf, false, false⟩)

def Dev.cvtPlain (d : Dev) (p : Nat) (i : Issued) : Dev :=
  let x := i.desc
  match d.tensor p (x.f 16 3), d.tensor p (x.f 19 3) with
  | some src, some dst =>
    let d0 := d
    let rows := (d.cvtLive p x).map (fun r => (r, (List.range x.cCols).map (d0.plainElem p x src dst r)))
    let d := rows.foldl (fun (d : Dev) e => d.putCodes dst e.1 (e.2.map (·.1))) d
    let cnt := rows.foldl (fun (c : RecCnt) e => c.addRow (e.2.map (·.2.2))) {}
    let d := d.putRec p x.cStat (recBytes x (outDir x 1 false) (fmtByte x.cDstFmt x.cRnd) 0 cnt 0 0 0 0)
    let d := d.item p 2 x 0 ⟨narrowCycles rows.length x.cCols true, 0, []⟩
    d.finish p i
  | _, _ => d

def isCvt (kind : Nat) (x : Desc) : Bool := x.opcode == 0x30 && x.cKind == kind

def execCvtPlain (p : Tile) (s : State) : Host.Outcome State Fault Refusal :=
  run (fun d => (d.runUnit p 2 (isCvt 0) (fun i d =>
    d.startChecked p i (d.readErrors (d.cvtReads p i.desc)) (fun d => d.cvtPlain p i))).liftHold p) s

/-! ## KIND narrowing (R105–R116) -/

/-- A narrowed row: codes, tallies, scale, zero point, drip entries and drip overflows. -/
structure NarrowRow where
  codes : List Nat
  tallies : List Tally
  scale : Nat
  zp : Int
  drips : List (Nat × Nat)
  ovf : Nat
  deriving DecidableEq, Repr

/-- Scale, zero point and the outlier bounds lo, hi of a row (R111–R113). The zero point of a U8 row rounds the exact quotient
−lo ÷ s once; under a scale clamped to 0x7EFF it may exceed 127 and is then used as it stands (DESIGN CHOICE, log 97). -/
def rowScaling (dst : Fmt) (whisk : Bool) (kappa : XR) (u : List XR) : Nat × Int × XR × XR :=
  let (_, lim, c) := rowClip kappa u
  let q := wmul c (whiskF whisk)
  match dst with
  | .U8 =>
    let fin := u.filter (·.isFin)
    let lo := fin.foldl (fun m v => if v.lt m then v else m) (fin.headD .zero)
    let hi := fin.foldl xmax (fin.headD .zero)
    let (lo, hi) := match lim with
      | some l => (xmax lo l.neg, if l.lt hi then l else hi)
      | none => (lo, hi)
    let lo := if XR.zero.lt lo then .zero else lo
    let hi := xmax .zero hi
    let s := ceilG16 (xmax (wdiv (wsub hi lo) (.ofInt 255)) (wdiv lo.neg (.ofInt 127)))
    (s, roundInt .rne 0 (-lo.val / (decG16 s).val), lo, hi)
  | .E8 => (ceilPow2G16 (wdiv q (.ofInt 480)), 0, c.neg, c)
  | _ => (ceilG16 (wdiv q (.ofInt 127)), 0, c.neg, c)

/-- Stages 3–6 of one row: u its stage-1 output, `cap` the room of its drip list, `pos` the logical position of its first
result. -/
def Dev.narrowRow (d : Dev) (p : Nat) (x : Desc) (dst : Fmt) (whisk : Bool) (kappa : XR) (cap pos : Nat) (u : List XR) : NarrowRow :=
  let (s, z, lo, hi) := rowScaling dst whisk kappa u
  let t := divisor whisk s
  ((List.range u.length).zip u).foldl (fun (r : NarrowRow) e =>
    let v := e.2
    let cv : Conv := { dst := dst, rnd := x.cRndM, intWrap := x.cWrap, fltNsat := x.cNsat, scale := t.val, zp := z
                       rand := d.srBits p x.layer x.cRndM (pos + e.1) }
    let out := v.isFin && (v.lt lo || hi.lt v)
    let ent := if !out then v else if v.lt lo then lo else hi
    let o := convert cv ent
    let back := wmul (rw (decode dst 1 z o.1)) t
    let room := out && decide (r.drips.length < cap)
    let δ := encG16 (rg (wmul (wsub v back) (whiskF whisk)))
    { r with
      codes := r.codes ++ [o.1], tallies := r.tallies ++ [⟨v, ent, back, o.2.ovf, room, false⟩]
      drips := if room then r.drips ++ [(e.1, δ)] else r.drips, ovf := if out && !room then r.ovf + 1 else r.ovf })
    ⟨[], [], s, z, [], 0⟩

/-- The drip list of a row (R311). -/
def dripBytes (es : List (Nat × Nat)) : List Byte :=
  leBytes 1 es.length ++ List.replicate 31 0 ++ es.flatMap (fun e => leBytes 4 e.1 ++ leBytes 2 e.2 ++ [0, 0])

/-- The tallies of a whisked row, marked where the input of their position was non-finite: an element counts once (R105,
R119). -/
def markWild (whisk : Bool) (xs : List XR) (ts : List Tally) : List Tally :=
  if whisk then ((List.range ts.length).zip ts).map (fun e => { e.2 with wild := !(xs.getD e.1 .zero).isFin }) else ts

/-- A narrowed row written: codes, scale, zero point, drip list (R231, R308, R311). A record without SCALE keeps no scale and one
without HAS_ZP no zero point, and the codes are formed with them all the same; of a zero point beyond I8 the low 8 bits are
stored (DESIGN CHOICE, log 97, log 98). -/
def Dev.putNarrow (d : Dev) (t : Tensor) (r : Nat) (n : NarrowRow) : Dev :=
  let d := d.putRow t r 0 n.codes
  let d := if t.scale = 0 then d else d.fabricWrite (t.scale + 2 * r) (leBytes 2 n.scale)
  let d := if t.scale ≠ 0 ∧ t.hasZp then d.fabricWrite (t.scale + (2 * t.rows + 31) / 32 * 32 + r) (leBytes 1 (unsigned 8 n.zp)) else d
  if t.hasDrip then d.fabricWrite (t.drip + 288 * r) (dripBytes n.drips) else d

/-- The checks of a narrowing CVT at its start (R107, R122, R232). -/
def Dev.narrowChk (d : Dev) (p : Nat) (x : Desc) : Chk :=
  let lt := d.ltab p x.layer
  let dst := d.tensor p (x.f 19 3)
  firstOf [badField (!kappaOk lt.kappa), badFormat (lt.whisk && x.cDstFmt == 4),
    bounds (lt.whisk && dst.any (fun t => decide (128 * cdiv x.cCols 128 > t.cols))), d.readErrors (d.cvtReads p x)]

def Dev.cvtNarrow (d : Dev) (p : Nat) (i : Issued) : Dev :=
  let x := i.desc
  match d.tensor p (x.f 16 3), d.tensor p (x.f 19 3) with
  | some src, some dst =>
    let lt := d.ltab p x.layer
    let cap := if dst.hasDrip then lt.dripCap else 0
    let d0 := d
    let kp := if lt.whisk then 128 * cdiv x.cCols 128 else x.cCols
    let pin := d.flag SIV_CTRL.PIN p
    let d := if x.chkEn then d.modTile p (fun t => t.modGroup i.n (fun g => { g with pinned := pin })) else d
    let rows := (d.cvtLive p x).map (fun r =>
      let xs := d0.row src r x.cCols
      let u := if lt.whisk then d0.whisk p (d0.stepOf p) x.layer xs else xs
      (r, xs,
        d0.narrowRow p x dst.fmt lt.whisk (decG16 lt.kappa) cap (x.cRndBase + r * kp) u))
    let d := rows.foldl (fun (d : Dev) e => d.putNarrow dst e.1 e.2.2) d
    let cnt := rows.foldl (fun (c : RecCnt) e =>
      let c := c.addRow (markWild lt.whisk e.2.1 e.2.2.tallies)
      { c with drip := c.drip + e.2.2.drips.length, dripOvf := c.dripOvf + e.2.2.ovf }) {}
    let d := if cnt.dripOvf > 0 then d.dripOvf p else d
    let d := d.putRec p x.cStat (recBytes x (outDir x 1 false) (fmtByte x.cDstFmt x.cRnd) 0 cnt 0 0 0 0)
    let d := d.item p 2 x 0 ⟨narrowCycles rows.length kp false, 0, []⟩
    d.finish p i
  | _, _ => d

def execCvtNarrowing (p : Tile) (s : State) : Host.Outcome State Fault Refusal :=
  run (fun d => (d.runUnit p 2 (isCvt 1) (fun i d =>
    d.startChecked p i (d.narrowChk p i.desc) (fun d => d.cvtNarrow p i))).liftHold p) s

/-! ## Weight conversion (R54, R111, R117, R118) -/

/-- A converted weight row: its inputs, its stage-1 output, divisor, scale, codes and flags. -/
structure WeightRow where
  row : Nat
  xs : List XR
  u : List XR
  t : XR
  scale : Nat
  outs : List (Nat × Flags)
  deriving DecidableEq, Repr

/-- The row scale of a weight row (R111). -/
def weightScale (dst : Fmt) (whisk : Bool) (kappaW : XR) (u : List XR) : Nat :=
  let f := whiskF whisk
  let (_, _, c) := rowClip kappaW u
  match dst with
  | .Q1 => ceilG16 (wmul (wdiv (treeSum (u.map (fun v => if v.isFin then v.abs else .zero))) (.ofInt (Nat.max 1 u.length))) f)
  | .Q2 => ceilG16 (wmul c f)
  | .Q4 => ceilG16 (wdiv (wmul c f) (.ofInt 7))
  | _ => ceilG16 (wdiv (wmul c f) (.ofInt 127))

def Dev.weightRow (d : Dev) (p layer wstep : Nat) (rnd : Rnd) (wrap : Bool) (dst : Fmt) (sr : Nat → Nat → Nat) (row : Nat) (xs : List XR) :
    WeightRow :=
  let lt := d.ltab p layer
  let u := if lt.whisk then d.whisk p wstep layer xs else xs
  let s := weightScale dst lt.whisk (decG16 lt.kappaW) u
  let t := divisor lt.whisk s
  ⟨row, xs, u, t, s, ((List.range u.length).zip u).map (fun e =>
      convert { dst := dst, rnd := rnd, intWrap := wrap, scale := t.val, rand := d.srBits p layer rnd (sr row e.1) } e.2)⟩

/-- The drip entries of one tile after a conversion (R117): those below the first converted row stay, the new escapes
follow while there is room. Answers the table, the entries taken and the escapes that found it full. -/
def tileTable (hasDrip : Bool) (old : List (Nat × Nat × Nat)) (first : Nat) (esc : List (Nat × Nat × Nat)) :
    List (Nat × Nat × Nat) × Nat :=
  let keep := old.filter (fun e => e.1 < first)
  let room := if hasDrip then 1024 - keep.length else 0
  (keep ++ esc.take room, Nat.min esc.length room)

/-- The ranges of the pad rows of a matrix's last row block: codes, scales, column sums and partial sums (R318). -/
def padRanges (te : Tensor) : List (Nat × Nat) :=
  let j := te.rows % 128
  if j = 0 then []
  else
    let n := 128 - j
    let rb := te.rb - 1
    let side := te.sideAddr rb
    [(side + 2 * j, 2 * n), (side + 256 + 4 * j, 4 * n)] ++ (List.range te.kb).flatMap (fun kb =>
      [(te.base + (rb * te.kb + kb) * te.codeBytes + j * te.tileRow, n * te.tileRow), (te.tileSide rb kb + 32 + 2 * j, 2 * n)])

/-- The pad rows hold zeros (R318). -/
def Dev.padRows (d : Dev) (te : Tensor) : Dev :=
  (padRanges te).foldl (fun (d : Dev) e => d.fabricWrite e.1 (List.replicate e.2 0)) d

/-- Rows of a weight matrix converted into its packed tiles (R117, R118, R313–R318): codes, row scales, column sums,
partial sums and drip tables written, pad rows with the last row block; the record's counts answered. Rows come in ascending
order. -/
def Dev.convertWeights (d : Dev) (p layer wstep : Nat) (rnd : Rnd) (wrap : Bool) (te : Tensor) (sr : Nat → Nat → Nat) (rows : List (Nat × List XR)) :
    Dev × RecCnt :=
  let whisk := (d.ltab p layer).whisk
  let f := whiskF whisk
  let ws := rows.map (fun r => d.weightRow p layer wstep rnd wrap te.fmt sr r.1 r.2)
  let blocks := (List.range te.rb).filter (fun rb => ws.any (fun w => w.row / 128 == rb))
  -- per tile: its table, how many entries are kept, and the escapes that have an entry
  let tiles : List ((Nat × Nat) × List (Nat × Nat × Nat) × Nat × Nat × Nat × List (Nat × Nat)) := blocks.flatMap (fun rb =>
    let mine := ws.filter (fun w => w.row / 128 == rb)
    let first := (mine.headD ⟨0, [], [], .zero, 0, []⟩).row % 128
    (List.range te.kb).map (fun kb =>
      let esc := mine.flatMap (fun w => ((List.range w.outs.length).zip (w.outs.zip w.u)).filterMap (fun e =>
        if e.1 / 128 = kb ∧ e.2.1.2.esc then some (w.row % 128, e.1 % 128, encG16 (rg (wmul e.2.2 f))) else none))
      let (tab, n) := tileTable te.hasDrip (d.tileDrips te rb kb) first esc
      ((rb, kb), tab, n, esc.length - n, first, (esc.take n).map (fun e => (128 * rb + e.1, 128 * kb + e.2.1)))))
  let held := tiles.flatMap (fun e => e.2.2.2.2.2)
  let final (w : WeightRow) : List (Nat × Tally) := ((List.range w.outs.length).zip (w.outs.zip w.u)).map (fun e =>
    let c := e.2.1.1
    let fl := e.2.1.2
    let v := e.2.2
    if fl.esc then
      if held.contains (w.row, e.1) then (c, ⟨v, v, v, fl.ovf, true, false⟩)
      else
        let q : Int := if !v.isFin then 0 else if v.sign then -qMax te.fmt else qMax te.fmt
        (unsigned te.fmt.bits q, ⟨v, v, wmul (.ofInt q) w.t, fl.ovf, false, false⟩)
    else (c, ⟨v, v, wmul (.ofInt (expand te.fmt c).1) w.t, fl.ovf, false, false⟩))
  let outs := ws.map (fun w => (w, final w))
  let d := outs.foldl (fun (d : Dev) e =>
    let w := e.1
    let d := d.putCodes te w.row (e.2.map (·.1))
    let sums := (List.range te.kb).map (fun kb => (List.range (Nat.min 128 (te.cols - 128 * kb))).foldl (fun (s : Int) k =>
      s + (expand te.fmt (d.code te w.row (128 * kb + k))).1) 0)
    let side := te.sideAddr (w.row / 128)
    let d := d.fabricWrite (side + 2 * (w.row % 128)) (leBytes 2 w.scale)
    let d := d.fabricWrite (side + 256 + 4 * (w.row % 128)) (leBytes 4 (unsigned 32 (sums.foldl (· + ·) 0)))
    ((List.range te.kb).zip sums).foldl (fun (d : Dev) s =>
      d.fabricWrite (te.tileSide (w.row / 128) s.1 + 32 + 2 * (w.row % 128)) (leBytes 2 (unsigned 16 s.2))) d) d
  let d := tiles.foldl (fun (d : Dev) e =>
    let ((rb, kb), tab, _, ovr, first, _) := e
    let a := te.tileSide rb kb
    let old := if first = 0 then 0 else d.nat (a + 2) 2
    let d := d.fabricWrite a (leBytes 2 tab.length ++ leBytes 2 (Nat.min (old + ovr) 65535) ++ List.replicate 28 0)
    if te.hasDrip then
      d.fabricWrite (te.dripSlot rb kb) (tab.flatMap (fun e => leBytes 4 (e.2.2 * 65536 + e.1 * 128 + e.2.1)))
    else d) d
  let d := if blocks.contains (te.rb - 1) then d.padRows te else d
  let cnt := outs.foldl (fun (c : RecCnt) e => c.addRow (markWild whisk e.1.xs (e.2.map (·.2)))) {}
  (d, { cnt with
    drip := tiles.foldl (fun s e => s + e.2.2.1) 0
    dripOvf := tiles.foldl (fun s e => s + e.2.2.2.1) 0 })

/-- The checks of a weight conversion at its start (R122, R232). -/
def Dev.weightChk (d : Dev) (p : Nat) (x : Desc) : Chk :=
  let lt := d.ltab p x.layer
  let dst := d.tensor p (x.f 19 3)
  firstOf [badField (!kappaOk lt.kappaW),
    bounds (lt.whisk && dst.any (fun t => decide (128 * cdiv x.cCols 128 > t.cols))), d.readErrors (d.cvtReads p x)]

def Dev.cvtWeight (d : Dev) (p : Nat) (i : Issued) : Dev :=
  let x := i.desc
  match d.tensor p (x.f 16 3), d.tensor p (x.f 19 3) with
  | some src, some dst =>
    let rows := (d.cvtLive p x).map (fun r => (r, d.row src r x.cCols))
    let kp := if (d.ltab p x.layer).whisk then 128 * cdiv x.cCols 128 else x.cCols
    -- next-version weights are used in step n + 1 (R106)
    let wstep := d.stepOf p + (if dst.versioned then dst.vsel else 0)
    let res := d.convertWeights p x.layer wstep x.cRndM x.cWrap dst (fun r k => x.cRndBase + r * kp + k) rows
    let cnt := res.2
    let d := res.1
    let d := if cnt.dripOvf > 0 then d.dripOvf p else d
    let d := d.putRec p x.cStat (recBytes x (outDir x 4 false) (fmtByte x.cDstFmt x.cRnd) 0 cnt 0 0 0 0)
    let d := d.item p 2 x 0 ⟨narrowCycles rows.length kp false, 0, []⟩
    d.finish p i
  | _, _ => d

def execCvtWeightConversion (p : Tile) (s : State) : Host.Outcome State Fault Refusal :=
  run (fun d => (d.runUnit p 2 (isCvt 2) (fun i d =>
    d.startChecked p i (d.weightChk p i.desc) (fun d => d.cvtWeight p i))).liftHold p) s

end Sys2Proof.Machine
end

