-- ==== Sys2Proof/Machine/Exchange.lean ====
section
/-! DEFINITION. The exchange primitives (R353–R357, R363–R365), the reduction units (R358–R362) and the receipt of packets
(R349, R350), with the tender stream's receiver (R409). -/

namespace Sys2Proof.Machine

/-! ## The local side (R354) -/

/-- Bits of one element of the local side: rows of a packed Q format hold 1, 2 or 4 (R309), packed tiles and masks travel
as bytes (R55). -/
def Dev.xEbits (d : Dev) (p : Nat) (x : Desc) : Nat :=
  if x.xToSlot then 32
  else match d.tensor p x.xLocal with
    | some t => if t.layout = 1 ∨ t.layout = 2 then 8 else if t.layout = 3 then 32 else t.fmt.bits
    | none => 8
/-- Bytes that hold one element. -/
def Dev.xEsize (d : Dev) (p : Nat) (x : Desc) : Nat := (d.xEbits p x + 7) / 8
/-- The local format's code. -/
def Dev.xFmt (d : Dev) (p : Nat) (x : Desc) : Nat :=
  if x.xToSlot then 7 else ((d.tensor p x.xLocal).map (·.fmtCode)).getD 3
/-- Elements of the stream. -/
def Dev.xCount (d : Dev) (p : Nat) (x : Desc) : Nat := 8 * x.xLength / Nat.max 1 (d.xEbits p x)

/-- Row and column of stream element i. -/
def Dev.xPos (d : Dev) (p : Nat) (x : Desc) (i : Nat) : Nat × Nat :=
  let pos := 8 * x.xLocalOff / Nat.max 1 (d.xEbits p x) + i
  let cols := if x.xToSlot then d.fld ACB_SLOT_GEOM.COLS p x.xSlot else ((d.tensor p x.xLocal).map (·.cols)).getD 1
  (pos / Nat.max cols 1, pos % Nat.max cols 1)

/-- The address of stream element i: of the byte that holds it. -/
def Dev.xAddr (d : Dev) (p : Nat) (x : Desc) (i : Nat) : Nat :=
  let (r, c) := d.xPos p x i
  if x.xToSlot then d.slotAddr p x.xSlot r c
  else match d.tensor p x.xLocal with
    | some t => if t.layout = 1 ∨ t.layout = 2 then t.base + x.xLocalOff + i
        else if t.layout = 0 then t.addr r 0 + c * t.fmt.bits / 8 else t.addr r c
    | none => 0

/-- The lowest bit of stream element i within its byte (R309, R314). -/
def Dev.xShift (d : Dev) (p : Nat) (x : Desc) (i : Nat) : Nat := (d.xPos p x i).2 * d.xEbits p x % 8

/-- The code of stream element i, and its value. -/
def Dev.xCode (d : Dev) (p : Nat) (x : Desc) (i : Nat) : Nat :=
  d.nat (d.xAddr p x i) (d.xEsize p x) / 2 ^ d.xShift p x i % 2 ^ d.xEbits p x
/-- Element i of the local side, as `d0` places it, replaced; the other codes of its byte keep their bits. -/
def Dev.xPut (d d0 : Dev) (p : Nat) (x : Desc) (i code : Nat) : Dev :=
  let a := d0.xAddr p x i
  let n := d0.xEsize p x
  let s := d0.xShift p x i
  let w := d0.xEbits p x
  let old := d.nat a n
  d.fabricWrite a (leBytes n (old - old / 2 ^ s % 2 ^ w * 2 ^ s + code % 2 ^ w * 2 ^ s))
def Dev.xValue (d : Dev) (p : Nat) (x : Desc) (i : Nat) : XR :=
  let (r, c) := d.xPos p x i
  if x.xToSlot then d.slotElem p x.xSlot r c
  else match d.tensor p x.xLocal with
    | some t => if t.layout = 1 ∨ t.layout = 2 then decode .I8 1 0 (d.xCode p x i) else d.elem t r c
    | none => .zero

/-- What reading elements a … b − 1 of the local side meets first. -/
def Dev.xReadError (d : Dev) (p : Nat) (x : Desc) (a b : Nat) : Option Nat :=
  d.readErrors ((List.range (b - a)).map (fun k => (d.xAddr p x (a + k), d.xEsize p x)))

/-! ## The wire (R348, R356) -/

/-- The scale of a segment (R356, R113). -/
def segScale (wire : Nat) (vs : List XR) : Nat :=
  let a := (vs.foldl (fun m v => xmax m v.abs) XR.zero).val
  if vs.any (fun v => !v.isFin) then 0x7F80
  else if a = 0 then 0x0100
  else if wire = 3 then ceilG16 (.fin false (a / 127)) else ceilPow2G16 (.fin false (a / 480))

/-- One segment's codes. -/
def segCodes (wire : Nat) (rnd : Rnd) (nsat wrap : Bool) (rand : Nat → Nat) (pos : Nat) (vs : List XR) : Nat × List Nat :=
  let s := segScale wire vs
  (s, if s = 0x7F80 then vs.map (fun _ => 0)
    else ((List.range vs.length).zip vs).map (fun e =>
      (convert { dst := if wire = 3 then .I8 else .E8, rnd := rnd, intWrap := wrap, fltNsat := nsat, scale := (decG16 s).val
                 rand := rand (pos + e.1) } e.2).1))

/-- A payload in WIRE_FMT of values from stream position `pos`: G16 codes, or a padded scale block and codes (R348). -/
def wirePayload (wire : Nat) (rnd : Rnd) (nsat wrap : Bool) (rand : Nat → Nat) (pos : Nat) (vs : List XR) : List Byte :=
  if wire = 6 then
    ((List.range vs.length).zip vs).flatMap (fun e =>
      leBytes 2 (convert { dst := .G16, rnd := rnd, fltNsat := nsat, rand := rand (pos + e.1) } e.2).1)
  else
    let segs := chunks128 vs
    let cs := ((List.range segs.length).zip segs).map (fun e => segCodes wire rnd nsat wrap rand (pos + 128 * e.1) e.2)
    padTo8 (cs.flatMap (fun c => leBytes 2 c.1)) ++ cs.flatMap (fun c => c.2.flatMap (leBytes 1))

/-- Codes of w bits each, packed from the lowest bit on, in whole bytes (R55, R309). -/
def packBits (w : Nat) (cs : List Nat) : List Byte :=
  leBytes ((cs.length * w + 7) / 8) (cs.foldr (fun c n => n * 2 ^ w + c % 2 ^ w) 0)

/-- The codes and values that a packet carries (R348, R357). -/
def unwire (pk : Packet) : List (Nat × XR) :=
  let n := pk.nelem.toNat
  let f := (Fmt.ofCode pk.wire).getD .I8
  if pk.scaled then
    let ns := (n + 127) / 128
    let off := (2 * ns + 7) / 8 * 8
    (List.range n).map (fun k =>
      let c := fieldAt pk.payload (off + k) 1
      let s := decG16 (fieldAt pk.payload (2 * (k / 128)) 2)
      (c, if s.isFin then decode f s.val 0 c else .nan))
  else
    let w := f.bits
    (List.range n).map (fun k =>
      let c := fieldAt pk.payload (w * k / 8) ((w + 7) / 8) / 2 ^ (w * k % 8) % 2 ^ w
      (c, decode f 1 0 c))

/-- Elements per packet: 4,096 B of carried bits, or 31 segments (R348). -/
def perPacket (scaled : Bool) (bits : Nat) : Nat := if scaled then 3968 else 32768 / Nat.max 1 bits

/-! ## Packets of an exchange -/

/-- A packet of tile p's exchange to a rank. -/
def Dev.xchPacket (d : Dev) (p : Nat) (x : Desc) (ptype vc dst : Nat) : Packet :=
  { ptype := BitVec.ofNat 4 ptype, vc := BitVec.ofNat 2 vc, pflags := 0, src := BitVec.ofNat 12 d.rank
    dst := BitVec.ofNat 12 dst, group := BitVec.ofNat 8 x.xGroup, alive := 0
    epoch := BitVec.ofNat 16 (d.fld CPL_GROUP.EPOCH (p / 5) x.xGroup), tag := BitVec.ofNat 16 x.xTag
    dstL := BitVec.ofNat 6 ((d.engOf p).getD 0), fmts := BitVec.ofNat 8 (16 * x.xDeliver + x.xWire), sg := 0, hop := 0, pseq := 0
    offset := 0, nelem := 0, total := 0, payload := [], crc := 0 }

def Desc.xRndM (x : Desc) : Rnd := (Rnd.ofCode x.xRnd).getD .rne

/-- The random bits of a draw at index RND_BASE + i (R208, R357). -/
def Dev.xRand (d : Dev) (p : Nat) (x : Desc) (i : Nat) : Nat := d.srBits p x.layer x.xRndM (x.xRndBase + i)

def TileSt.putXch (t : TileSt) (x : Xch) : TileSt := { t with xchs := t.xchs.map (fun y => if y.n = x.n then x else y) }
def TileSt.dropXch (t : TileSt) (x : Xch) : TileSt := { t with xchs := t.xchs.filter (fun y => y.n ≠ x.n) }
def Dev.putXch (d : Dev) (p : Nat) (x : Xch) : Dev := d.modTile p (fun t => t.putXch x)


/-- A tile's status after one of its exchanges has moved on. -/
def Dev.settle (d : Dev) (p : Nat) : Dev := ((d.sync p).liftHold p).rduSync

/-- The streams received on an engine's behalf start anew with its exchange (R347). -/
def Dev.newStream (d : Dev) (data : Bool) (l group tag : Nat) (src : Option Nat) : Dev :=
  (d.withStreams (d.streams.filter (fun s => !(s.data == data && s.eng == l && s.group == group && s.tag == tag &&
      (match src with | some r => s.src == r | none => true)))))

/-- An exchange is over: the stream of a SEND's CTS may begin again (R347, R355). -/
def Dev.leaveXch (d : Dev) (p : Nat) (x : Xch) : Dev :=
  let d := d.modTile p (fun t => t.dropXch x)
  if x.prim = 0 then d.newStream false ((d.engOf p).getD 0) x.desc.xGroup x.desc.xTag (some x.desc.xPeer) else d

/-- ABORT to the peer of an exchange, or to every member of its group (R365). -/
def Dev.tellAbort (d : Dev) (p : Nat) (x : Xch) : Dev := (d.abortTo x).foldl (fun d r => d.sendAbort p x r) d

/-- An exchange fails (R365): it stops, ABORT goes to its peer or to every member, and the queue halts. -/
def Dev.failXch (d : Dev) (p : Nat) (x : Xch) (code : Nat) (abort : Bool) : Dev :=
  let d := d.leaveXch p x
  let d := if abort then d.tellAbort p x else d
  (d.halt p code x.desc).settle p

/-- An exchange whose source fails its read (R354, R365): a poisoned line is CPL_SRC_POISON beside the controller's own
MEM_LINE_HARD. -/
def Dev.failSource (d : Dev) (p : Nat) (x : Xch) (stop : Nat) : Dev :=
  let d := d.failedRead p stop 6 0 3
  if stopCode stop = 0xA002 then (d.raise 0xA002).failXch p x 0xB00B true else d.failXch p x (stopCode stop) true

/-- What an exchange has written has landed (R272, R283, R295, R297): with an error among the answers it ends, and its queue halts. -/
def Dev.landed (d : Dev) (p : Nat) (x : Xch) (rest : Dev → Dev) : Dev :=
  let r := d.takeAnswers p x.desc 3
  if r.2 then ((r.1.leaveXch p x).tellAbort p x).settle p else rest r.1

/-- The check bytes of the slot that an exchange reads or adds to (R178). -/
def Dev.xchSlot (d : Dev) (p : Nat) (x : Xch) (rd : ReadOutcome) (rest : Dev → Dev) : Dev :=
  if x.desc.xToSlot then
    match d.slotRead p x.desc.xSlot rd with
    | (d, some stop) => d.failSource p x stop
    | (d, none) => rest d
  else rest d

/-- The record of a delivery (R357, R360). -/
def Dev.xchRecord (d : Dev) (p : Nat) (x : Xch) (g : Int) : Dev :=
  let c := { x.cnt with sumSq := 0, sumSqErr := 0 }
  d.putRec p x.desc.xRec (recBytes x.desc (x.desc.pass + 48) (fmtByte x.desc.xDeliver x.desc.xRnd) 0 c 0 0 g 0)

/-- An exchange completes: a slot that it read is EMPTY again, its END record is written, it signals (R167, R238). -/
def Dev.doneXch (d : Dev) (p : Nat) (x : Xch) : Dev :=
  let d := d.leaveXch p x
  let d := if x.desc.xToSlot ∧ x.prim ≠ 1 then d.setFld ACB_SLOT_STATE.STATE 0 p x.desc.xSlot else d
  let d := d.tileRecord p 2 5 (descBody x.desc 0 ++ endBody ⟨0, 0, []⟩)
  (d.finish p ⟨x.n, x.desc, [], x.recs⟩).settle p

/-! ## SEND (R355, R356) -/

/-- Whether the stream's bits are carried unchanged: WIRE_FMT is the local format, and a format that otherwise travels with
scales is also the one delivered (R348, R356). -/
def Dev.xBits (d : Dev) (p : Nat) (x : Desc) : Bool :=
  x.xWire == d.xFmt p x && (!([3, 5].contains x.xWire) || x.xDeliver == x.xWire)

/-- The DATA packets of a SEND, each with the elements it covers. -/
def Dev.sendData (d : Dev) (p : Nat) (x : Desc) (sg : Int) : List (Nat × Nat × Packet) :=
  let n := d.xCount p x
  let bits := d.xBits p x
  let scaled := !bits && x.xWire ≠ 6
  let per := perPacket scaled (if bits then d.xEbits p x else 16)
  let eW := ((Fmt.ofCode x.xDeliver).map (·.bits)).getD 8
  (List.range ((n + per - 1) / per)).map (fun k =>
    let a := per * k
    let b := Nat.min n (a + per)
    let idx := (List.range (b - a)).map (fun i => a + i)
    let pl := if bits then packBits (d.xEbits p x) (idx.map (d.xCode p x))
      else wirePayload x.xWire x.xRndM x.xNsat x.xWrap (d.xRand p x) a (idx.map (d.xValue p x))
    (a, b, { d.xchPacket p x 1 x.xVc x.xPeer with
      pflags := BitVec.ofNat 8 ((if b = n then 1 else 0) + (if scaled then 2 else 0)), sg := BitVec.ofInt 8 sg
      pseq := BitVec.ofNat 32 k, offset := BitVec.ofNat 48 (8 * x.xPeerOff / eW + a), nelem := BitVec.ofNat 16 (b - a)
      total := BitVec.ofNat 32 n, payload := pl }))

/-- A SEND that holds its CTS transmits (R355 steps 3 and 4): unequal counts end it; a poisoned line ends it, the packets
before that line's having been sent (R354). The packets take the VC that the descriptor names (R254, log 112). -/
def Dev.transmit (d : Dev) (p : Nat) (x : Xch) (ctsTotal : Nat) (rd : ReadOutcome) : Dev :=
  if ctsTotal ≠ x.total then d.failXch p x 0xB009 true
  else d.xchSlot p x rd (fun d =>
    let pks := d.sendData p x.desc x.sg
    let good := pks.takeWhile (fun e => (d.xReadError p x.desc e.1 e.2.1).isNone)
    let x' := { x with started := true, unacked := good.map (·.2.2), nextPseq := good.length }
    let d' := (d.putXch p x').sendPackets (p / 5) x'.unacked
    match pks[good.length]? with
    | some e =>
      let code := (d.xReadError p x.desc e.1 e.2.1).getD 0
      d'.failSource p x' code
    | none => if pks.isEmpty then d'.doneXch p x' else d')

/-- The checks of an XCH at its start (R353). -/
def Dev.xchChk (d : Dev) (p : Nat) (x : Desc) : Chk :=
  let pr := x.xPrim
  let noDel := if pr = 2 then x.xDeliverRef % 0x10000 == noOp else x.xDeliverRef == noOp
  let del := d.tensor p x.xDeliverRef
  firstOf
    [ badField (pr ≠ 2 && x.xPeer == d.rank), badField (pr == 2 && x.xPeer ≠ 0), badField (noDel == (pr == 2)),
      badField (!d.flag CPL_GROUP.VALID (p / 5) x.xGroup),
      badField ((d.tile p).xchs.any (fun y => y.prim == pr && y.desc.xGroup == x.xGroup && y.desc.xTag == x.xTag && y.desc.xPeer == x.xPeer)),
      (if pr = 2 then firstOf
        [ badFormat (del.any (fun t => t.fmtCode != x.xDeliver)),
          bounds (del.any (fun t => decide (x.xPeerOff + d.xCount p x * (if x.xDeliver = 7 then 4 else 2) > t.span.2))) ]
      else none),
      (if pr ≠ 1 && !x.xToSlot && (d.gIn p x.xRec).isNone then some (stopAt 0x200A (unit64 p x.xRec)) else none),
      (if x.xToSlot then (if pr = 1 then d.addMisuse p x.xSlot else d.readMisuse p x.xSlot) else none) ]

/-- A started exchange, with the exponent of its elements; a slot that is read is sealed (R167). -/
def Dev.openXch (d : Dev) (p : Nat) (i : Issued) : Xch × Dev :=
  let x := i.desc
  let sg : Int := if x.xPrim = 1 then 0
    else if x.xToSlot then signed 8 (d.fld ACB_SLOT_STATE.SLOT_G p x.xSlot) else (d.gIn p x.xRec).getD 0
  let y : Xch := { n := i.n, desc := x, prim := x.xPrim, total := d.xCount p x, sg := sg, sgR := sg, recs := i.recs }
  let d := if x.xToSlot ∧ x.xPrim ≠ 1 then d.setFld ACB_SLOT_STATE.STATE 2 p x.xSlot else d
  let d := d.tileRecord p 1 5 (descBody x 0 ++ leBytes 6 (d.fld ENG_STEP_CTX.STEP p))
  (y, d.modTile p (fun t => { t with xchs := t.xchs ++ [y] }))

/-- The head of the exchange port's queue starts, if it is the primitive named. -/
def Dev.runXch (d : Dev) (p prim : Nat) (eff : Xch → Dev → Dev) : Dev :=
  ((d.runUnit p 5 (fun x => x.opcode == 0x60 && x.xPrim == prim) (fun i d =>
    d.startChecked p i (d.xchChk p i.desc) (fun d =>
      let o := d.openXch p i
      eff o.1 o.2))).liftHold p).rduSync

def CtsHeld.isFor (c : CtsHeld) (x : Desc) : Bool := c.src == x.xPeer && c.group == x.xGroup && c.tag == x.xTag

def execSend (p : Tile) (s : State) (rd : ReadOutcome := .clean) : Host.Outcome State Fault Refusal :=
  run (fun d => d.runXch p 0 (fun x d =>
    match (d.tile p).cts.find? (fun c => c.isFor x.desc) with
    | none => d
    | some c => (d.modTile p (fun t => { t with cts := t.cts.filter (fun e => !e.isFor x.desc) })).transmit p x c.total rd)) s

/-! ## RECV-INTO (R355, R357) -/

/-- The CTS of a RECV-INTO (R355 step 1); a resend carries the same PSEQ. -/
def Dev.sendCts (d : Dev) (p : Nat) (x : Xch) : Dev :=
  d.sendPacket (p / 5) { d.xchPacket p x.desc 2 2 x.desc.xPeer with pflags := 1, total := BitVec.ofNat 32 x.total }

def execRecvInto (p : Tile) (s : State) : Host.Outcome State Fault Refusal :=
  run (fun d => d.runXch p 1 (fun x d =>
    let d := d.newStream true ((d.engOf p).getD 0) x.desc.xGroup x.desc.xTag (some x.desc.xPeer)
    let d := d.sendCts p x
    if x.total = 0 then (d.xchRecord p x 0).doneXch p x else d)) s

/-- One delivered element: its code and its tally (R357). An escape carried as bits stands for a value of a drip table
(R39), so it counts as no zero. -/
def deliverElem (c : Conv) (asBits : Bool) (code : Nat) (v : XR) : Nat × Tally :=
  let o : Nat × Flags := if asBits then (code, {}) else convert c v
  let res := if asBits ∧ (expand c.dst code).2 then XR.one else decode c.dst c.scale c.zp o.1
  (o.1, { ent := v, u := v, res := res, sat := o.2.ovf, drip := false })

/-- The elements of a DATA packet delivered into a tensor or a slot. -/
def Dev.deliverData (d : Dev) (p : Nat) (x : Xch) (pk : Packet) : Xch × Dev :=
  let ds := x.desc
  let off := pk.offset.toNat
  let asBits := !pk.scaled && pk.wire == ds.xDeliver
  let t := d.tensor p ds.xLocal
  let fmt := (Fmt.ofCode ds.xDeliver).getD .W32
  let outs := ((List.range pk.nelem.toNat).zip (unwire pk)).map (fun e =>
    let row := (d.xPos p ds (off + e.1)).1
    let scaled := [3, 4, 5].contains ds.xDeliver && !asBits
    let cv : Conv := { dst := fmt, rnd := ds.xRndM, intWrap := ds.xWrap, fltNsat := ds.xNsat
                       scale := if scaled then (t.map (fun t => d.rowScale t row)).getD 1 else 1
                       zp := if scaled then (t.map (fun t => d.rowZp t row)).getD 0 else 0
                       rand := d.xRand p ds (x.total + off + e.1) }
    deliverElem cv asBits e.2.1 e.2.2)
  let x' := { x with started := true, delivered := x.delivered + outs.length, sgR := pk.exponent, cnt := x.cnt.addRow (outs.map (·.2)) }
  let d0 := d
  let d :=
    if ds.xToSlot then
      let base := x.desc.xLocalOff / 4 + off
      let cols := Nat.max 1 (d.fld ACB_SLOT_GEOM.COLS p ds.xSlot)
      let con := d.fld ACB_SLOT_STATE.CONTRIB p ds.xSlot
      let d := d.slotAdd p ds.xSlot pk.exponent ds.mb (fun r c =>
        let i := r * cols + c
        if base ≤ i ∧ i < base + outs.length then [⟨decW32 (outs.getD (i - base) (0, { ent := .zero, u := .zero, res := .zero, sat := false, drip := false })).1, false⟩] else [])
      if x.started then d.setFld ACB_SLOT_STATE.CONTRIB con p ds.xSlot else d
    else
      ((List.range outs.length).zip outs).foldl (fun (d : Dev) e =>
        d.xPut d0 p ds (off + e.1) e.2.1) d
  (x', d.putXch p x')

/-! ## Receiving (R349, R363) -/

def Dev.unmatched (d : Dev) (c : Nat) : Dev := d.bump CPL_COUNTS.UNMATCHED 1 c

def RxStream.isOf (s : RxStream) (pk : Packet) (data : Bool) : Bool :=
  s.src == pk.src.toNat && s.group == pk.group.toNat && s.tag == pk.tag.toNat && s.eng == pk.dstL.toNat && s.data == data

def Dev.rxStream (d : Dev) (pk : Packet) (data : Bool) : RxStream :=
  (d.streams.find? (fun s => s.isOf pk data)).getD
    { src := pk.src.toNat, group := pk.group.toNat, tag := pk.tag.toNat, eng := pk.dstL.toNat, data := data }
def Dev.putStream (d : Dev) (s : RxStream) (pk : Packet) (data : Bool) : Dev :=
  (d.withStreams (s :: d.streams.filter (fun e => !e.isOf pk data)))

/-- How far a stream is received in order. -/
def inOrderFrom (got : List Nat) : Nat → Nat → Nat
  | 0, n => n
  | k + 1, n => if n ∈ got then inOrderFrom got k (n + 1) else n

/-- An accepted packet of a stream, and the acknowledgement it calls for (R363): at 16 packets, at LAST, and when what
LAST completes has come in; every packet of a tender stream is acknowledged. -/
def Dev.accept (d : Dev) (c : Nat) (pk : Packet) (data always : Bool) : Dev :=
  let s := d.rxStream pk data
  let got := pk.pseq.toNat :: s.got
  let n := inOrderFrom got got.length s.inOrder
  let last := if pk.isLast then some pk.pseq.toNat else s.last
  let due := data && decide (n > 0) && (always || pk.isLast || decide (s.sinceAck + 1 ≥ 16) || (last.map (· + 1) == some n && s.inOrder != n))
  let d := d.putStream { s with got := got, inOrder := n, last := last, sinceAck := if due then 0 else s.sinceAck + 1 } pk data
  if !due then d
  else
    d.sendPacket c
      { pk with
        ptype := 3, vc := 2, pflags := 0, src := BitVec.ofNat 12 d.rank, dst := pk.src, fmts := 0, sg := 0, hop := 0
        pseq := BitVec.ofNat 32 (n - 1), offset := 0, nelem := 0, total := 0, payload := [], alive := 0, crc := 0 }

/-- Checks 1–4 of R349 for a packet of this rank on base die c; `rest` is what follows. `stream` names the kind of stream
whose PSEQ is checked, none for packets whose PSEQ numbers no packet of their own. -/
def Dev.receive (d : Dev) (c : Nat) (pk : Packet) (stream : Option Bool) (rest : Dev → Dev) : Dev :=
  let d := d.setPort c { d.port c with rx := (d.port c).rx.erase pk }
  if pk.dst.toNat ≠ d.rank then (if d.isolated then d else d.forwardPacket c pk)
  else
    let crc := crc32c pk.body
    if crc ≠ pk.crc.toNat then (d.cvuMismatch (cvuBase c 0) crc pk.crc.toNat).bump CPL_COUNTS.E2E_CRC 1 c
    else
      let g := pk.group.toNat
      if !d.flag CPL_GROUP.VALID c g ∨ d.fld CPL_GROUP.EPOCH c g ≠ pk.epoch.toNat then
        let d := d.bump CPL_COUNTS.STALE_EPOCH 1 c
        if g ∈ d.staleSaid then d else (d.withStaleSaid (g :: d.staleSaid)).raise 0xB004
      else
        let s := d.rxStream pk (stream.getD true)
        if stream.isSome ∧ pk.pseq.toNat ∈ s.got then
          let d := d.bump CPL_COUNTS.LATE_DUP 1 c
          if s.lateSaid then d else (d.putStream { s with lateSaid := true } pk (stream.getD true)).raise 0xB005
        else
          let key := ((c * 4096 + pk.src.toNat) * 4 + pk.vc.toNat) * 16 + pk.path
          let (rep, skip, e) := aliveJudge (tget none d.rxAlive key) pk.alive.toNat
          let d := d.withRxAlive (tset none d.rxAlive key (some e))
          let d := if g = 0 then d.heard pk.src.toNat else d
          rest (d.cvuAlive (cvuBase c 1) rep skip)

/-- The running exchange of an engine that a packet belongs to. -/
def Dev.findXch (d : Dev) (pk : Packet) (prims : List Nat) : Option (Nat × Xch) :=
  let p := d.tileOf pk.dstL.toNat
  ((d.tile p).xchs.find? (fun x => prims.contains x.prim && x.desc.xGroup == pk.group.toNat && x.desc.xTag == pk.tag.toNat &&
    (x.prim == 2 || x.desc.xPeer == pk.src.toNat))).map (fun x => (p, x))

/-- A tender packet (R409): accepted from the ward into the tender buffer that its stream is for; its trailer gives the
committed step and the pin count. A foreign generation is gathered piece by piece (R423, log 30). -/
def Dev.tenderIn (d : Dev) (c : Nat) (pk : Packet) : Dev :=
  let off := pk.offset.toNat
  let n := pk.payload.length
  if !d.flag SVC_TENDER_CFG.VALID ∨ pk.src.toNat ≠ d.ward then d.unmatched c
  else
    let kind := pk.sg.toNat
    let lim := if kind = 2 then d.wardProgram else d.wardBytes
    if kind = 3 then
      ((d.withPod { d.pod with foreignIn := tput d.pod.foreignIn off pk.payload }).accept c pk true true).gatherForeign
    else if pk.isLast ∧ off = d.wardBytes ∧ n = 64 then
      (d.withWardTrailer (fieldAt pk.payload 0 6, fieldAt pk.payload 6 1)).accept c pk true true
    else if off + n > lim then d.unmatched c
    else
      let tb := d.fld SVC_TENDER_CFG.TBUF
      let b := if kind = 2 then 2 else if kind = 1 ∨ (kind = 6 ∧ d.committed % 2 ^ 32 = pk.total.toNat) then tb else 1 - tb
      ((d.fabricWrite (d.tenderAddr b off) pk.payload).settleFor 3).accept c pk true true

/-- DATA (R349, R357). -/
def Dev.onData (d : Dev) (c : Nat) (pk : Packet) (rd : ReadOutcome) : Dev :=
  d.receive c pk (some true) (fun d =>
    if pk.group = 0 ∧ pk.tag = 0xFFFF then d.tenderIn c pk
    else match d.findXch pk [1] with
      | none => d.unmatched c
      | some (p, x) =>
        if pk.offset.toNat + pk.nelem.toNat > pk.total.toNat then d.failXch p x 0xB00A true
        else if pk.total.toNat ≠ x.total then d.failXch p x 0xB009 true
        else (d.workAs p x.recs).xchSlot p x rd (fun d =>
          let res := d.deliverData p x pk
          res.2.landed p res.1 (fun d =>
            let x := res.1
            let d := d.accept c pk true false
            if x.delivered ≥ x.total then (d.xchRecord p x x.sgR).doneXch p x else d.settle p)))

def execData (c : Die) (pk : Packet) (s : State) (rd : ReadOutcome := .clean) : Host.Outcome State Fault Refusal :=
  run (fun d => d.onData c { pk with ptype := 1 } rd) s
def execTenderStream (c : Die) (pk : Packet) (s : State) : Host.Outcome State Fault Refusal :=
  run (fun d => d.onData c { pk with ptype := 1, group := 0, tag := 0xFFFF } .clean) s

/-- CTS (R349, R355): matched with a running SEND, or held in the 64-entry table of the engine. -/
def Dev.onCts (d : Dev) (c : Nat) (pk : Packet) (rd : ReadOutcome) : Dev :=
  d.receive c pk (some false) (fun d =>
    match d.findXch pk [0] with
    | some (p, x) =>
      let d := d.accept c pk false false
      if x.started then d else ((d.workAs p x.recs).transmit p x pk.total.toNat rd).settle p
    | none =>
      let p := d.tileOf pk.dstL.toNat
      let t := d.tile p
      if t.cts.length ≥ 64 then d.unmatched c
      else
        (d.accept c pk false false).modTile p (fun t =>
          { t with cts := t.cts ++ [⟨pk.src.toNat, pk.group.toNat, pk.tag.toNat, pk.total.toNat, 0⟩] }))

def execCts (c : Die) (pk : Packet) (s : State) (rd : ReadOutcome := .clean) : Host.Outcome State Fault Refusal :=
  run (fun d => d.onCts c { pk with ptype := 2 } rd) s

/-! ## REDUCE-INTO (R358–R361) -/

/-- A member's place in its group: P, its position m, and NEXT (R374, R383). -/
structure Member where
  size : Nat
  pos : Nat
  next : Nat
  deriving DecidableEq, Repr

def Dev.member (d : Dev) (p group : Nat) : Member :=
  let s := Nat.max 1 (d.fld CPL_GROUP.SIZE (p / 5) group)
  ⟨s, d.fld CPL_GROUP.POS (p / 5) group % s, d.fld CPL_GROUP.NEXT (p / 5) group⟩

/-- Elements per chunk, and the range of chunk q (R358). -/
def chunkSize (size total : Nat) : Nat := 128 * ((total + 128 * size - 1) / (128 * size))
def chunkRange (size total q : Nat) : Nat × Nat :=
  let c := chunkSize size total
  (Nat.min (q * c) total, Nat.min ((q + 1) * c) total)
/-- Packets of a chunk. -/
def chunkPackets (per size total q : Nat) : Nat :=
  let r := chunkRange size total q
  (r.2 - r.1 + per - 1) / per

def Desc.redPer (x : Desc) : Nat := perPacket (x.xWire ≠ 6) 16

/-- The packets that a member sends in a whole reduction: PARTIALs of every chunk but its own, and the RESULTs that it
forms or forwards (R359, R360). -/
def redPackets (x : Xch) (m : Member) : Nat :=
  if m.size = 1 then 0
  else (List.range m.size).foldl (fun s q =>
    let n := chunkPackets x.desc.redPer m.size x.total q
    s + (if q = m.pos then 0 else n) + (if x.desc.xRenarrow ∧ m.pos ≠ (q + m.size - 1) % m.size then n else 0)) 0

/-- The elements that a member must deliver (R360). -/
def redTarget (x : Xch) (m : Member) : Nat :=
  if x.desc.xRenarrow then x.total else (let r := chunkRange m.size x.total m.pos; r.2 - r.1)

/-- The random bits of hop h at element i (R361). -/
def Dev.redRand (d : Dev) (p : Nat) (x : Xch) (h i : Nat) : Nat := d.xRand p x.desc (h * x.total + i)

/-- A PARTIAL or RESULT sent to NEXT from base die c; `own` tells the engine's packets from a reduction unit's. -/
def Dev.redSend (d : Dev) (p c : Nat) (x : Xch) (own : Bool) (ptype off n : Nat) (pl : List Byte) (sg : Int) (hop : Nat) : Xch × Dev :=
  let m := d.member p x.desc.xGroup
  let fl := (if x.nextPseq + 1 = redPackets x m then 1 else 0) + (if x.desc.xWire ≠ 6 then 2 else 0) + (if x.desc.xRenarrow then 8 else 0)
  let pk : Packet := { d.xchPacket p x.desc ptype 1 m.next with
    pflags := BitVec.ofNat 8 fl, sg := BitVec.ofInt 8 sg, hop := BitVec.ofNat 8 hop, pseq := BitVec.ofNat 32 x.nextPseq
    offset := BitVec.ofNat 48 off, nelem := BitVec.ofNat 16 n, total := BitVec.ofNat 32 x.total, payload := pl }
  let x := { x with
    nextPseq := x.nextPseq + 1
    unacked := if own then x.unacked ++ [pk] else x.unacked
    held := if own then x.held else x.held ++ [(c, pk)] }
  (x, (d.putXch p x).sendPacket c pk)

/-- The chunk that element `off` of the stream lies in, and whether this member has read all of its contribution to it (R360). -/
def redChunk (size total off : Nat) : Nat := off / Nat.max 1 (chunkSize size total)
def Xch.readAll (x : Xch) (size q : Nat) : Bool :=
  let r := chunkRange size x.total q
  decide (r.2 - r.1 ≤ tget 0 x.readN q)
/-- n more elements of the contribution to chunk q have been read. -/
def Xch.noteRead (x : Xch) (q n : Nat) : Xch := { x with readN := tset 0 x.readN q (tget 0 x.readN q + n) }

/-- SUM_INF and NONFIN, each raised once per reduction (R361). -/
def Dev.redFlags (d : Dev) (p c : Nat) (x : Xch) (inf nan : Bool) : Xch × Dev :=
  let d := if inf then d.setFld RDU_STATUS.SUM_INF 1 c else d
  let d := if nan then d.setFld RDU_STATUS.NONFIN 1 c else d
  let x' := { x with saidInf := x.saidInf || inf, saidNan := x.saidNan || nan }
  let d := d.putXch p x'
  let d := if inf ∧ !x.saidInf then d.raise 0xB801 else d
  (x', if nan ∧ !x.saidNan then d.raise 0xB803 else d)

/-- Values written at element `off` of the DELIVER tensor (R360), with draws of hop P (R361). In NARROW they are G16 values under SR,
in whichever format they are kept (R203, log 111). -/
def Dev.redPut (d : Dev) (p : Nat) (x : Xch) (off : Nat) (vs : List XR) (sg : Int) : Xch × Dev :=
  let m := d.member p x.desc.xGroup
  let fmt : Fmt := if x.desc.xDeliver = 7 then .W32 else .G16
  let narrow := d.narrowMode p
  let rnd : Rnd := if narrow then .sr else if fmt = .W32 then .rne else x.desc.xRndM
  let outs := ((List.range vs.length).zip vs).map (fun e =>
    let rand := d.srBits p x.desc.layer rnd (x.desc.xRndBase + m.size * x.total + off + e.1)
    let cv : Conv := { dst := .G16, rnd := rnd, intWrap := x.desc.xWrap, fltNsat := x.desc.xNsat, rand := rand }
    if fmt = .G16 then deliverElem cv false 0 e.2
    else deliverElem { cv with dst := .W32, rnd := .rne } false 0 (if narrow then decG16 (convert cv e.2).1 else e.2))
  let base := ((d.tensor p x.desc.xDeliverRef).map (·.base)).getD 0 + x.desc.xPeerOff
  let d := d.fabricWrite (base + fmt.bytes * off) (outs.flatMap (fun o => leBytes fmt.bytes o.1))
  let x := { x with delivered := x.delivered + vs.length, sgR := sg, cnt := x.cnt.addRow (outs.map (·.2)) }
  (x, d.putXch p x)

/-- Values delivered at element `off` (R360): at once, or when the whole contribution to their chunk has been read. -/
def Dev.redDeliver (d : Dev) (p : Nat) (x : Xch) (off : Nat) (vs : List XR) (sg : Int) : Xch × Dev :=
  let m := d.member p x.desc.xGroup
  if x.readAll m.size (redChunk m.size x.total off) then d.redPut p x off vs sg
  else
    let x := { x with parked := x.parked ++ [(off, vs.map encW32, sg)] }
    (x, d.putXch p x)

/-- The deliveries that waited for no more than what has been read now. -/
def Dev.redRelease (d : Dev) (p : Nat) (x : Xch) : Xch × Dev :=
  let m := d.member p x.desc.xGroup
  let free (e : Nat × List Nat × Int) : Bool := x.readAll m.size (redChunk m.size x.total e.1)
  let y := { x with parked := x.parked.filter (fun e => !free e) }
  (x.parked.filter free).foldl (fun (r : Xch × Dev) e => r.2.redPut p r.1 e.1 (e.2.1.map decW32) e.2.2) (y, d.putXch p y)

/-- The owner's chunk part (R360): delivered as it is, or re-narrowed, sent as RESULT and delivered re-narrowed. -/
def Dev.redOwn (d : Dev) (p c : Nat) (x : Xch) (off : Nat) (sums : List XR) (sg : Int) : Xch × Dev :=
  if !x.desc.xRenarrow then
    let res := d.redFlags p c x false (sums.any (·.isNan))
    res.2.redDeliver p res.1 off sums sg
  else
    let m := d.member p x.desc.xGroup
    let pl := wirePayload x.desc.xWire x.desc.xRndM x.desc.xNsat x.desc.xWrap (d.redRand p x (m.size - 1)) off sums
    let back := (unwire { d.xchPacket p x.desc 5 1 m.next with
      pflags := if x.desc.xWire = 6 then 0 else 2, nelem := BitVec.ofNat 16 sums.length, payload := pl }).map (·.2)
    let res := if m.size = 1 then (x, d) else d.redSend p c x false 5 off sums.length pl sg (m.size - 1)
    let res := res.2.redFlags p c res.1 false (back.any (·.isNan))
    res.2.redDeliver p res.1 off back sg

/-- A reduction completes once everything is delivered, sent and acknowledged (R360). -/
def Dev.redDone (d : Dev) (p : Nat) (x : Xch) : Dev :=
  let m := d.member p x.desc.xGroup
  if x.delivered ≥ redTarget x m ∧ x.nextPseq ≥ redPackets x m ∧ x.unacked.isEmpty ∧ x.held.isEmpty then
    (d.xchRecord p x x.sgR).doneXch p x
  else d.settle p

/-- A reduction's start (R359, R361): the member at position q + 1 sends its contribution to chunk q; a single member
delivers its own. -/
def Dev.redStart (d : Dev) (p : Nat) (x : Xch) : Dev :=
  let m := d.member p x.desc.xGroup
  let d := d.newStream true ((d.engOf p).getD 0) x.desc.xGroup x.desc.xTag none
  let q := if m.size = 1 then 0 else (m.pos + m.size - 1) % m.size
  let r := chunkRange m.size x.total q
  let per := x.desc.redPer
  match d.xReadError p x.desc r.1 r.2 with
  | some code => d.failSource p x code
  | none =>
    let parts := (List.range (chunkPackets per m.size x.total q)).map (fun k =>
      let off := r.1 + per * k
      (off, (List.range (Nat.min per (r.2 - off))).map (fun i => d.xValue p x.desc (off + i))))
    let x := x.noteRead q (r.2 - r.1)
    let o := parts.foldl (fun (o : Xch × Dev) (e : Nat × List XR) =>
      let vs := e.2
      if m.size = 1 then o.2.redOwn p (p / 5) o.1 e.1 vs x.sg
      else
        o.2.redSend p (p / 5) o.1 true 4 e.1 vs.length
          (wirePayload x.desc.xWire x.desc.xRndM x.desc.xNsat x.desc.xWrap (d.redRand p x 0) e.1 vs) x.sg 0) (x, d.putXch p x)
    o.2.landed p o.1 (fun d => d.redDone p o.1)

def execReduceInto (p : Tile) (s : State) (rd : ReadOutcome := .clean) : Host.Outcome State Fault Refusal :=
  run (fun d => d.runXch p 2 (fun x d => d.xchSlot p x rd (fun d => d.redStart p x))) s

/-- A packet whose parameters differ from the unit's own XCH (R358). -/
def redDiffers (x : Xch) (pk : Packet) : Bool :=
  pk.total.toNat ≠ x.total || pk.wire ≠ x.desc.xWire || pk.deliver ≠ x.desc.xDeliver || pk.renarrow ≠ x.desc.xRenarrow

/-- A summed partial goes its way: kept by the chunk's owner, else sent on with one hop more (R359, R360). -/
def Dev.redPass (d : Dev) (p c : Nat) (x : Xch) (own : Bool) (off n : Nat) (sums : List XR) (e : Int) (h : Nat) : Xch × Dev :=
  if own then d.redOwn p c x off sums e
  else d.redSend p c x false 4 off n (wirePayload x.desc.xWire x.desc.xRndM x.desc.xNsat x.desc.xWrap (d.redRand p x h) off sums) e h

/-- PARTIAL (R359): the member's contribution is added in W32, and the sum is forwarded, or kept by the chunk's owner. -/
def Dev.onPartial (d : Dev) (c : Nat) (pk : Packet) (rd : ReadOutcome) : Dev :=
  d.receive c pk (some true) (fun d =>
    match d.findXch pk [2] with
    | none => d.unmatched c
    | some (p, x) =>
      let off := pk.offset.toNat
      let n := pk.nelem.toNat
      if off + n > pk.total.toNat then d.failXch p x 0xB00A true
      else if redDiffers x pk then (d.setFld RDU_STATUS.MISMATCH 1 c).failXch p x 0xB802 true
      else (d.useRecs p x.recs).xchSlot p x rd (fun d => match d.xReadError p x.desc off (off + n) with
        | some code => d.failSource p x code
        | none =>
          let m := d.member p x.desc.xGroup
          let eOut := min pk.exponent x.sg
          let ps := ((List.range n).zip (unwire pk)).map (fun e =>
            (wpow2 e.2.2 (eOut - pk.exponent), wpow2 (d.xValue p x.desc (off + e.1)) (eOut - x.sg)))
          let sums := ps.map (fun e => wadd e.1 e.2)
          let inf := (ps.zip sums).any (fun e => e.1.1.isFin && e.1.2.isFin && !e.2.isFin)
          let res := d.redFlags p c x inf (sums.any (·.isNan))
          let q := redChunk m.size x.total off
          let res := res.2.redRelease p (res.1.noteRead q n)
          let res := res.2.redPass p c res.1 (q = m.pos) off n sums eOut (pk.hop.toNat + 1)
          res.2.landed p res.1 (fun d => (d.accept c pk true false).redDone p res.1)))

def execPartialSum (c : Die) (pk : Packet) (s : State) (rd : ReadOutcome := .clean) : Host.Outcome State Fault Refusal :=
  run (fun d => d.onPartial c { pk with ptype := 4 } rd) s

/-- RESULT (R360): delivered, and forwarded unchanged except at position q − 1. -/
def Dev.onResult (d : Dev) (c : Nat) (pk : Packet) : Dev :=
  d.receive c pk (some true) (fun d =>
    match d.findXch pk [2] with
    | none => d.unmatched c
    | some (p, x) =>
      let off := pk.offset.toNat
      if off + pk.nelem.toNat > pk.total.toNat then d.failXch p x 0xB00A true
      else if redDiffers x pk then (d.setFld RDU_STATUS.MISMATCH 1 c).failXch p x 0xB802 true
      else
        let d := d.useRecs p x.recs
        let m := d.member p x.desc.xGroup
        let q := redChunk m.size x.total off
        let vs := (unwire pk).map (·.2)
        let res := d.redFlags p c x false (vs.any (·.isNan))
        let x := res.1
        let d := res.2
        let res := if m.pos = (q + m.size - 1) % m.size then (x, d)
          else d.redSend p c x false 5 off pk.nelem.toNat pk.payload pk.exponent pk.hop.toNat
        let x := res.1
        let d := res.2
        let res := d.redDeliver p x off vs pk.exponent
        res.2.landed p res.1 (fun d => (d.accept c pk true false).redDone p res.1))

def execResult (c : Die) (pk : Packet) (s : State) : Host.Outcome State Fault Refusal :=
  run (fun d => d.onResult c { pk with ptype := 5 }) s

/-! ## Acknowledgement, abort, timeouts (R363–R365) -/

def afterAck (n : Nat) (l : List Packet) : List Packet := l.filter (fun k => n < k.pseq.toNat)

/-- E2E_ACK (R363): packets up to PSEQ are released; progress restarts the count of resends; a SEND with nothing left
completes. -/
def Dev.onAck (d : Dev) (c : Nat) (pk : Packet) : Dev :=
  d.receive c pk none (fun d =>
    let n := pk.pseq.toNat
    let l := pk.dstL.toNat
    if pk.group = 0 ∧ pk.tag = 0xFFFF then
      let t := tget {} d.tenderTx l
      (d.withTenderTx (tset {} d.tenderTx l { t with unacked := afterAck n t.unacked, resends := 0 }))
    else match d.findXch pk [0, 2] with
      | none => d.unmatched c
      | some (p, x) =>
        let x' := { x with unacked := afterAck n x.unacked, held := x.held.filter (fun h => n < h.2.pseq.toNat) }
        let heldBy (y : Xch) (c : Nat) : Nat := (y.held.filter (fun h => h.1 == c)).length
        let x' := { x' with
          resends := if x'.unacked.length < x.unacked.length then 0 else x.resends
          rduResends := (List.range 16).foldl (fun m c => if heldBy x' c < heldBy x c then tset 0 m c 0 else m) x.rduResends }
        let d := d.putXch p x'
        if x.prim = 2 then d.redDone p x'
        else if x'.started ∧ x'.unacked.isEmpty then d.doneXch p x'
        else d.settle p)

def execE2eAck (c : Die) (pk : Packet) (s : State) : Host.Outcome State Fault Refusal :=
  run (fun d => d.onAck c { pk with ptype := 3 }) s

/-- ABORT (R365): the matching exchange fails with CPL_XCH_ABORTED. -/
def Dev.onAbort (d : Dev) (c : Nat) (pk : Packet) : Dev :=
  d.receive c pk none (fun d =>
    match d.findXch pk [0, 1, 2] with
    | none => d.unmatched c
    | some (p, x) => d.failXch p x 0xB00C false)

def execAbort (c : Die) (pk : Packet) (s : State) : Host.Outcome State Fault Refusal :=
  run (fun d => d.onAbort c { pk with ptype := 6 }) s

/-- A packet of any type that has arrived on base die c: one for another rank is forwarded (R349, R352); one of this rank is
taken by its type, and a type that R347 does not name is dropped and counted. A management packet reaches Dammel as its
message's own command; one whose MTYPE R386 does not name is dropped and counted. -/
def Dev.onPacket (d : Dev) (c : Nat) (pk : Packet) (rd : ReadOutcome) : Dev :=
  match pk.ptype.toNat with
  | 1 => d.onData c pk rd
  | 2 => d.onCts c pk rd
  | 3 => d.onAck c pk
  | 4 => d.onPartial c pk rd
  | 5 => d.onResult c pk
  | 6 => d.onAbort c pk
  | 7 => d.receive c pk none (fun d =>
      if [1, 2, 3, 4, 5, 6, 7, 8, 9, 10, 11, 12, 13, 16, 17, 18].contains (fieldAt pk.payload 0 1) then d else d.unmatched c)
  | _ => d.receive c pk none (fun d => d.unmatched c)

def execPacketForward (c : Die) (pk : Packet) (s : State) (rd : ReadOutcome := .clean) : Host.Outcome State Fault Refusal :=
  run (fun d => d.onPacket c pk rd) s

/-- The k-th running exchange of tile p; after them stands the tender stream of its engine. -/
def Dev.kthXch (d : Dev) (p k : Nat) : Option Xch := (d.tile p).xchs[k]?

/-- The tender stream of an engine times out (R363, R409): resent, or failed when its resends are exhausted. -/
def Dev.tenderTimeout (d : Dev) (p : Nat) : Dev :=
  let l := (d.engOf p).getD 0
  let t := tget {} d.tenderTx l
  if t.unacked.isEmpty then d
  else if t.resends ≥ d.fld CPL_XCH_CTRL.RETRIES p then
    ((d.withTenderTx (tset {} d.tenderTx l { t with unacked := [], resends := 0 })).halt p 0xB007).sync p
  else
    (d.withTenderTx (tset {} d.tenderTx l { t with resends := t.resends + 1 })).sendPackets (p / 5) t.unacked

/-- E2E_TIMEOUT (R363): every unacknowledged packet is sent again with its PSEQ and a new ALIVE; after RETRIES resends the
exchange fails. -/
def Dev.e2eTimeout (d : Dev) (p k : Nat) : Dev :=
  match d.kthXch p k with
  | none => d.tenderTimeout p
  | some x =>
    if x.unacked.isEmpty then d
    else if x.resends ≥ d.fld CPL_XCH_CTRL.RETRIES p then d.failXch p x 0xB007 true
    else (d.putXch p { x with resends := x.resends + 1 }).sendPackets (p / 5) x.unacked

def execE2eTimeout (p : Tile) (k : Nat) (s : State) : Host.Outcome State Fault Refusal := run (fun d => d.e2eTimeout p k) s

/-- RDU_TIMEOUT (R363): the k-th reduction with packets in base die c's forward buffer. -/
def Dev.rduTimeout (d : Dev) (c k : Nat) : Dev :=
  let xs := d.tiles.flatMap (fun e => (e.2.xchs.filter (fun x => x.held.any (fun h => h.1 == c))).map (fun x => (e.1, x)))
  match xs[k]? with
  | none => d
  | some (p, x) =>
    let n := tget 0 x.rduResends c
    if n ≥ d.fld CPL_XCH_CTRL.RETRIES p then d.failXch p x 0xB804 true
    else (d.putXch p { x with rduResends := tset 0 x.rduResends c (n + 1) }).sendPackets c ((x.held.filter (fun h => h.1 == c)).map (·.2))

def execRduTimeout (c : Die) (k : Nat) (s : State) : Host.Outcome State Fault Refusal := run (fun d => d.rduTimeout c k) s

/-- CPL_XCH_STALL (R365, R375): no packet within the limit, which 0 disables. -/
def Dev.xchStall (d : Dev) (p k : Nat) : Dev :=
  match d.kthXch p k with
  | none => d
  | some x => if d.fld CPL_XCH_CTRL.STALL p = 0 then d else d.failXch p x 0xB008 true

def execCplXchStall (p : Tile) (k : Nat) (s : State) : Host.Outcome State Fault Refusal := run (fun d => d.xchStall p k) s

/-- CTS_RESEND (R355): a RECV-INTO without DATA yet sends its CTS again. -/
def Dev.ctsResend (d : Dev) (p k : Nat) : Dev :=
  match d.kthXch p k with
  | none => d
  | some x => if x.prim = 1 ∧ !x.started then d.sendCts p x else d

def execCtsResend (p : Tile) (k : Nat) (s : State) : Host.Outcome State Fault Refusal := run (fun d => d.ctsResend p k) s

end Sys2Proof.Machine
end

