-- ==== Sys2Proof/Machine/Pod.lean ====
section
/-! DEFINITION. Management messages, and a step of one rank and of the manager: open, READY, COMMIT, abort, START
(R136, R137, R186, R193, R384–R392, R407–R414). -/

namespace Sys2Proof.Machine

/-! ## Ranks (R378–R382) -/

def Dev.rankEnt (d : Dev) (r : Nat) : RankEntry := tget {} d.ranks r
def Dev.rankState (d : Dev) (r : Nat) : Nat := (d.rankEnt r).state.toNat
def Dev.manager (d : Dev) : Nat := d.fld SVC_ROLE.MANAGER
/-- This device belongs to a pod: it has a state there, and group 0 exists on it. -/
def Dev.inPod (d : Dev) : Bool := d.flag CPL_GROUP.VALID 0 0 && d.fld SVC_ROLE.STATE != 0
/-- Ranks that take part in steps: ACTIVE, and DRAINING until the spare has taken over (R381, R397). -/
def Dev.stepRanks (d : Dev) : List Nat := (d.ranks.filter (fun e => e.2.state = 1 ∨ e.2.state = 4)).map (·.1)
/-- The standby, if there is one and it is not lost. -/
def Dev.standbyRank (d : Dev) : Option Nat := d.pod.standby.filter (fun r => decide (r ≠ d.rank ∧ d.rankState r ≠ 0 ∧ d.rankState r ≠ 5))

/-! ## Tiles and state given up (R20, R381, R395, R552) -/

/-- A tile has nothing left to do. -/
def Dev.tileIdle (d : Dev) (p : Nat) : Bool :=
  let t := d.tile p
  t.issue.isEmpty && t.groups.isEmpty && t.drips.isEmpty && t.reruns.isEmpty && t.fbs.isEmpty && t.confirmed.isEmpty &&
    t.xchs.isEmpty && t.hold.isNone && d.fld ENG_CQ_PTR.HEAD p == d.fld ENG_CQ_PTR.TAIL p && !d.flag ENG_STATUS.HALTED p

/-- The registers of an engine. -/
def engineRegs : List RegName :=
  [.FWA_STATUS, .FWA_RESIDUE_LOG, .SIV_CTRL, .SIV_STATUS, .SIV_PRE_WIN, .SIV_TABLES, .SIV_STEP_COUNTS, .BKA_STATUS, .BKA_RESIDUE_LOG,
    .ACB_CTRL, .ACB_STATUS, .ACB_SLOT_GEOM, .ACB_SLOT_STATE, .ENG_STEP_CTX, .ENG_VERSION_STRIDE, .ENG_JOB_SEED_LO] ++
  [.ENG_JOB_SEED_HI, .ENG_STATUS, .ENG_ERR_LOG, .ENG_CQ_CTRL, .ENG_CQ_PTR, .ENG_WD, .ENG_TTAB, .ENG_HYP_BASE, .ENG_LR_FACTOR, .ENG_SEM,
    .ENG_SEM_ADD, .LAR_STATUS, .LAR_ERR_LOG, .SHN_STATUS, .SHN_COUNTS, .CPL_XCH_CTRL]

/-- Queue, semaphores, slots, groups and unit registers of tile p at reset; memories, counters and trace are kept. -/
def Dev.resetTile (d : Dev) (p : Nat) : Dev :=
  let d := if d.tileIdle p then d else d.flush p
  let d := (d.withRegs (d.regs.filter (fun (e : Nat × Nat) =>
    !((engineRegs.map RegName.ctorIdx).contains (e.1 / 0x100000) && e.1 / 0x1000 % 0x100 == p))))
  let t := d.tile p
  d.setTile p { blocks := t.blocks, layers := t.layers, usable := t.usable, resetting := true }

/-- A tile that may carry no engine, recorded in boot flash (R20, R417). -/
def Dev.markBad (d : Dev) (p : Nat) : Dev :=
  ((d.modTile p (fun t => { t with usable := false })).withFlash { d.flash with badTiles := d.flash.badTiles.filter (· ≠ p) ++ [p] })

/-- The tiles of die x, but its spare, that may carry no engine. -/
def Dev.badTilesOf (d : Dev) (x : Nat) : List Nat := (List.range 4).filter (fun t => !(d.tile (5 * x + t)).usable)

/-- The spare tile of each die takes the engine of the one tile that may not carry it (R20, R417). -/
def Dev.placeEngines (d : Dev) : Dev :=
  (List.range 16).foldl (fun (d : Dev) x =>
    match d.badTilesOf x, (d.tile (5 * x + 4)).usable with
    | [t], true => (d.withEngMap (tset (5 * x + t) d.engMap (4 * x + t) (5 * x + 4))).setFld PWR_TILE_CTRL.GATED 0 x
    | _, _ => d) d

/-- An engine has no tile: a second tile of its die has failed, or the spare with it, which is a failure of the module (R20). -/
def Dev.lacksTile (d : Dev) : Bool :=
  (List.range 16).any (fun x => decide ((d.badTilesOf x).length > 1) || (!(d.badTilesOf x).isEmpty && !(d.tile (5 * x + 4)).usable))

/-- The accepted RUN_STEP completes (R457). -/
def Dev.endRun (d : Dev) (status r0 r1 : Nat) : Dev :=
  match d.pod.armed with
  | none => d
  | some a => (d.modPod (fun p => { p with armed := none })).complete a.who a.tag status r0 r1

/-- What a pod leaves behind when another is formed. -/
def Dev.leavePod (d : Dev) : Dev :=
  (((((d.withRanks []).withMgmtSeen []).withMgmtSeq []).withAwaiting []).withPeers []).modPod (fun p => { p with
    staged := none, heldPublish := none, standby := none, order := [], ready := [], committedBy := [], committing := none
    startSent := none, needRestore := false, standbyDue := false, aborts := 0, aborting := none, publishing := none, unactivated := [] })
def Dev.leavePod2 (d : Dev) : Dev :=
  d.modPod (fun p => { p with
    fencing := [], refilling := [], repairing := [], draining := [], joining := [], copied := none, short := false, voters := []
    voting := false, unheeded := none, restoring := none, genWait := [], holdStart := false, forwarded := [], taken := []
    takenAlive := 0, fwdAlive := [] })

/-- A SPARE or JOINING device holds no training state (R381, R395): no program, no binding, no committed step. The bytes of its memory
stay, and nothing names them (log 113). -/
def Dev.dropState (d : Dev) : Dev :=
  let d := (((d.withCommitted 0).withRegions []).withWardBytes 0).withWardProgram 0
  let d := (((d.withLost []).withLostInput []).withProgramCopy []).setFld SVC_TENDER_CFG.VALID 0
  d.modPod (fun p => { p with
    loaded := false, bound := false, stateWritten := false, pins := 0, lastCommit := (0, 0, 0), image := [], queues := [], moves := []
    pinAt := none, repeats := 0, replace := [], hung := [], memHung := [], mismatches := [] })

/-- A device that is admitted (R395): it ends what it was doing, resets every tile with its self-test, and holds none of its former
state; PWR_TILE_RESET tells of each tile. -/
def Dev.enterClean (d : Dev) : Dev :=
  let d := (d.endRun 0xB d.committed 0).withOpenStep none
  let d := ((d.leavePod.leavePod2).withMembers []).dropState
  let d := (List.range 16).foldl (fun (d : Dev) x => d.setFld PWR_TILE_CTRL.SELFTEST 1 x) d
  (List.range 80).foldl (fun (d : Dev) p => d.resetTile p) d

/-! ## Messages received (R349, R385–R387, R400) -/

/-- A device outside the pod, or isolated, learns its rank from a PUBLISH that gives it one (R380, R395; log 50). -/
def Dev.joins (d : Dev) (b : MgmtBody) : Bool :=
  match b with
  | .publish c => (!d.inPod || d.isolated) && c.newRank.isSome
  | _ => false

/-- Its entry: the rank, the manager and group 0 under the epoch of the message; the streams between the ranks start
anew, and a device that is JOINING starts clean (R395). -/
def Dev.joinPod (d : Dev) (m : Mgmt) : Dev :=
  match m.body with
  | .publish c =>
    let d := if c.ranks.any (fun (e : Rank × RankEntry) => some e.1 == c.newRank && e.2.state == 3) then d.enterClean else d
    let d := ((d.setFld SVC_ROLE.RANK ((c.newRank.map (·.toNat)).getD 0)).setFld SVC_ROLE.STATE 3).setFld SVC_ROLE.MANAGER m.src.toNat
    let d := (List.range 16).foldl (fun d s => (d.setFld CPL_GROUP.EPOCH m.epoch.toNat s 0).setFld CPL_GROUP.VALID 1 s 0) d
    (((d.withMgmtSeen []).withMgmtSeq []).withAwaiting []).withStreams []
  | _ => d

/-- The effect of the message that brought this device in. -/
def Dev.onEntry (d : Dev) (m : Mgmt) (eff : Bool → Dev → Dev) : Dev :=
  eff false (d.withMgmtSeen (tset [] d.mgmtSeen m.src.toNat [m.pseq.toNat]))

/-- A message for this rank passes the checks of R349: epoch of group 0, then PSEQ. A rank that voted against its manager
takes no further message of it (R400); a message of an activated rank ends its ACTIVATE (R387). What follows has `late` for
a message already received. During a handover a message waits in the receive buffer (R557); in boundary scan none comes (R537). -/
def Dev.onMgmt (d : Dev) (m : Mgmt) (eff : Bool → Dev → Dev) : Dev :=
  let src := m.src.toNat
  if d.state = 2 ∨ d.flag SEC_STATUS.BSCAN then d
  else if d.joins m.body then (d.joinPod m).onEntry m eff
  else if m.dst.toNat ≠ d.rank then d
  else if !d.inPod ∨ m.epoch.toNat ≠ d.podEpoch then
    let d := d.bump CPL_COUNTS.STALE_EPOCH 1 0
    if 0 ∈ d.staleSaid then d else (d.withStaleSaid (0 :: d.staleSaid)).raise 0xB004
  else if d.pod.unheeded = some src then d
  else
    let seen := tget [] d.mgmtSeen src
    let late := seen.contains m.pseq.toNat
    let d := d.heard src
    let d :=
      if late then
        let d := d.bump CPL_COUNTS.LATE_DUP 1 0
        if tget [] d.mgmtSeen (4096 + src) = [] then (d.withMgmtSeen (tset [] d.mgmtSeen (4096 + src) [1])).raise 0xB005 else d
      else d.withMgmtSeen (tset [] d.mgmtSeen src (m.pseq.toNat :: seen))
    eff late d

/-- A message that is new. -/
def Dev.onNew (d : Dev) (m : Mgmt) (eff : Dev → Dev) : Dev := d.onMgmt m (fun late d => if late then d else eff d)

/-- A message from a rank or to a role that its type does not allow is dropped and counted (R386). -/
def Dev.wrongWay (d : Dev) : Dev := d.bump CPL_COUNTS.UNMATCHED 1 0

/-! ## Recovery status (R436) -/

def Dev.phase (d : Dev) (ph : Nat) : Dev := d.setFld SVC_RECOVERY_STATUS.PHASE ph
def Dev.cause (d : Dev) (code rank outcome : Nat) : Dev :=
  ((d.setFld SVC_RECOVERY_STATUS.CAUSE code).setFld SVC_RECOVERY_STATUS.RANK rank).setFld SVC_RECOVERY_STATUS.OUTCOME outcome

/-! ## One rank: the step opens, closes and ends -/

/-- The value of ENG_STEP_CTX that opens step n on a tile (R217): CBUF stays, NARROW is the program's (R203). -/
def Dev.stepCtx (d : Dev) (p n : Nat) : Nat :=
  2 ^ 63 + (if d.pod.narrow then 2 ^ 62 else 0) + (d.fld ENG_STEP_CTX.CBUF p) * 2 ^ 61 + n % 2 ^ 48

/-- Dammel queues an engine's command list for the step (R186, R264). -/
def Dev.queueLists (d : Dev) (l : Nat) : Dev :=
  let p := d.tileOf l
  let es := ((d.pod.queues.find? (fun q => q.1 == l)).map (·.2)).getD []
  es.foldl (fun d e =>
    let t := d.fld ENG_CQ_PTR.TAIL p
    (d.write (queueAddr p t) (padTo 32 e)).setFld ENG_CQ_PTR.TAIL ((t + 1) % 256) p) d |>.sync p

/-- Step n opens on every engine (R137, R147, R186, R217). -/
def Dev.openStepNow (d : Dev) (n : Nat) : Dev :=
  let pin := if d.pod.pins > 0 then 1 else 0
  let d := (d.withOpenStep (some n)).withStaleSaid []
  let d := d.modPod (fun p => { p with
    trailerSent := false, readySent := false, startSeen := none
    armed := p.armed.map (fun a => { a with running := true })
    replays := (List.range 16).filterMap (fun c => let v := d.fld CPL_LINK_COUNTS.REPLAYS c; if v = 0 then none else some (c, v)) })
  (List.range 64).foldl (fun d l =>
    let p := d.tileOf l
    let d := d.modTile p (fun t => { t with updRuns := [] })
    let d := (d.setReg ⟨.SIV_STEP_COUNTS, p, 0⟩ 0).setFld SIV_CTRL.PIN pin p
    (d.writeStepCtx p (d.stepCtx p n)).queueLists l) d

/-- Every packet of every tender stream is acknowledged (R186, R409). -/
def Dev.tenderDone (d : Dev) : Bool := d.tenderTx.all (fun e => e.2.unacked.isEmpty)

/-- The trailer of the state that step n leaves (R409): the committed step and the remaining pin count. -/
def trailer (n pins : Nat) : List Byte := padTo 64 (leBytes 6 n ++ leBytes 1 pins)

/-- A sum over the active tiles. -/
def Dev.sumTiles (d : Dev) (f : Nat → Nat) : Nat := d.activeTiles.foldl (fun s p => s + f p) 0

/-- The sums of READY (R386): CHECKED, FELL_BACK, NONFIN_SKIP, RANGE_SAT. -/
def Dev.stepSums (d : Dev) : Nat × Nat × Nat × Nat :=
  (d.sumTiles (d.fld SIV_STEP_COUNTS.CHECKED ·), d.sumTiles (d.fld SIV_STEP_COUNTS.FELL_BACK ·),
    d.sumTiles (fun p => (d.tile p).updRuns.foldl (fun s r => s + r.nonfin) 0),
    d.sumTiles (fun p => (d.tile p).updRuns.foldl (fun s r => s + r.rangeSat) 0))

def sat32 (n : Nat) : BitVec 32 := BitVec.ofNat 32 (Nat.min n 0xFFFFFFFF)

/-- The tracker tables of the next buffer, streamed whole once the step's last update has run (R123, R202). -/
def Dev.sendTrackers (d : Dev) : Dev := d.activeTiles.foldl (fun d p => d.tenderRange p (d.trkBase p true) 8192) d

/-- STEP_CLOSE (R186, R409): once the last update has run, the tracker tables and the trailer; once every tender packet is acknowledged,
READY(n). -/
def Dev.stepClose (d : Dev) : Dev :=
  match d.openStep with
  | none => d
  | some n =>
    if d.pod.readySent ∨ !d.activeTiles.all d.tileIdle then d
    else
      let d :=
        if d.pod.trailerSent ∨ !d.hasTender then d
        else (d.sendTrackers.tenderPacket 0 d.partner 0 true d.stateBytes (trailer n (d.pod.pins - 1))).modPod (fun p => { p with trailerSent := true })
      if !d.tenderDone then d
      else
        let s := d.stepSums
        (d.modPod (fun p => { p with readySent := true })).sendMgmt d.manager n
          (.ready (sat32 s.1) (sat32 s.2.1) (sat32 s.2.2.1) (sat32 s.2.2.2))

def execStepClose (s : State) : Host.Outcome State Fault Refusal := run (fun d => d.stepClose) s

/-- The storm test (R136). -/
def storm (pct checked fell : Nat) : Bool := decide (fell * 100 > pct * checked)

/-- FALLBACK_STORM (R136): Dammel judges the device's own sums at the end of the step's forward work. -/
def execFallbackStorm (s : State) : Host.Outcome State Fault Refusal :=
  run (fun d =>
    if d.openStep.isSome ∧ storm d.pod.stormPct d.stepSums.1 d.stepSums.2.1 then (d.raise 0x5002).fire 3 else d) s

/-- OPEN cleared on every engine (R193). -/
def Dev.closeEngines (d : Dev) : Dev := d.activeTiles.foldl (fun d p => if d.flag ENG_STEP_CTX.OPEN p then d.writeStepCtx p 0 else d) d

/-- At the first pinned step, the update that commits step n sets E from SMAX in every tracker of the next buffer (R137). -/
def Dev.pinTrackers (d : Dev) : Dev :=
  d.activeTiles.foldl (fun d p =>
    d.write (d.trkBase p true) (mapTrks (fun t => { t with e := t.smax }) 1024 (d.bytes (d.trkBase p true) 8192))) d

/-- The tracker tables that a pin has changed, streamed again once they are committed, so that the partner's copy is this rank's
state (R137, R406; DESIGN CHOICE, log 30). -/
def Dev.sendPinned (d : Dev) : Dev :=
  if !d.hasTender then d
  else d.activeTiles.foldl (fun (d : Dev) p =>
    match mapOffset d.cbuf d.stateMap 0 (d.trkBase p false) with
    | some off => d.coupled [(d.trkBase p false, 8192)] (fun d =>
        d.tenderSend ((d.engOf p).getD 0) d.partner 6 off (d.bytes (d.trkBase p false) 8192))
    | none => d) d

/-- The handover record (R416, R557). -/
def Dev.saveRecord (d : Dev) : Dev :=
  d.withHandover { qps := d.qps, ranks := d.ranks, members := d.members, mgmtSeq := d.mgmtSeq, awaiting := d.awaiting
                   committed := d.committed, pod := d.pod
                   registers := [(0, d.reg ⟨.SVC_ROLE, 0, 0⟩), (1, d.reg ⟨.SVC_TENDER_CFG, 0, 0⟩), (2, d.reg ⟨.SVC_CKPT_CFG, 0, 0⟩),
        (3, d.reg ⟨.SVC_HB_CFG, 0, 0⟩), (4, d.reg ⟨.SVC_COMMIT_CFG, 0, 0⟩)] }

/-- COMMIT(n) applied on this rank (R137, R193, R391, R410): OPEN first, then CBUF, the committed step, TBUF and the pins, the ward's
among them. -/
def Dev.applyCommit (d : Dev) (n dec k : Nat) : Dev :=
  let pinned := decide (dec = 2) && d.pod.pins == 0
  let d := if pinned then d.pinTrackers else d
  let d := (d.closeEngines).withOpenStep none
  let d := d.activeTiles.foldl (fun d p => d.writeStepCtx p (d.reg ⟨.ENG_STEP_CTX, p, 0⟩ ^^^ 2 ^ 61)) d
  let d := d.withCommitted n
  let d := d.setFld SVC_TENDER_CFG.TBUF (1 - d.fld SVC_TENDER_CFG.TBUF)
  let reps := d.pod.repeats
  let d := d.modPod (fun p => { p with
    pins := if dec = 2 then k else p.pins - 1, lastCommit := (n, dec, k), repeats := 0, seen := [], memHung := [], mismatches := [] })
  let d := if dec = 2 then d.withWardTrailer (d.wardTrailer.1, k) else d
  let d := if pinned then d.sendPinned else d
  (d.endRun 0 n (Nat.min reps 255)).saveRecord

/-- Step n aborted on this rank (R193, R259, R392, R412): every engine flushed, OPEN cleared, the next buffer and TENDER_N
void. -/
def Dev.localAbort (d : Dev) : Dev :=
  let d := d.activeTiles.foldl (fun d p => d.flush p) d
  let d := (d.closeEngines).withOpenStep none
  (d.withTenderTx (d.tenderTx.map (fun (e : Nat × TenderTx) => (e.1, ({ e.2 with unacked := [], resends := 0 } : TenderTx))))).modPod (fun p => { p with
    trailerSent := false, readySent := false, startSeen := none })

/-- The command errors after which Dammel reloads the engine's PROGRAM regions (R411). -/
def cmdDataCodes : List Nat := [0x2001, 0x2003, 0x2004, 0x2005]
/-- The hangs (R411). -/
def hangCodes : List Nat := [0x200E, 0xB008, 0xB007, 0xB804]

/-- The units of a byte range, as addresses. -/
def unitsOf (a n : Nat) : List Nat :=
  let u := unitBytes a
  if n = 0 then [] else (List.range ((a + n - 1) / u - a / u + 1)).map (fun i => (a / u + i) * u)

/-- What a tile's halting error calls for on its own device before the repetition (R411, R414). -/
def Dev.judgeTile (d : Dev) (p : Nat) : Dev :=
  if !d.flag ENG_STATUS.HALTED p then d
  else
    let code := (d.tile p).why.1
    let l := (d.engOf p).getD 0
    let replaced (d : Dev) := d.modPod (fun q => { q with replace := q.replace.filter (· ≠ l) ++ [l] })
    if code = 0x3002 ∨ code = 0x4002 then replaced d
    else if hangCodes.contains code then
      let d := if code = 0x200E then d else
        (List.range 16).foldl (fun d c =>
          if d.fld CPL_LINK_COUNTS.REPLAYS c > tget 0 d.pod.replays c then d.startTraining c else d) d
      if d.pod.hung.contains p then replaced d else d.modPod (fun q => { q with hung := p :: q.hung })
    else if code = 0x8002 ∨ code = 0x7004 then
      if d.pod.memHung.contains p then replaced d else d.modPod (fun q => { q with memHung := p :: q.memHung })
    else if cmdDataCodes.contains code then d.reloadProgram
    else if code = 0x200A ∨ code = 0x200F then
      let key := (p, (d.tile p).why.2, code)
      if d.pod.mismatches.contains key then
        let s := (d.tile p).suspect
        (d.withLost ((unitsOf s.1 s.2).foldl (fun l a => l.filter (· ≠ a) ++ [a]) d.lost))
      else d.modPod (fun q => { q with mismatches := key :: q.mismatches })
    else d

/-- An engine has halted while the step is open (R392). -/
def Dev.ownError (d : Dev) : Bool := d.openStep.isSome && d.activeTiles.any (fun p => d.flag ENG_STATUS.HALTED p)
/-- The device's own halting error aborts the step at once, before the manager's ABORT_STEP comes (R392): what each halted engine calls
for, and the abort. -/
def Dev.ownAbort (d : Dev) : Dev := (d.activeTiles.foldl Dev.judgeTile d).localAbort

/-- What a rank itself repairs between the abort and the repetition is done (R411, R412). -/
def Dev.repaired (d : Dev) : Bool := d.pod.replace.isEmpty && d.lost.isEmpty && d.lostInput.isEmpty

/-- A rank whose repairs are done tells the manager so by COMMITTED of its committed step (log 43). -/
def Dev.tellRepaired (d : Dev) : Dev := if d.repaired then d.sendMgmt d.manager d.committed .committed else d

/-! ## The manager (R390–R392, R411–R413) -/

/-- What holds the START of the next step (R390, R396, R398, R412). -/
def Dev.startHeld (d : Dev) : Bool :=
  d.pod.publishing.isSome || d.pod.fencing.any (fun f => !f.published) || !d.pod.refilling.isEmpty || !d.pod.repairing.isEmpty ||
    (!d.pod.draining.isEmpty && d.pod.aborting ≠ some true) ||
    (d.pod.joining.head?.any (fun j => if j.published then j.tested else j.waiting.isEmpty)) ||
    !d.pod.forming.isEmpty || d.pod.needRestore || d.pod.short ||
    d.pod.holdStart || d.pod.restoring.isSome || d.pod.committing.isSome || !d.pod.unactivated.isEmpty

/-- START(n), when its conditions hold (R390, R412): every rank has committed n − 1, or the aborted step is to be repeated. -/
def Dev.tryStart (d : Dev) : Dev :=
  match d.pod.armed with
  | none => d
  | some a =>
    let n := d.committed + 1
    let again := d.pod.aborting == some true
    if !d.isManager ∨ a.step ≠ n ∨ d.openStep.isSome ∨ d.startHeld then d
    else if !again ∧ (d.pod.startSent = some n ∨ d.stepRanks.any (fun r => tget 0 d.pod.committedBy r < d.committed)) then d
    else
      let d := d.modPod (fun p => { p with startSent := some n, ready := [], aborting := none })
      let d := if again then ((d.bump SVC_RECOVERY_STATUS.REPEATS).phase 7) else (d.setFld SVC_RECOVERY_STATUS.REPEATS 0).phase 0
      d.stepRanks.foldl (fun d r => d.sendMgmt r n .start) d

/-- ABORT_STEP to every rank that takes part (R392, R412). -/
def Dev.sendAbortStep (d : Dev) (code : Nat) (again : Bool) : Dev :=
  let d := (d.settled (fun w => isStart w.body)).modPod (fun p => { p with aborting := some again, ready := [] })
  let d := (d.phase (if again then 1 else 9)).setFld SVC_RECOVERY_STATUS.OUTCOME (if again then 0 else 3)
  d.stepRanks.foldl (fun d r => d.sendMgmt r (d.committed + 1) (.abortStep (BitVec.ofNat 16 code) again)) d

/-- A step may be open on some rank (R387): START has been sent, COMMIT is under way, or a rank has not answered ABORT_STEP. -/
def Dev.anyOpen (d : Dev) : Bool :=
  d.openStep.isSome || d.pod.committing.isSome || (d.pod.aborting.isNone && d.pod.startSent == some (d.committed + 1)) ||
    d.awaiting.any (fun w => isAbort w.body && d.stepRanks.contains w.dst.toNat)

/-- Step n is open in the pod, as its manager sees it. -/
def Dev.stepOpen (d : Dev) : Bool := d.openStep.isSome || d.pod.startSent == some (d.committed + 1)

/-- The manager aborts the step for a cause (R392, R411–R413): once, without repetition when any cause asks for none or the
limit is reached; never once the standby holds COMMIT. Cause 0 is the host's ABORT_STEP. -/
def Dev.abortPod (d : Dev) (code rank : Nat) (again : Bool) : Dev :=
  if !d.isManager ∨ d.pod.committing.isSome ∨ !(d.stepOpen || code = 0) then d
  else match d.pod.aborting with
    | some false => d
    | some true => if again then d else (d.cause code rank 3).sendAbortStep code false
    | none =>
      let n := d.pod.aborts + 1
      let d := ((d.modPod (fun p => { p with aborts := n })).cause code rank 0).raise 0x1110
      if again ∧ n ≥ Nat.max 1 (d.fld SVC_CKPT_CFG.REPEAT_MAX) then (d.raise 0x1111).sendAbortStep 0x1111 false
      else d.sendAbortStep code again

/-- Whether every rank that takes part has committed the manager's committed step (R390). -/
def Dev.allCommitted (d : Dev) : Bool := d.openStep.isNone && d.stepRanks.all (fun r => decide (tget 0 d.pod.committedBy r ≥ d.committed))

/-! ## Messages of a step -/

/-- COMMIT(n) sent to the ranks of a list (R391). -/
def Dev.sendCommit (d : Dev) (rs : List Nat) (c : Nat × Nat × Nat) : Dev :=
  rs.foldl (fun d r => d.sendMgmt r c.1 (.commit (BitVec.ofNat 2 c.2.1) (BitVec.ofNat 8 c.2.2))) d

/-- The decision of a step (R136, R391). -/
def Dev.decision (d : Dev) : Nat × Nat :=
  let c := d.pod.ready.foldl (fun s (e : Nat × Nat × Nat × Nat × Nat) => s + e.2.1) 0
  let f := d.pod.ready.foldl (fun s (e : Nat × Nat × Nat × Nat × Nat) => s + e.2.2.1) 0
  if !storm d.pod.stormPct c f then (0, 0) else if d.pod.policy = 1 then (2, d.pod.pinK) else (1, 0)

/-- READY (R391): once every rank has answered, the decision goes to the standby first. -/
def Dev.onReady (d : Dev) (m : Mgmt) (a b x y : Nat) : Dev :=
  let n := m.step.toNat
  let d := if d.isManager then d.settled (fun w => isStart w.body && w.dst.toNat == m.src.toNat) else d
  if !d.isManager then d.wrongWay
  else if !d.stepOpen ∨ n ≠ d.committed + 1 ∨ d.pod.aborting.isSome ∨ d.pod.committing.isSome ∨ !d.stepRanks.contains m.src.toNat then d
  else
    let d := d.modPod (fun p => { p with ready := p.ready.filter (fun e => e.1 ≠ m.src.toNat) ++ [(m.src.toNat, (a, b, x, y))] })
    if !d.stepRanks.all (fun r => d.pod.ready.any (fun e => e.1 == r)) then d
    else
      let c := (n, d.decision.1, d.decision.2)
      let d := d.modPod (fun p => { p with committing := some c })
      match d.standbyRank with
      | some s => d.sendCommit [s] c
      | none => d.sendCommit d.stepRanks c

def execReady (m : Mgmt) (s : State) : Host.Outcome State Fault Refusal :=
  run (fun d => match m.body with
    | .ready a b x y => d.onNew m (fun d => d.onReady m a.toNat b.toNat x.toNat y.toNat)
    | _ => d) s

end Sys2Proof.Machine
end

