-- ==== Sys2Proof/Machine/Members.lean ====
section
/-! DEFINITION. Routes and group entries (R373, R374, R382, R383), publishing a change (R387), heartbeats, fencing,
replacement, and the standby's takeover (R388–R401). -/

namespace Sys2Proof.Machine

/-! ## Group and route entries (R383) -/

/-- The ranks of group 0, ascending (R382). -/
def podMembers (rk : Tbl RankEntry) : List Nat := (rk.filter (fun e => e.2.state ≠ 0)).map (·.1)

/-- The CPL_GROUP value of rank x for a group with the given members (R374, R383); for a rank outside it, an entry that is not VALID
and keeps the epoch (R385). -/
def groupValue (ms : List Nat) (epoch x : Nat) : Nat :=
  match ms.idxOf? x with
  | none => CPL_GROUP.EPOCH.put 0 epoch
  | some pos =>
    CPL_GROUP.VALID.put (CPL_GROUP.NEXT.put (CPL_GROUP.SIZE.put (CPL_GROUP.POS.put (CPL_GROUP.EPOCH.put 0 epoch) pos) ms.length)
      (ms.getD ((pos + 1) % ms.length) 0)) 1

/-- The direction of a next hop on a ring of n slots, shortest way, ties upward: upward, and across the wrap-around. -/
def ringHop (n a b : Nat) : Option (Bool × Bool) :=
  let up := (b + n - a) % n
  if up = 0 then none else if up ≤ n - up then some (true, decide (a + 1 = n)) else some (false, decide (a = 0))

/-- The CPL_ROUTE value from one slot to another (R373, R383): X first, then Y; connector 4k … 4k + 3 with k = 0 for +X,
1 for −X, 2 for +Y, 3 for −Y (DESIGN CHOICE, log 44). -/
def routeValue (w h : Nat) (a b : RankEntry) : Nat :=
  let mk (k : Nat) (dl : Bool) := 2 ^ 31 + (if dl then 2 ^ 30 else 0) + 15 * 16 ^ k
  match ringHop w a.x.toNat b.x.toNat with
  | some (up, dl) => mk (if up then 0 else 1) dl
  | none =>
    match ringHop h a.y.toNat b.y.toNat with
    | some (up, dl) => mk (if up then 2 else 3) dl
    | none => 0

/-- The torus that the slots of a rank map span. -/
def torusSize (rk : Tbl RankEntry) : Nat × Nat :=
  (rk.foldl (fun m e => Nat.max m e.2.x.toNat) 0 + 1, rk.foldl (fun m e => Nat.max m e.2.y.toNat) 0 + 1)

/-- The hops from one slot to another, as (X, Y, connector) of the slot that each leaves (R373); `fuel` bounds their number. -/
def routeHops (w h : Nat) (b : RankEntry) : Nat → Nat → Nat → List (Nat × Nat × Nat)
  | 0, _, _ => []
  | fuel + 1, x, y =>
    match ringHop w x b.x.toNat with
    | some (up, _) => (x, y, if up then 0 else 1) :: routeHops w h b fuel (if up then (x + 1) % w else (x + w - 1) % w) y
    | none =>
      match ringHop h y b.y.toNat with
      | some (up, _) => (x, y, if up then 2 else 3) :: routeHops w h b fuel x (if up then (y + 1) % h else (y + h - 1) % h)
      | none => []

/-- The route between two ranks of a map, 0 for none (R383). -/
def routeIn (rk : Tbl RankEntry) (a b : Nat) : Nat :=
  let s := torusSize rk
  if (tget {} rk b).state = 0 then 0 else routeValue s.1 s.2 (tget {} rk a) (tget {} rk b)

/-- A change alters a group's members, their devices or their routes (R384). -/
def groupAltered (old new : Tbl RankEntry) (ms ms' : List Nat) : Bool :=
  ms != ms' || ms'.any (fun a => (tget {} old a).deviceId != (tget {} new a).deviceId || ms'.any (fun b => routeIn old a b != routeIn new a b))

/-- Ranks whose state needs a partner. -/
def trains (e : RankEntry) : Bool := e.state == 1 || e.state == 4 || e.state == 5

/-- Ranks in an order in which each stands beside the next on a full torus: row by row, every other row backwards, or column by column
where the number of rows is odd and that of columns even; the last then stands beside the first. -/
def snakeOrder (rk : Tbl RankEntry) (rs : List Nat) : List Nat :=
  let (w, h) := torusSize rk
  let key (r : Nat) : Nat :=
    let e := tget {} rk r
    let x := e.x.toNat
    let y := e.y.toNat
    if h % 2 = 1 ∧ w % 2 = 0 then x * h + (if x % 2 = 0 then y else h - 1 - y) else y * w + (if y % 2 = 0 then x else w - 1 - x)
  rs.mergeSort (fun a b => key a ≤ key b)

/-- Partners of a rank map (R407): those that it names when they satisfy the rule, else a ring that goes from torus neighbour to torus
neighbour as far as the slots allow (DESIGN CHOICE, log 52). -/
def withPartners (rk : Tbl RankEntry) : Tbl RankEntry :=
  let rs := (rk.filter (fun e => trains e.2)).map (·.1)
  let ps := (rk.filter (fun e => trains e.2)).map (fun e => e.2.partner.toNat)
  if rs.length ≤ 1 then rk.map (fun e => (e.1, { e.2 with partner := 0 }))
  else if ps.Nodup ∧ ps.all rs.contains ∧ (rs.zip ps).all (fun e => e.1 ≠ e.2) then rk
  else
    let ring := snakeOrder rk rs
    rk.map (fun e => match ring.idxOf? e.1 with
      | some i => (e.1, { e.2 with partner := BitVec.ofNat 12 (ring.getD ((i + 1) % ring.length) 0) })
      | none => e)

/-- The membership that a change publishes. -/
structure NewPod where
  ranks : Tbl RankEntry
  members : Tbl (List Nat)
  epochs : Tbl Nat
  standby : Option Nat
  deriving DecidableEq, Repr

/-- The rank map with an ABSENT entry for each rank that the old map holds and the new one does not (R380). -/
def withAbsent (old new : Tbl RankEntry) : Tbl RankEntry :=
  new ++ (old.filter (fun e => !new.any (fun n => n.1 == e.1))).map (fun e => (e.1, ({} : RankEntry)))

/-- What a change carries for the rank x (R386): its own group and route values under the pod epoch e, and every rank that the old
map or the new one holds. -/
def changeFor (old : Tbl RankEntry) (np : NewPod) (e manager x : Nat) (newRank : Option Nat) : Change :=
  let all := withAbsent old np.ranks
  let (w, h) := torusSize np.ranks
  let here := tget {} np.ranks x
  { epoch := BitVec.ofNat 16 e
    ranks := all.map (fun r => (BitVec.ofNat 12 r.1, r.2))
    groups := (0, BitVec.ofNat 64 (groupValue (podMembers np.ranks) e x)) ::
      np.members.map (fun g => (BitVec.ofNat 8 g.1, BitVec.ofNat 64 (groupValue g.2 (tget 0 np.epochs g.1) x)))
    routes := all.map (fun r => (BitVec.ofNat 12 r.1, BitVec.ofNat 32 (if r.2.state = 0 then 0 else routeValue w h here r.2)))
    members := np.members.map (fun g => (BitVec.ofNat 8 g.1, g.2.map (BitVec.ofNat 12)))
    newRank := newRank.map (BitVec.ofNat 12)
    manager := BitVec.ofNat 12 manager
    standby := np.standby.map (BitVec.ofNat 12) }

/-- What the standby mirrors (R399, R421, R533). -/
def Dev.mirror (d : Dev) : Mirror :=
  { order := d.pod.order, fence := d.pod.fence, epochs := d.pod.epochs, genNext := d.pod.genNext, hashes := d.pod.hashes
    podManifests := d.pod.podManifests, keys := d.flash.keys.map (fun k => (k.device, k.key0, k.key15)) }

/-- The mirrored records taken over by the standby. -/
def Dev.takeMirror (d : Dev) (m : Option Mirror) : Dev :=
  match m with
  | none => d
  | some m =>
    (d.withFlash { d.flash with keys := m.keys.map (fun (k : Nat × List Byte × List Byte) => (⟨k.1, k.2.1, k.2.2⟩ : KeyEntry)) }).modPod (fun p => { p with
      order := m.order, fence := m.fence, epochs := m.epochs, genNext := m.genNext, hashes := m.hashes
      podManifests := m.podManifests })

/-- The neighbours of a slot on the torus, with the ports of each that face it (R393); connectors as `routeValue` has
them. -/
def neighbours (rk : Tbl RankEntry) (e : RankEntry) (r : Nat) : List (Nat × Nat) :=
  let (w, h) := torusSize rk
  let at_ (x y : Nat) := (rk.filter (fun o => o.1 ≠ r ∧ o.2.state ≠ 0 ∧ o.2.state ≠ 5 ∧ o.2.x.toNat = x ∧ o.2.y.toNat = y)).map (·.1)
  let x := e.x.toNat
  let y := e.y.toNat
  let side (k : Nat) (l : List Nat) : List (Nat × Nat) := l.map (fun o => (o, 15 * 16 ^ k))
  -- a neighbour above in X faces the device with its −X connector, and so on
  let all := side 1 (at_ ((x + 1) % w) y) ++ side 0 (at_ ((x + w - 1) % w) y) ++ side 3 (at_ x ((y + 1) % h)) ++
    side 2 (at_ x ((y + h - 1) % h))
  all.foldl (fun l n => match l.find? (fun m => m.1 == n.1) with
    | some m => l.map (fun k => if k.1 = n.1 then (k.1, k.2 ||| m.2 ||| n.2) else k)
    | none => l ++ [n]) []

/-- The ports of a connector mask disabled (R371, R393). -/
def Dev.disablePorts (d : Dev) (ports : Nat) : Dev :=
  (List.range 16).foldl (fun d c => if bitOf ports c then d.writeCplCtrl c (CPL_CTRL.ENABLE.put (d.reg ⟨.CPL_CTRL, c, 0⟩) 0) else d) d

/-- The ports that face a device which is to be admitted go up again and train (R395). -/
def Dev.enablePorts (d : Dev) (ports : Nat) : Dev :=
  (List.range 16).foldl (fun d c => if bitOf ports c ∧ !d.flag CPL_CTRL.ENABLE c then d.writeCplCtrl c (CPL_CTRL.ENABLE.put (d.reg ⟨.CPL_CTRL, c, 0⟩) 1) else d) d
def Dev.greet (d : Dev) (me : Nat) (c : Change) : Dev :=
  (c.ranks.filter (fun (r : Rank × RankEntry) => decide (r.2.state = 3))).foldl (fun d r =>
    ((neighbours (tset {} d.ranks r.1.toNat r.2) r.2 r.1.toNat).filter (fun n => n.1 == me)).foldl (fun d n => d.enablePorts n.2) d) d

/-- Another device stands at a rank: its streams and alive counters start anew (R347, R380, R516). -/
def Dev.forgetRank (d : Dev) (r : Nat) : Dev :=
  ((d.withMgmtSeen (tset [] (tset [] d.mgmtSeen r []) (4096 + r) [])).withStreams (d.streams.filter (fun s => s.src != r))).withRxAlive
    (d.rxAlive.filter (fun e => e.1 / 64 % 4096 != r))

/-- The streams that a change ends: those of ranks whose device changes, and all of them when this device takes another rank. -/
def Dev.newSeats (d : Dev) (me : Nat) (c : Change) : Dev :=
  if me ≠ d.rank then (((d.withMgmtSeen []).withMgmtSeq []).withStreams []).withRxAlive []
  else (c.ranks.filter (fun (r : Rank × RankEntry) => (d.rankEnt r.1.toNat).deviceId != r.2.deviceId && r.1.toNat != me)).foldl
    (fun d r => d.forgetRank r.1.toNat) d

/-- A change takes effect on this device (R380, R387, R402): the values on all 16 base dies in one pass, then SVC_ROLE. A device that
becomes SPARE gives up its training state (R381). -/
def Dev.applyChange (d : Dev) (c : Change) : Dev :=
  let me := (c.newRank.map (·.toNat)).getD d.rank
  let was := d.fld SVC_ROLE.STATE
  let d := d.newSeats me c
  let d := d.withRanks (c.ranks.foldl (fun t (r : Rank × RankEntry) => tset {} t r.1.toNat r.2) d.ranks)
  let d := d.withMembers (c.members.foldl (fun t (g : BitVec 8 × List Rank) =>
    tset [] t g.1.toNat (g.2.map (fun (r : Rank) => r.toNat))) d.members)
  let d := d.modPod (fun p => { p with standby := c.standby.map (fun (r : Rank) => r.toNat), unheeded := none })
  let d := (List.range 16).foldl (fun d s =>
    let d := c.groups.foldl (fun d g => d.setReg ⟨.CPL_GROUP, s, g.1.toNat⟩ g.2.toNat) d
    c.routes.foldl (fun d r => d.setReg ⟨.CPL_ROUTE, s, r.1.toNat⟩ r.2.toNat) d) d
  let e := d.rankEnt me
  let d := (d.setFld SVC_ROLE.POD_EPOCH c.epoch.toNat).setFld SVC_ROLE.RANK me
  let d := (d.setFld SVC_ROLE.STATE e.state.toNat).setFld SVC_ROLE.ROLE e.role.toNat
  let d := d.setFld SVC_ROLE.MANAGER c.manager.toNat
  let ward := (d.ranks.find? (fun (r : Nat × RankEntry) => decide ((r.2.state = 1 ∨ r.2.state = 4) ∧ r.1 ≠ me ∧ r.2.partner.toNat = me))).map (fun (r : Nat × RankEntry) => r.1)
  let d := (d.setFld SVC_TENDER_CFG.PARTNER e.partner.toNat).setFld SVC_TENDER_CFG.WARD (ward.getD 0)
  let d := if e.state = 2 ∧ was ≠ 2 then d.dropState else d
  ((d.takeMirror c.mirror).raise 0x1103).saveRecord

/-! ## Publishing (R387, R399) -/

def Dev.newPod (d : Dev) : NewPod := { ranks := d.ranks, members := d.members, epochs := d.pod.epochs, standby := d.standbyRank }

/-- The group epochs of a change (R384): raised by 1 for each group that it alters. -/
def Dev.raisedEpochs (d : Dev) (np : NewPod) : Tbl Nat :=
  np.members.foldl (fun t g => match d.members.find? (fun o => o.1 == g.1) with
    | some o => if groupAltered d.ranks np.ranks o.2 g.2 then tset 0 t g.1 ((tget 0 t g.1 + 1) % 65536) else t
    | none => t) np.epochs

/-- PUBLISH to the ranks of a list. -/
def Dev.sendPublish (d : Dev) (parts : List (Nat × Change)) (rs : List Nat) : Dev :=
  (parts.filter (fun e => rs.contains e.1)).foldl (fun d e => d.sendMgmt e.1 d.stepNow (.publish e.2)) d

/-- Every recipient has answered STAGED (R387 steps 3 and 4): the own entries, then ACTIVATE, which names the new epoch, under the
old one. -/
def Dev.finishPublish (d : Dev) : Dev :=
  match d.pod.publishing with
  | none => d
  | some x =>
    let old := d.podEpoch
    let d := d.applyChange x.own
    let d := d.modPod (fun p => { p with
      publishing := none, refilling := p.refilling.filter (fun r => !x.refills.contains r) ++ x.refills
      unactivated := (x.parts.map (fun (e : Nat × Change) => ((e.2.newRank.map (·.toNat)).getD e.1, e.1))).filter (fun e => d.rankState e.1 ≠ 0) })
    let d := x.parts.foldl (fun d e => d.sendMgmtAt old e.1 d.stepNow (.activate x.own.epoch)) d
    let d := match x.cmd with
      | some (who, tag, r0) => d.complete who tag 0 r0 0
      | none => d
    if x.refills.isEmpty then d else d.phase 4

/-- A change is published to every rank that is not ABSENT or FAILED, the standby first (R387, R399). `renames` gives the
ranks whose number changes; the epochs of the groups that the change alters rise by 1 (R384). -/
def Dev.publishPod (d : Dev) (np : NewPod) (renames : List (Nat × Nat)) (refills : List Nat)
    (cmd : Option (Issuer × Nat × Nat) := none) : Dev :=
  let np := { np with epochs := d.raisedEpochs np }
  let e := (d.podEpoch + 1) % 65536
  let new (r : Nat) := (renames.find? (fun x => x.1 == r)).map (·.2)
  let old := (d.ranks.filter (fun x => x.2.state ≠ 0 ∧ x.2.state ≠ 5)).map (·.1)
  let added := (np.ranks.filter (fun x => x.2.state ≠ 0 ∧ (tget {} d.ranks x.1).state = 0)).map (·.1)
  let rs := (old ++ added).filter (· ≠ d.rank)
  let parts := rs.map (fun r => (r, { changeFor d.ranks np e d.rank ((new r).getD r) (new r) with
    mirror := if np.standby = some ((new r).getD r) then some { d.mirror with epochs := np.epochs } else none }))
  let first := match d.standbyRank with | some s => rs.filter (· == s) | none => []
  let wait := if first.isEmpty then rs else first
  let d := (d.modPod (fun p => { p with
    standbyDue := false, epochs := np.epochs
    publishing := some
      { parts := parts, own := changeFor d.ranks np e d.rank d.rank none, waiting := wait, standbyFirst := !first.isEmpty
        refills := refills, cmd := cmd } })).phase 3
  if rs.isEmpty then d.finishPublish else d.sendPublish parts wait

/-- A STAGED that answers a PUBLISH. -/
def Dev.stagedPublish (d : Dev) (r : Nat) : Dev :=
  match d.pod.publishing with
  | none => d
  | some x =>
    let d := d.settled (fun w => isPublish w.body && w.dst.toNat == r)
    let wait := x.waiting.filter (· ≠ r)
    let d := d.modPod (fun p => { p with publishing := some { x with waiting := wait } })
    if !wait.isEmpty then d
    else
      let rest := (x.parts.map (·.1)).filter (· ≠ r)
      if x.standbyFirst ∧ !rest.isEmpty then
        (d.modPod (fun p => { p with publishing := some { x with waiting := rest, standbyFirst := false } })).sendPublish x.parts rest
      else d.finishPublish

/-! ## Replacement (R393, R397, R398, R418, R427) -/

/-- The bytes on the busiest link when a device is refilled as rank r in slot `e` (R418): the partner's stream and the ward's, which
add where their routes share a link. The manager takes every rank's S and P to be its own, and every hop to have 4 ports (log 45). -/
def Dev.refillLoad (d : Dev) (r : Nat) (e : RankEntry) : Nat :=
  let (w, h) := torusSize d.ranks
  let n := d.stateBytes + d.programBytes
  let way (a : RankEntry) := routeHops w h e (w + h) a.x.toNat a.y.toNat
  let partner := way (d.rankEnt (d.rankEnt r).partner.toNat)
  match d.ranks.find? (fun o => o.2.partner.toNat == r && trains o.2 && o.1 != r) with
  | none => n
  | some ward => if (way ward.2).any partner.contains then 2 * n else n

/-- The first rank of a list with the least load. -/
def leastLoad (f : Nat × RankEntry → Nat) : List (Nat × RankEntry) → Option Nat
  | [] => none
  | e :: es => some (es.foldl (fun (m : Nat × Nat) x => if f x < m.2 then (x.1, f x) else m) (e.1, f e)).1

/-- The rank whose device replaces rank r (R418): the SPARE rank with the shortest refill, ties to the lowest; the standby's only when
there is no other, for it is then lost as standby (R399, log 45). -/
def Dev.spareFor (d : Dev) (r : Nat) : Option Nat :=
  let all := d.ranks.filter (fun e => e.2.state = 2 && e.1 ≠ d.rank && d.manager ≠ e.1)
  let free := all.filter (fun e => d.pod.standby ≠ some e.1)
  leastLoad (fun e => d.refillLoad r e.2) (if free.isEmpty then all else free)

/-- The groups that hold a rank, the pod group among them. -/
def Dev.groupsOf (d : Dev) (r : Nat) : List Nat := 0 :: (d.members.filter (fun g => g.2.contains r)).map (·.1)

/-- Ranks whose own copy of their state is lost or not rebuilt yet (R427, R428). -/
def Dev.lostRanks (d : Dev) : List Nat := d.pod.refilling ++ (d.pod.fencing.filter (fun f => !f.published)).map (·.rank)

/-- Rank r has no memory source (R407, R427): the pod has no tender, or its partner's state is lost too. -/
def Dev.noSource (d : Dev) (r : Nat) : Bool :=
  d.stepRanks.length ≤ 1 || d.lostRanks.contains (d.rankEnt r).partner.toNat

/-- The rank map with the role codes that follow from the manager and the standby (R378). -/
def withRoles (rk : Tbl RankEntry) (manager : Nat) (standby : Option Nat) : Tbl RankEntry :=
  rk.map (fun e => (e.1, { e.2 with role := if e.1 = manager then 1 else if some e.1 = standby then 2 else 0 }))

/-- Rank r is given to the device of the spare q (R380, R418): position and partner stay, the slot is the spare's. -/
def replaceRank (rk : Tbl RankEntry) (r q : Nat) : Tbl RankEntry :=
  let o := tget {} rk r
  let s := tget {} rk q
  tset {} (tset {} rk q {}) r { o with deviceId := s.deviceId, state := 1, x := s.x, y := s.y }

/-- The manager names a new standby (R399): the first SPARE or ACTIVE rank of the host's order, else the lowest ACTIVE. -/
def Dev.newStandby (d : Dev) (but : Nat) : Option Nat :=
  let ok (r : Nat) := r ≠ d.rank ∧ r ≠ but
  match d.pod.order.find? (fun r => decide (ok r ∧ (d.rankState r = 1 ∨ d.rankState r = 2))) with
  | some r => some r
  | none => (d.ranks.find? (fun e => decide (ok e.1 ∧ e.2.state = 1))).map (·.1)

/-- The standby's device is to leave its seat (R399): SVC_NO_STANDBY, and a new standby named. -/
def Dev.dropStandby (d : Dev) (q : Nat) : Dev :=
  if d.pod.standby ≠ some q then d
  else (d.raise 0x1107).modPod (fun p => { p with standby := d.newStandby q, standbyDue := true })

/-- A fencing entry changed. -/
def Dev.modFence (d : Dev) (f : Fencing) (g : Fencing → Fencing) : Dev :=
  d.modPod (fun p => { p with fencing := p.fencing.map (fun x => if x.rank = f.rank ∧ x.device = f.device then g x else x) })

/-- The manager's tables with the roles as they are now, and no seat changed. -/
def Dev.publishRoles (d : Dev) : Dev := d.publishPod { d.newPod with ranks := withRoles d.ranks d.rank d.standbyRank } [] []

/-- A due replacement without a spare (R398): SVC_GROUP_SHORT for every group that holds the rank. -/
def Dev.tellShort (d : Dev) (f : Fencing) : Dev :=
  if f.saidShort then d
  else (((d.groupsOf f.rank).foldl (fun d _ => d.raise 0x1102) d).modFence f (fun x => { x with saidShort := true })).modPod
    (fun p => { p with short := true })

/-- The device of the spare q takes rank f.rank, and the change is published (R393, R418). -/
def Dev.publishReplacement (d : Dev) (f : Fencing) (q : Nat) : Dev :=
  let d := (d.dropStandby q).modFence f (fun x => { x with published := true })
  let d := d.modPod (fun p => { p with short := false, needRestore := p.needRestore || d.noSource f.rank })
  d.publishPod { d.newPod with ranks := withRoles (replaceRank d.ranks f.rank q) d.rank d.standbyRank } [(q, f.rank)] [f.rank]

/-- What a fence has made due is published: a seat that takes part in no step stays FAILED, another is given to a spare. -/
def Dev.publishFence (d : Dev) (f : Fencing) : Dev :=
  if !f.seat then (d.modFence f (fun x => { x with published := true })).publishRoles
  else match d.spareFor f.rank with
    | some q => d.publishReplacement f q
    | none => d

/-- The next replacement or new standby that waits is published, when nothing else is and no step is open on any rank (R387, R393,
R398). A new standby, and a new manager, goes with the replacement that is still to come (R401). -/
def Dev.nextPublish (d : Dev) : Dev :=
  if !d.isManager ∨ d.pod.publishing.isSome ∨ !d.pod.unactivated.isEmpty ∨ d.anyOpen then d
  else
    let open_ := d.pod.fencing.filter (fun f => !f.published)
    match open_.find? (fun f => f.due && (!f.seat || (d.spareFor f.rank).isSome)) with
    | some f => d.publishFence f
    | none =>
      let d := (open_.filter (·.due)).foldl Dev.tellShort d
      if d.pod.standbyDue ∧ open_.all (·.due) then d.publishRoles else d

/-- The state of rank r in the manager's own map. -/
def Dev.setRankState (d : Dev) (r st : Nat) : Dev :=
  (d.withRanks (tset {} d.ranks r { d.rankEnt r with state := BitVec.ofNat 4 st }))

/-- A forwarded command ends without an answer (R466). -/
def Dev.dropForwarded (d : Dev) (sel : Forwarded → Bool) : Dev :=
  let gone := d.pod.forwarded.filter sel
  let d := d.modPod (fun p => { p with forwarded := p.forwarded.filter (fun f => !sel f) })
  gone.foldl (fun d f => if h : f.q < 64 then d.complete (.qp ⟨f.q, h⟩) f.tag 0x1C 0 0 else d) d

/-- The manager declares rank r FAILED for a cause (R388, R389, R393, R399, R411): abort, fence list, FENCE_PORT to the
neighbours, a new standby where it was lost. -/
def Dev.declareFailed (d : Dev) (r code : Nat) : Dev :=
  if !d.isManager ∨ r = d.rank ∨ d.rankState r = 0 ∨ d.rankState r = 5 then d
  else
    let e := d.rankEnt r
    let lostStandby := decide (d.pod.standby = some r)
    let d := d.abortPod code r true
    let d := d.setRankState r 5
    let d := d.modPod (fun p => { p with
      fence := if p.fence.length < 64 then p.fence ++ [e.deviceId.toNat] else p.fence
      refilling := p.refilling.filter (· ≠ r), repairing := p.repairing.filter (· ≠ r), ready := p.ready.filter (fun x => x.1 ≠ r)
      unactivated := p.unactivated.filter (fun x => x.1 ≠ r)
      joining := p.joining.map (fun j => { j with waiting := j.waiting.filter (· ≠ r) })
      needRestore := p.needRestore || p.restoring.isSome
      genFailed := p.genFailed || p.genWait.contains r, genWait := p.genWait.filter (· ≠ r) })
    let d := d.settled (fun w => w.dst.toNat == r)
    let ns := neighbours d.ranks e r
    let own := ns.filter (fun n => n.1 == d.rank)
    let far := ns.filter (fun n => n.1 ≠ d.rank)
    let d := own.foldl (fun d n => d.disablePorts n.2) d
    let d := (d.modPod (fun p => { p with
      fencing := p.fencing ++ [{ rank := r, device := e.deviceId.toNat, waiting := far.map (·.1), due := far.isEmpty, seat := trains e }] })).phase 2
    let d := far.foldl (fun d n => d.sendMgmt n.1 d.stepNow (.fencePort (BitVec.ofNat 16 n.2))) d
    let d := if far.isEmpty then d.raise 0x1104 else d
    let d := d.dropForwarded (fun f => f.rank == r)
    if !lostStandby then d.nextPublish
    else
      let d := (d.raise 0x1107).modPod (fun p => { p with standby := d.newStandby r, standbyDue := true })
      -- the decision that only the lost standby had been sent goes on to every rank (R391, R392)
      let d := match d.pod.committing with
        | some c => if d.openStep.isSome then d.sendCommit d.stepRanks c else d
        | none => d
      d.nextPublish

/-! ## Rows: heartbeats and failures -/

/-- HEARTBEAT_SEND (R388): to the manager and the standby, or from the manager to every rank. -/
def execHeartbeatSend (s : State) : Host.Outcome State Fault Refusal :=
  run (fun d =>
    if !d.inPod then d
    else
      let dest := if d.isManager then d.podPeers else
        ([d.manager] ++ (d.pod.standby.toList.filter (· ≠ d.manager))).filter (· ≠ d.rank)
      dest.foldl (fun d r => d.sendMgmt r d.stepNow
        (.heartbeat (BitVec.ofNat 2 (d.fld SVC_ROLE.ROLE)) (BitVec.ofNat 48 d.committed) d.openStep.isSome)) d) s

/-- READY_WAIT_EXPIRY (R389): a member misses READY while the step is open. -/
def execReadyWaitExpiry (r : Rank) (s : State) : Host.Outcome State Fault Refusal :=
  run (fun d =>
    let r := r.toNat
    if !d.isManager ∨ r = d.rank ∨ !d.stepRanks.contains r ∨ !d.stepOpen ∨ d.pod.aborting.isSome ∨ d.pod.committing.isSome ∨
        d.pod.ready.any (fun e => e.1 == r) then d
    else (d.raise 0x1109).declareFailed r 0x1109) s

/-! ## Rows: publishing and fencing -/

/-- A PUBLISH staged, or held while the step is open (R387). One under the present epoch only mirrors the manager's records
(R399, R421), or has the ports go up that face a device to be admitted (R395). -/
def Dev.stagePublish (d : Dev) (m : Mgmt) (c : Change) : Dev :=
  let d := d.settled (fun w => isFault w.body)
  if c.epoch.toNat = d.podEpoch then ((d.greet d.rank c).takeMirror c.mirror).sendMgmt m.src.toNat d.stepNow (.staged c.epoch)
  else if d.openStep.isSome then d.modPod (fun p => { p with heldPublish := some m })
  else (d.modPod (fun p => { p with staged := some c })).sendMgmt m.src.toNat d.stepNow (.staged c.epoch)

/-- A PUBLISH that waited for the step to close (R387). -/
def Dev.releasePublish (d : Dev) : Dev :=
  match d.pod.heldPublish with
  | some m =>
    (match m.body with
    | .publish c => (d.modPod (fun p => { p with heldPublish := none })).stagePublish m c
    | _ => d)
  | none => d

def execPublish (m : Mgmt) (s : State) : Host.Outcome State Fault Refusal :=
  run (fun d => match m.body with
    | .publish c => d.onNew m (fun d => d.stagePublish m c)
    | _ => d) s

/-- ACTIVATE (R387): the staged values are written and the epoch rises; without a staged change there is nothing to write. -/
def execActivate (m : Mgmt) (s : State) : Host.Outcome State Fault Refusal :=
  run (fun d => match m.body with
    | .activate e => d.onNew m (fun d =>
        match d.pod.staged with
        | some c => if c.epoch = e then (d.modPod (fun p => { p with staged := none })).applyChange c else d
        | none => d)
    | _ => d) s

/-- FENCE_PORT (R393): the ports that face the fenced device go down, and STAGED answers with the present epoch. -/
def execFencePort (m : Mgmt) (s : State) : Host.Outcome State Fault Refusal :=
  run (fun d => match m.body with
    | .fencePort ports => d.onNew m (fun d =>
        (d.disablePorts ports.toNat).sendMgmt m.src.toNat d.stepNow (.staged (BitVec.ofNat 16 d.podEpoch)))
    | _ => d) s

/-- A STAGED that answers a FENCE_PORT (R393, R405): the last one raises SVC_FENCED. -/
def Dev.stagedFence (d : Dev) (r : Nat) : Dev :=
  let d := d.settled (fun w => isFence w.body && w.dst.toNat == r)
  match d.pod.fencing.find? (fun f => f.waiting.contains r) with
  | none => d
  | some f =>
    let wait := f.waiting.filter (· ≠ r)
    let f' : Fencing := { f with waiting := wait, due := f.due || wait.isEmpty }
    let d := d.modPod (fun p => { p with
      fencing := (p.fencing.map (fun g => if g.rank = f.rank ∧ g.device = f.device then f' else g)).filter
        (fun g => !(g.published && g.waiting.isEmpty)) })
    if wait.isEmpty then (d.raise 0x1104).nextPublish else d

/-- A message sent again (R385–R387): with its PSEQ, and under the epoch that its recipient has by now; ACTIVATE keeps its own. -/
def Dev.again (d : Dev) (m : Mgmt) : Mgmt := if isActivate m.body then m else { m with epoch := BitVec.ofNat 16 (d.epochOf m.dst.toNat) }

/-- MESSAGE_RESEND (R386, R387): every message without its reply, ACTIVATE among them. -/
def execMessageResend (s : State) : Host.Outcome State Fault Refusal :=
  run (fun d => if d.isolated then d else (d.withMgmtOut ((d.awaiting.map d.again).reverse ++ d.mgmtOut))) s

/-! ## Rows: isolation and takeover (R394, R400, R401) -/

/-- ISOLATION_TIMEOUT (R394, R429). -/
def execIsolationTimeout (s : State) : Host.Outcome State Fault Refusal :=
  run (fun d => if !d.inPod ∨ d.isolated then d else (d.localAbort.setFld SVC_ROLE.STATE 6).raise 0x1108) s

/-- The standby asks every rank (R400); its own vote is 1, so that it takes no further message from the old manager either. -/
def Dev.askVotes (d : Dev) : Dev :=
  if d.fld SVC_ROLE.ROLE ≠ 2 ∨ d.pod.voting then d
  else
    let d := d.modPod (fun p => { p with voting := true, voters := [d.rank], unheeded := some d.manager })
    d.podPeers.foldl (fun d r => d.sendMgmt r d.stepNow .takeoverQuery) d

def execStandbyTimeout (s : State) : Host.Outcome State Fault Refusal := run Dev.askVotes s
def execTakeoverRetry (s : State) : Host.Outcome State Fault Refusal := run Dev.askVotes s

/-- TAKEOVER_QUERY (R400): `silent` says that no manager heartbeat was accepted for 100 ms; a rank that votes 1 takes no
further message from the old manager. -/
def execTakeoverQuery (m : Mgmt) (silent : Bool) (s : State) : Host.Outcome State Fault Refusal :=
  run (fun d => match m.body with
    | .takeoverQuery => d.onNew m (fun d =>
        let d := if silent then d.modPod (fun p => { p with unheeded := some d.manager }) else d
        d.sendMgmt m.src.toNat d.stepNow (.takeoverVote silent))
    | _ => d) s

/-- TAKEOVER_VOTE (R400). -/
def execTakeoverVote (m : Mgmt) (s : State) : Host.Outcome State Fault Refusal :=
  run (fun d => match m.body with
    | .takeoverVote yes => d.onNew m (fun d =>
        let r := m.src.toNat
        let d := d.settled (fun w => isQuery w.body && w.dst.toNat == r)
        if yes ∧ d.pod.voting then d.modPod (fun p => { p with voters := p.voters.filter (· ≠ r) ++ [r] }) else d)
    | _ => d) s

/-- More than half of the ranks of group 0 other than the manager, the standby included, voted 1 (R400). -/
def Dev.majority (d : Dev) : Bool :=
  let rs := (podMembers d.ranks).filter (· ≠ d.manager)
  decide (2 * (rs.filter (fun r => d.pod.voters.contains r)).length > rs.length)

/-- The last committed step of each rank, as its heartbeats have told it (R386). -/
def Dev.saidCommitted (d : Dev) : Tbl Nat :=
  tset 0 (d.peers.foldl (fun (t : Tbl Nat) (e : Nat × Nat × Nat × Bool) => tset 0 t e.1 e.2.2.1) []) d.rank d.committed

/-- The step after the committed one is open here, or on a rank whose heartbeat said so. -/
def Dev.openInPod (d : Dev) : Bool := d.openStep.isSome || d.peers.any (fun e => e.2.2.2 && e.2.2.1 == d.committed)

/-- The standby becomes manager (R401 step 1). -/
def Dev.becomeManager (d : Dev) (old : Nat) : Dev :=
  let d := ((d.raise 0x1105).setFld SVC_ROLE.ROLE 1).setFld SVC_ROLE.MANAGER d.rank
  (d.withRanks (withRoles d.ranks d.rank none)).modPod (fun p => { p with
    voting := false, standby := d.newStandby old, standbyDue := true
    startSent := if d.openInPod then some (d.committed + 1) else none
    committedBy := d.saidCommitted })

/-- The decision that the standby holds, sent again (R401 step 2). -/
def Dev.commitAgain (d : Dev) (old : Nat) : Dev :=
  let c := d.pod.lastCommit
  if c.1 ≠ 0 ∧ c.1 = d.committed then
    (d.modPod (fun p => { p with committing := some c })).sendCommit (d.stepRanks.filter (· ≠ old)) c
  else d

/-- The standby takes over (R401): SVC_TAKEOVER, the decision or the abort sent again, the old manager fenced, and itself
published as manager with the replacement. -/
def Dev.takeOver (d : Dev) (old : Nat) : Dev :=
  let d := d.becomeManager old
  (if d.openInPod then d.abortPod 0x1101 old true else d.commitAgain old).declareFailed old 0x1101

end Sys2Proof.Machine
end

