-- ==== Sys2Proof/Machine/Generations.lean ====
section
/-! DEFINITION. Generations in checkpoint flash, their manifests and signatures, export, and restore (R420–R427, R430, R431,
R525, R534). -/

namespace Sys2Proof.Machine

/-! ## Signatures (R525, R534) -/

/-- The identity scalar of the complex in control (R523, R524). -/
def Dev.signingKey (d : Dev) : Nat := if d.flag SEC_STATUS.KEY_SEL then d.fuses.keyStby else d.fuses.key
def Dev.sign (d : Dev) (msg : List Byte) : List Byte := ecdsaSign d.signingKey msg

/-- A manifest signature verifies under either identity key of its device's key-table entry (R534). -/
def Dev.manifestSigned (d : Dev) (device : Nat) (bs : List Byte) : Bool :=
  let n := bs.length - 64
  match d.flash.keys.find? (fun k => k.device == device) with
  | none => false
  | some k => ecdsaVerify (keyOf k.key0) (bs.take n) (bs.drop n) || ecdsaVerify (keyOf k.key15) (bs.take n) (bs.drop n)

/-! ## Manifests (R425, R426) -/

/-- SHA-256 of the group plan and of the ACTIVE ranks: each group's number, size and members, then the ACTIVE ranks, as u16
(DEDUCED, log 47). -/
def Dev.planHash (d : Dev) : List Byte :=
  sha256 ((d.members.flatMap (fun (g : Nat × List Nat) => leBytes 2 g.1 ++ leBytes 2 g.2.length ++ g.2.flatMap (leBytes 2))) ++
    d.stepRanks.flatMap (leBytes 2))

/-- SHA-256 of the rank's program image, as the program copy keeps it (R406, R425). -/
def Dev.programHash (d : Dev) : List Byte := sha256 d.programCopy

/-- The rank manifest of a generation (R425). -/
def Dev.manifest (d : Dev) (num step : Nat) (state : List Byte) (foreign : Bool) : List Byte :=
  let blocks := blocksOf state
  let p := d.tileOf 0
  let head := leBytes 4 0x464D5A47 ++ leBytes 2 1 ++ leBytes 2 192 ++ leBytes 4 num ++ leBytes 6 step ++ leBytes 2 d.rank ++
    leBytes 8 d.fuses.deviceId ++ leBytes 16 (d.seed p) ++ d.programHash ++ d.planHash ++ leBytes 2 d.podEpoch ++
    leBytes 2 d.stepRanks.length ++ leBytes 8 state.length ++ leBytes 4 blockSize ++ leBytes 4 blocks.length ++
    leBytes 1 ((if foreign then 1 else 0) + if d.pod.narrow then 2 else 0)
  let body := padTo 192 head ++ blocks.flatMap (fun b => leBytes 8 (crc64 b) ++ leBytes 4 b.length ++ leBytes 4 0)
  body ++ d.sign body

/-- The pod manifest of a generation (R426), from the hashes that the ranks reported. -/
def Dev.podManifest (d : Dev) (num step : Nat) : List Byte :=
  let hs := d.pod.hashes.filter (fun h => h.1 == num)
  let es := d.stepRanks.filterMap (fun r => hs.find? (fun h => h.2.1 == r))
  let head := leBytes 4 0x504D5A47 ++ leBytes 2 1 ++ leBytes 2 64 ++ leBytes 4 num ++ leBytes 6 step ++ leBytes 2 es.length ++
    leBytes 8 d.fuses.deviceId ++ d.planHash
  let body := padTo 64 head ++ es.flatMap (fun h => leBytes 2 h.2.1 ++ leBytes 6 0 ++ leBytes 8 h.2.2.1 ++ padTo 32 h.2.2.2.2)
  body ++ d.sign body

/-- MANIFEST_HASH of a rank in a pod manifest. -/
def podHash (pm : List Byte) (r : Nat) : Option (List Byte) :=
  ((List.range (fieldAt pm 18 2)).find? (fun i => fieldAt pm (64 + 48 * i) 2 % 4096 == r)).map (fun i => slice pm (80 + 48 * i) 32)

/-- The remaining pin count in buffer b of the state, where the binding has placed it (R191, R460). -/
def Dev.pinAddr (d : Dev) (b : Nat) : Option Nat :=
  match d.pod.pinAt with
  | none => none
  | some a => (d.stateMap.find? (fun r => r.base ≤ a ∧ a < r.limit)).map (fun r => regBuf r b + (a - r.base))

/-- The reported hash of a rank's manifest, its device and whether it is foreign, as it goes to the manager. -/
def hashReport (device : Nat) (foreign : Bool) (m : List Byte) : List Byte :=
  leBytes 8 device ++ leBytes 1 (if foreign then 1 else 0) ++ sha256 m

/-- This rank writes its committed buffer as generation `num` (R421–R423): status, and the device afterwards; none while the
packets of a foreign generation are not all acknowledged. `good` says that the read-back has matched. A failed unit of the source
ends the writing (R284). -/
def Dev.writeGen (d : Dev) (who : Issuer) (tag num step : Nat) (good : Bool) : Dev × Option Nat :=
  let res := d.sourceReads 4 (d.stateRanges d.cbuf)
  let d := (res.1.withStackHard []).modPod (fun p => { p with hung := [] })
  let state := d.stateOf d.cbuf
  if !res.2 then (d, some 0x19)
  else if d.flashDisabled then
    if !d.hasTender then (d, some 0x15)
    else if d.pod.sending = some (who, tag) then
      (if d.tenderDone then ((d.modPod (fun p => { p with sending := none })), some 0) else (d, none))
    else
      let m := d.manifest num step state true
      let d := (d.tenderSend 0 d.partner 3 0 (state ++ m)).emit who tag (hashReport d.fuses.deviceId true m)
      (d.modPod (fun p => { p with sending := some (who, tag) }), none)
  else match d.makeRoom d.rank state.length with
    | none => (d.raise 0x1117, some 0x14)
    | some gs =>
      let d := d.wear state.length
      if !good then (d.setFld MEM_FLASH_STATUS.WRITE_ERR 1 4, some 0x15)
      else
        let m := d.manifest num step state false
        let g : Gen := { num := num, step := step, rank := d.rank, state := state, manifest := m }
        ((d.modPod (fun p => { p with gens := gs ++ [g] })).emit who tag (hashReport d.fuses.deviceId false m), some 0)

/-! ## The manager's generation (R420, R421, R424) -/

/-- The header and body of a command that Dammel itself sends to a rank. -/
def innerEntry (op tag : Nat) (body : List Byte) : List Byte :=
  padTo 128 (leBytes 2 op ++ [0, 0] ++ leBytes 4 tag ++ leBytes 2 body.length ++ List.replicate 22 0 ++ body)

/-- The queue pair number of commands that the manager's Dammel itself forwards (log 49). -/
def innerQp : Nat := 255

/-- A command of Dammel itself to every rank that takes part, this one included (R420). -/
def Dev.commandAll (d : Dev) (op tag : Nat) (body : List Byte) : Dev :=
  d.stepRanks.foldl (fun d r => d.forwardCmd innerQp tag r (innerEntry op tag body)) d

/-- A step boundary at the manager (R396, R420): every rank has committed, no step is open or being started. -/
def Dev.atBoundary (d : Dev) : Bool :=
  d.isManager && d.allCommitted && d.pod.startSent ≠ some (d.committed + 1) && d.pod.aborting.isNone

/-- The manager withholds START and has every rank write generation G (R420). -/
def Dev.startGen (d : Dev) : Dev :=
  let num := d.pod.genNext
  let d := d.modPod (fun p => { p with
    holdStart := true, ckptDue := false, genNext := p.genNext + 1, genWait := d.stepRanks, genFailed := false })
  let d := (d.setFld SVC_CKPT_STATUS.HOLD 1).phase 8
  d.commandAll 0x40 num (leBytes 6 d.committed ++ leBytes 4 num)

/-- Every rank has answered CHECKPOINT (R421): G is pod-complete, or not. -/
def Dev.finishGen (d : Dev) (num : Nat) : Dev :=
  let d := ((d.modPod (fun p => { p with holdStart := false })).setFld SVC_CKPT_STATUS.HOLD 0).phase 0
  let cmd := d.pod.ckptCmd
  let d := d.modPod (fun p => { p with ckptCmd := none })
  let done (d : Dev) (st : Nat) := match cmd with
    | some (who, tag) => d.complete who tag st num 0
    | none => d
  if d.pod.genFailed then done ((d.modPod (fun p => { p with hashes := p.hashes.filter (fun h => h.1 ≠ num) })).raise 0x1118) 0x14
  else
    let pm := d.podManifest num d.committed
    let d := d.modPod (fun p => { p with
      podManifests := p.podManifests ++ [(num, pm)]
      gens := p.gens.map (fun g => if g.num = num then { g with podComplete := true } else g) })
    let d := (d.setFld SVC_CKPT_STATUS.STEP d.committed).setFld SVC_CKPT_STATUS.VALID 1
    let d := (d.setFld SVC_CKPT_GEN.GEN num).raise 0x1116
    -- the record is mirrored to the standby under the present epoch (R421)
    let d := match d.standbyRank with
      | some s => d.sendMgmt s d.stepNow (.publish { changeFor d.ranks d.newPod d.podEpoch d.rank s none with mirror := some d.mirror })
      | none => d
    -- a generation for the shared store is pinned on every rank by a second CHECKPOINT of it (R424, log 49)
    let d := if !d.pod.pinNext then d else
      (d.modPod (fun p => { p with pinNext := false })).commandAll 0x40 (2 ^ 30 + num) (leBytes 6 d.committed ++ leBytes 4 num)
    done d 0

/-- A rank's answer to CHECKPOINT (R421). -/
def Dev.genReply (d : Dev) (r num status : Nat) : Dev :=
  if !d.pod.genWait.contains r then d
  else
    let d := d.modPod (fun p => { p with genWait := p.genWait.filter (· ≠ r), genFailed := p.genFailed || status ≠ 0 })
    if d.pod.genWait.isEmpty then d.finishGen num else d

/-- A generation is pinned for export (R424): the earlier ones are released. -/
def Dev.pinGen (d : Dev) (num : Nat) : Dev :=
  let d := d.modPod (fun p => { p with gens := p.gens.map (fun g => { g with pinned := g.num == num }) })
  (d.setFld SVC_CKPT_STATUS.EXPORTING 1).raise 0x1119

/-- CHECKPOINT (R420–R424). From the host of the manager it has the pod take the next generation; from the manager's Dammel
it writes this rank's part, or pins a generation that this rank already has. -/
def execCheckpoint (who : Issuer) (tag : BitVec 32) (good : Bool) (s : State) : Host.Outcome State Fault Refusal :=
  run (fun d => d.cmd who tag 0x40 (fun b d =>
    let step := fieldAt b 0 6
    let num := fieldAt b 6 4
    match who with
    | .qp _ =>
      if d.pod.ckptCmd = some (who, tag.toNat) then d
      else if step ≠ d.committed ∨ num ≠ d.pod.genNext ∨ d.openStep.isSome then d.reject who tag.toNat 6
      else if d.pod.holdStart ∨ !d.atBoundary then d
      else (d.modPod (fun p => { p with ckptCmd := some (who, tag.toNat) })).startGen
    | .forwarded _ _ =>
      if step ≠ d.committed ∨ d.openStep.isSome then d.complete who tag.toNat 6 0 0
      else if d.pod.gens.any (fun g => g.num == num && g.rank == d.rank) then (d.pinGen num).complete who tag.toNat 0 num 0
      else
        match d.writeGen who tag.toNat num step good with
        | (d, some st) => d.complete who tag.toNat st num 0
        | (d, none) => d)) s

/-- FLASH_INTERVAL (R20, R381, R420): the spare tiles run their self-test, on a device that is SPARE every tile; `failing` are those that
do not pass. The generation is taken at the next boundary. -/
def Dev.spareTest (d : Dev) (failing : List Nat) : Dev :=
  let d' := (failing.filter (fun p => decide (p < 80) && ((d.engOf p).isNone || d.fld SVC_ROLE.STATE == 2))).foldl Dev.markBad d
  if d.fld SVC_ROLE.STATE = 2 then d'.placeEngines else d'

def execFlashInterval (failing : List Nat) (s : State) : Host.Outcome State Fault Refusal :=
  run (fun d =>
    let d := d.spareTest failing
    if !d.isManager ∨ d.pod.holdStart then d
    else if d.atBoundary then d.startGen
    else d.modPod (fun p => { p with ckptDue := true })) s

/-- STORE_INTERVAL (R424): a generation at the next boundary, pinned once it is pod-complete; STORE_MIN 0 disables. -/
def execStoreInterval (s : State) : Host.Outcome State Fault Refusal :=
  run (fun d =>
    if !d.isManager ∨ d.fld SVC_CKPT_CFG.STORE_MIN = 0 then d
    else
      let d := d.modPod (fun p => { p with pinNext := true })
      if d.pod.holdStart then d else if d.atBoundary then d.startGen else d.modPod (fun p => { p with ckptDue := true })) s

/-! ## Export and blocks from the host (R424, R427, R456) -/

/-- EXPORT (R424): a block or a manifest of a pinned generation; RESULT1 is the CRC-64 of its bytes. -/
def Dev.exportItem (d : Dev) (num item : Nat) : Nat ⊕ List Byte :=
  match d.pod.gens.find? (fun g => g.num == num && g.rank == d.rank && g.pinned) with
  | none => .inl (if d.flashDisabled then 0x15 else 0x13)
  | some g =>
    if item = 0xFFFFFFFF then .inr g.manifest
    else if item = 0xFFFFFFFE then
      (match d.pod.podManifests.find? (fun m => m.1 == num) with
      | some m => .inr m.2
      | none => .inl 0x13)
    else match (blocksOf g.state)[item]? with
      | some b => .inr b
      | none => .inl 6

def execExportGen (who : Issuer) (tag : BitVec 32) (out : DmaOut) (s : State) : Host.Outcome State Fault Refusal :=
  run (fun d => d.cmdNow who tag 0x43 (fun b d =>
    match d.exportItem (fieldAt b 16 4) (fieldAt b 20 4) with
    | .inl st => (d, st, 0, 0)
    | .inr bs => d.sendOut who tag out bs bs.length (crc64 bs))) s

/-- EXPORT_RELEASE (R424): on the manager it releases the generation on every rank. -/
def execExportRelease (who : Issuer) (tag : BitVec 32) (s : State) : Host.Outcome State Fault Refusal :=
  run (fun d => d.cmdNow who tag 0x44 (fun b d =>
    let num := fieldAt b 0 4
    if !d.pod.gens.any (fun g => g.num == num && g.pinned) then (d, 0x13, 0, 0)
    else
      let d := (d.modPod (fun p => { p with gens := p.gens.map (fun g => if g.num = num then { g with pinned := false } else g) })).setFld
        SVC_CKPT_STATUS.EXPORTING 0
      let d := match who with
        | .qp _ => (d.stepRanks.filter (· ≠ d.rank)).foldl (fun d r => d.forwardCmd innerQp (2 ^ 29 + num) r (innerEntry 0x44 (2 ^ 29 + num) (leBytes 4 num))) d
        | .forwarded _ _ => d
      (d, 0, 0, 0))) s

/-- What the host has supplied, with one more block, or with the manifest; another generation's bytes are dropped. -/
def keepBlock (x : StoreIn) (num block : Nat) (bs : List Byte) : StoreIn :=
  let x := if x.num = num then x else { num := num }
  if block = 0xFFFFFFFF then { x with manifest := bs } else { x with blocks := tput x.blocks block bs }

/-- STORE_BLOCKS (R427, R456): a block or the rank manifest of a generation that the host supplies. -/
def execStoreBlocks (who : Issuer) (tag : BitVec 32) (inp : DmaIn) (s : State) : Host.Outcome State Fault Refusal :=
  run (fun d => d.cmdNow who tag 0x42 (fun b d =>
    let num := fieldAt b 16 4
    let block := fieldAt b 20 4
    let n := d.stateBytes
    let count := (n + blockSize - 1) / blockSize
    if block ≠ 0xFFFFFFFF ∧ block ≥ count then (d, 6, 0, 0)
    else
      let need := if block = 0xFFFFFFFF then manifestLen n else Nat.min blockSize (n - block * blockSize)
      match inp.failed with
      | some k => (d, 0x18, k, 0)
      | none =>
        if inp.bytes.length < need then (d, 6, 0, 0)
        else
          (d.modPod (fun p => { p with store := keepBlock p.store num block (inp.bytes.take need) }), 0, need, 0))) s

/-! ## Restore (R427, R430, R431) -/

/-- The manifest and the state of a generation at this rank: from flash, from the partner's flash as the partner sends it
(state, then manifest), or as the host has supplied it. -/
def Dev.genSource (d : Dev) (num source : Nat) (foreign : List Byte) : Option (List Byte × List Byte) :=
  if source = 1 then
    if d.pod.store.num = num ∧ d.pod.store.manifest ≠ [] then some (d.pod.store.manifest, d.pod.store.blocks.flatMap (·.2)) else none
  else match d.pod.gens.find? (fun g => g.num == num && g.rank == d.rank) with
    | some g => some (g.manifest, g.state)
    | none => if foreign = [] then none else some (foreign.drop d.stateBytes, foreign.take d.stateBytes)

/-- The row of R430 that fails at this rank, for the rows that a rank checks on its own manifest: 1 for an open step, then
from the signature on. -/
def Dev.restoreRow (d : Dev) (num : Nat) (m state : List Byte) : Option Nat :=
  let f (i n : Nat) := fieldAt m i n
  let blocks := blocksOf state
  let crcOk := decide (blocks.length = f 124 4) &&
    (blocks.zip (List.range blocks.length)).all (fun e => crc64 e.1 == f (192 + 16 * e.2) 8 && e.1.length == f (200 + 16 * e.2) 4)
  if d.openStep.isSome then some 1
  else if f 18 2 ≠ d.rank ∨ !d.manifestSigned (f 20 8) m then some 3
  else if f 8 4 ≠ num then some 4
  else if f 28 16 ≠ d.seed (d.tileOf 0) then some 5
  else if slice m 44 32 ≠ d.programHash then some 6
  else if slice m 76 32 ≠ d.planHash ∨ f 110 2 ≠ d.stepRanks.length then some 7
  else if f 112 8 ≠ d.stateBytes ∨ state.length ≠ d.stateBytes ∨ bitOf (f 128 1) 1 ≠ d.pod.narrow then some 8
  else if !crcOk then some 9
  else none

/-- The pins that a state carries, where the binding says. -/
def Dev.pinsIn (d : Dev) : Nat := match d.pinAddr d.cbuf with | some a => d.nat a 1 | none => 0

/-- A state written into CBUF and streamed to the partner's TBUF (R431, R460). -/
def Dev.writeState (d : Dev) (state : List Byte) (step : Nat) : Dev :=
  let d := d.putState d.cbuf state
  let d := d.withCommitted step
  let d := d.modPod (fun p => { p with pins := d.pinsIn, stateWritten := true })
  if !d.hasTender then d
  else (d.tenderSend 0 d.partner 1 0 state).tenderPacket 0 d.partner 1 true state.length (trailer step d.pod.pins)

/-- The manager asks every rank to check, and then to take up, a generation (R430, R431, log 49). -/
def Dev.sendRestore (d : Dev) (x : Restoring) : Dev :=
  let tag := 2 ^ 31 + x.num * 2 + (if x.checking then 1 else 0)
  (d.modPod (fun p => { p with restoring := some { x with waiting := d.stepRanks }, hashIn := if x.checking then [] else p.hashIn })).commandAll
    0x41 tag (leBytes 4 x.num ++ leBytes 1 (x.source + if x.checking then 2 else 0))

/-- A restore begins on the manager, once the pod manifest verifies (R430 rows 1 and 2). -/
def Dev.beginRestore (d : Dev) (cmd : Option (Issuer × Nat)) (num source : Nat) : Dev ⊕ (Nat × Nat) :=
  if d.openStep.isSome then .inr (0x12, 1)
  else match d.pod.podManifests.find? (fun m => m.1 == num) with
    | none => .inr (if source = 0 then (0x13, 0) else (0x12, 2))
    | some (_, pm) =>
      if fieldAt pm 8 4 ≠ num ∨ !d.manifestSigned (fieldAt pm 20 8) pm then .inr (0x12, 2)
      else .inl (((d.setFld SVC_RECOVERY_STATUS.OUTCOME (1 + source)).phase 5).sendRestore
        { cmd := cmd, num := num, source := source, step := fieldAt pm 12 6, waiting := [] })

/-- The newest pod-complete generation, if every rank's part is readable from a flash that answers (R427): its own, on the
device that wrote it, or its partner's. -/
def Dev.readableGen (d : Dev) : Option Nat :=
  match d.pod.podManifests.getLast? with
  | none => none
  | some (num, _) =>
    if d.stepRanks.all (fun r => d.pod.hashes.any (fun h => h.1 == num && h.2.1 == r &&
        (if h.2.2.2.1 then !d.lostRanks.contains (d.rankEnt r).partner.toNat else h.2.2.1 == (d.rankEnt r).deviceId.toNat)))
    then some num else none

/-- Outcome 3: the group waits for the host's blocks (R427). -/
def Dev.waitStore (d : Dev) : Dev := ((d.setFld SVC_RECOVERY_STATUS.OUTCOME 2).phase 6).raise 0x1115

/-- Outcome 2 or 3 (R427): the aborted step is not repeated, and the newest readable generation is taken up. -/
def Dev.outcome23 (d : Dev) : Dev :=
  let d := d.modPod (fun p => { p with needRestore := false })
  match d.readableGen with
  | none => d.waitStore
  | some num => match d.beginRestore none num 0 with
    | .inl d => d
    | .inr _ => d.waitStore

/-- A restore ends (R430, R431). -/
def Dev.endRestore (d : Dev) (x : Restoring) (status r0 : Nat) : Dev :=
  let d := d.modPod (fun p => { p with restoring := none })
  if status ≠ 0 then
    match x.cmd with
    | some (who, tag) => (d.phase 0).complete who tag status r0 0
    | none => d.waitStore
  else
    let d := d.modPod (fun p => { p with
      refilling := [], startSent := none, aborting := none
      committedBy := d.stepRanks.map (fun r => (r, x.step)) })
    let d := (if x.source = 0 then d.raise 0x1114 else d).phase 0
    match x.cmd with
    | some (who, tag) => d.complete who tag 0 x.num x.step
    | none => d

/-- A rank's answer to RESTORE: while checking, its manifest's hash and step are held against the pod manifest. -/
def Dev.restoreReply (d : Dev) (r status r0 r1 : Nat) : Dev :=
  match d.pod.restoring with
  | none => d
  | some x =>
    if !x.waiting.contains r then d
    else if status ≠ 0 then d.endRestore x status r0
    else
      let pm := ((d.pod.podManifests.find? (fun m => m.1 == x.num)).map (·.2)).getD []
      if x.checking ∧ podHash pm r ≠ some (tget [] d.pod.hashIn r) then d.endRestore x 0x12 3
      else if x.checking ∧ r1 ≠ x.step then d.endRestore x 0x12 4
      else
        let wait := x.waiting.filter (· ≠ r)
        let d := d.modPod (fun p => { p with restoring := some { x with waiting := wait } })
        if !wait.isEmpty then d
        else if x.checking then d.sendRestore { x with checking := false }
        else d.endRestore x 0 0

/-- RESTORE (R430, R431): from the host of the manager, or the check and the take-up on each rank. A take-up answers once
the partner has acknowledged every packet. -/
def execRestore (who : Issuer) (tag : BitVec 32) (foreign : List Byte) (s : State) : Host.Outcome State Fault Refusal :=
  run (fun d => d.cmd who tag 0x41 (fun b d =>
    let num := fieldAt b 0 4
    let flags := fieldAt b 4 1
    match who with
    | .qp _ =>
      if flags > 1 then d.reject who tag.toNat 6
      else if d.pod.restoring.isSome then d
      else (match d.beginRestore (some (who, tag.toNat)) num flags with
        | .inl d => d
        | .inr (st, r0) => d.complete who tag.toNat st r0 0)
    | .forwarded _ _ =>
      if d.pod.sending = some (who, tag.toNat) then
        (if d.tenderDone then (d.modPod (fun p => { p with sending := none })).complete who tag.toNat 0 num d.committed else d)
      else match d.genSource num (flags % 2) foreign with
        | none => d.complete who tag.toNat (if d.flashDisabled ∧ flags % 2 = 0 then 0x15 else 0x13) 0 0
        | some (m, state) =>
          (match d.restoreRow num m state with
          | some row => d.complete who tag.toNat 0x12 row 0
          | none =>
            if flags ≥ 2 then (d.emit who tag.toNat (sha256 m)).complete who tag.toNat 0 num (fieldAt m 12 6)
            else
              let d := (d.activeTiles.foldl (fun d p => d.flush p) d).writeState state (fieldAt m 12 6)
              if d.hasTender then d.modPod (fun p => { p with sending := some (who, tag.toNat) })
              else d.complete who tag.toNat 0 num d.committed))) s

end Sys2Proof.Machine
end

