-- ==== Sys2Proof/Machine/Recovery.lean ====
section
/-! DEFINITION. The manager's decisions, the messages of commit, abort and start, forwarded commands, and the replacement of
tiles, stacks, modules and service complexes (R274, R292, R390–R392, R396, R397, R411–R419, R465–R467, R494). -/

namespace Sys2Proof.Machine

/-! ## The manager goes on (R390, R396–R399, R412, R427, R428) -/

/-- Rank r and the spare q change places (R397, R419): the spare takes rank r; the old device takes the spare's seat, or
none. -/
def swapRanks (rk : Tbl RankEntry) (r q : Nat) (absent : Bool) : Tbl RankEntry :=
  let o := tget {} rk r
  let s := tget {} rk q
  tset {} (replaceRank rk r q) q (if absent then {} else { deviceId := o.deviceId, state := 2, x := o.x, y := o.y : RankEntry } |> fun e =>
    { e with partner := s.partner })

/-- The first planned removal goes on at a step boundary (R397): DRAINING is published, and, once the spare has the copy, the
spare takes the rank. A rank that has failed meanwhile is no longer removed. -/
def Dev.drain (d : Dev) : Dev :=
  match d.pod.draining with
  | [] => d
  | (r, absent, cmd) :: rest =>
    if d.pod.publishing.isSome ∨ !d.pod.unactivated.isEmpty ∨ !d.atBoundary then d
    else
      let next (d : Dev) := d.modPod (fun p => { p with draining := rest, copied := none })
      if d.rankState r = 1 then d.publishPod { d.newPod with ranks := tset {} d.ranks r { d.rankEnt r with state := 4 } } [] []
      else if d.rankState r = 4 then
        match d.pod.copied with
        | none => d
        | some q =>
          let d := d.dropStandby q
          (next d).publishPod { d.newPod with ranks := withRoles (swapRanks d.ranks r q absent) d.rank d.standbyRank }
            [(q, r), (r, q)] [] (cmd.map (fun c => (c.1, c.2, 0)))
      else match cmd with
        | some (who, tag) => (next d).complete who tag 0x1C 0 0
        | none => next d

/-- Every rank has committed and no step is open on any (R396): the membership may change. -/
def Dev.mayChange (d : Dev) : Bool :=
  d.isManager && !d.anyOpen && d.allCommitted && d.pod.publishing.isNone && d.pod.unactivated.isEmpty

/-- The first device that is being admitted goes on (R395, R396): once its neighbours' ports are up it is published as JOINING, and once
it has passed its self-tests it becomes SPARE by a further publish. -/
def Dev.admitJoined (d : Dev) : Dev :=
  match d.pod.joining with
  | [] => d
  | j :: rest =>
    if !d.mayChange then d
    else if !j.published then
      if !j.waiting.isEmpty then d
      else (d.modPod (fun p => { p with joining := { j with published := true } :: rest })).publishPod
        { d.newPod with ranks := tset {} d.ranks j.rank j.entry } [(j.rank, j.rank)] []
    else if d.rankState j.rank ≠ 3 then
      let d := d.modPod (fun p => { p with joining := rest })
      match j.cmd with
      | some (who, tag) => d.complete who tag 0x1C 0 0
      | none => d
    else if !j.tested then d
    else (d.modPod (fun p => { p with joining := rest })).publishPod
      { d.newPod with ranks := tset {} d.ranks j.rank { d.rankEnt j.rank with state := 2 } } [] [] (j.cmd.map (fun c => (c.1, c.2, j.rank)))

/-- Outcome 2 or 3 begins, or a restore starts again after a failure, once the membership stands (R427, R428). An aborted
step that would have been repeated ends first. -/
def Dev.recoverPod (d : Dev) : Dev :=
  if !d.pod.needRestore ∨ d.openStep.isSome ∨ d.pod.publishing.isSome ∨ !d.pod.unactivated.isEmpty ∨ d.pod.fencing.any (fun f => !f.published) then d
  else if d.pod.aborting = some true then d.sendAbortStep (d.fld SVC_RECOVERY_STATUS.CAUSE) false
  else if d.pod.aborting.isSome then d
  else match d.pod.restoring with
    | none => d.outcome23
    | some x =>
      let d := d.modPod (fun p => { p with needRestore := false })
      if x.source = 1 ∨ d.readableGen = some x.num then d.sendRestore { x with checking := true }
      else (d.modPod (fun p => { p with restoring := none })).waitStore

/-- What the manager does next after anything that it has learned. -/
def Dev.advance (d : Dev) : Dev :=
  if !d.isManager then d
  else
    let ovr := match d.pod.committing with
      | some c => decide (c.1 ≤ d.committed) && d.allCommitted
      | none => false
    let d := if ovr then d.modPod (fun p => { p with committing := none, aborts := 0 }) else d
    let d := d.nextPublish.drain.admitJoined.recoverPod
    let d := if d.pod.ckptDue ∧ !d.pod.holdStart ∧ d.atBoundary then d.startGen else d
    d.tryStart

/-! ## Heartbeats and the takeover (R388, R393, R400, R401) -/

/-- HEARTBEAT (R388, R393): a rank's role, committed step and OPEN; the manager ignores a FAILED rank's. One that says that no step is
open answers an ABORT_STEP (log 115). -/
def execHeartbeat (m : Mgmt) (s : State) : Host.Outcome State Fault Refusal :=
  run (fun d => match m.body with
    | .heartbeat role c o =>
      if d.isManager ∧ d.rankState m.src.toNat = 5 then d
      else d.onNew m (fun d =>
        let d := if o then d else d.settled (fun w => isAbort w.body && w.dst.toNat == m.src.toNat)
        (d.withPeers (tset (0, 0, false) d.peers m.src.toNat (role.toNat, c.toNat, o))).advance)
    | _ => d) s

/-- HEARTBEAT_TIMEOUT (R388). -/
def execHeartbeatTimeout (r : Rank) (s : State) : Host.Outcome State Fault Refusal :=
  run (fun d =>
    let r := r.toNat
    if !d.isManager ∨ r = d.rank ∨ d.rankState r = 0 ∨ d.rankState r = 5 then d else ((d.raise 0x1101).declareFailed r 0x1101).advance) s

/-- FENCE_PUBLISH_TIMEOUT (R393): the replacement is published although some neighbours have not answered. -/
def execFencePublishTimeout (r : Rank) (s : State) : Host.Outcome State Fault Refusal :=
  run (fun d => (d.modPod (fun p => { p with
    fencing := p.fencing.map (fun f => if f.rank = r.toNat then { f with due := true } else f) })).advance) s

/-- TAKEOVER_VOTE_WINDOW (R400, R401). -/
def execTakeoverVoteWindow (s : State) : Host.Outcome State Fault Refusal :=
  run (fun d =>
    if !d.pod.voting then d
    else if d.majority then (d.takeOver d.manager).advance
    else (d.modPod (fun p => { p with voting := false })).settled (fun w => isQuery w.body) |>.raise 0x1106) s

/-! ## COMMIT, COMMITTED, START (R390, R391) -/

/-- A message of the manager, or of the standby that takes over (R399–R401). -/
def Dev.fromManager (d : Dev) (m : Mgmt) : Bool := m.src.toNat == d.manager || d.pod.standby == some m.src.toNat

/-- COMMIT(n) (R391): applied while step n is open; answered again after that. A standby that is a SPARE has no step; it
keeps the decision. -/
def Dev.onCommit (d : Dev) (m : Mgmt) (dec k : Nat) : Dev :=
  let n := m.step.toNat
  let answer (d : Dev) := d.sendMgmt m.src.toNat n .committed
  let d := if d.fromManager m then d.settled (fun w => isFault w.body) else d
  if !d.fromManager m then d.wrongWay
  else if d.committed ≥ n then answer d
  else if d.openStep = some n then answer ((d.settled (fun w => isReady w.body)).applyCommit n dec k).releasePublish
  else if d.fld SVC_ROLE.STATE = 2 ∧ d.openStep.isNone then answer ((d.withCommitted n).modPod (fun p => { p with lastCommit := (n, dec, k) }))
  else d

def execCommit (m : Mgmt) (s : State) : Host.Outcome State Fault Refusal :=
  run (fun d => match m.body with
    | .commit dec k => d.onMgmt m (fun late d => if late ∧ d.committed < m.step.toNat then d else d.onCommit m dec.toNat k.toNat)
    | _ => d) s

/-- COMMITTED (R391, R412, R418, R419): the standby's lets COMMIT go to the other ranks; a replacement's, and that of a rank
which has repaired itself, ends what the manager waits for (log 43); a JOINING device's says that its self-tests have passed (log 113); a SPARE's, outside a commit, says that it has the copy
of a rank that drains. -/
def Dev.onCommitted (d : Dev) (m : Mgmt) : Dev :=
  let r := m.src.toNat
  let n := m.step.toNat
  if !d.isManager then d.wrongWay
  else
    let d := d.settled (fun w => w.dst.toNat == r && ((isCommit w.body && w.step.toNat == n) || (isAbort w.body && w.step.toNat == n + 1)))
    let d := d.modPod (fun p => { p with
      committedBy := tset 0 p.committedBy r (Nat.max n (tget 0 p.committedBy r))
      joining := p.joining.map (fun j => if j.rank = r ∧ j.published then { j with tested := true } else j)
      repairing := p.repairing.filter (· ≠ r)
      refilling := if n ≥ d.committed then p.refilling.filter (· ≠ r) else p.refilling })
    let d := match d.pod.committing with
      | some c =>
        let rest := d.stepRanks.filter (· ≠ r)
        if c.1 = n ∧ d.standbyRank = some r ∧ rest.any (fun x => tget 0 d.pod.committedBy x < n) ∧
            !d.awaiting.any (fun w => isCommit w.body && w.step.toNat == n) then d.sendCommit rest c else d
      | none => if d.rankState r = 2 ∧ !d.pod.draining.isEmpty ∧ n = d.committed then d.modPod (fun p => { p with copied := some r }) else d
    d.advance

def execCommitted (m : Mgmt) (s : State) : Host.Outcome State Fault Refusal :=
  run (fun d => match m.body with
    | .committed => d.onNew m (fun d => d.onCommitted m)
    | _ => d) s

/-- START(n) (R390): with an accepted RUN_STEP(n) the step opens; else it waits for the RUN_STEP, or for the end of a
handover (R556). -/
def Dev.onStart (d : Dev) (m : Mgmt) : Dev :=
  let n := m.step.toNat
  let d := if m.src.toNat = d.manager then d.settled (fun w => isFault w.body) else d
  if m.src.toNat ≠ d.manager then d.wrongWay
  else if n ≠ d.committed + 1 ∨ d.openStep.isSome then d
  else if (d.pod.armed.map (·.step)) = some n ∧ d.svc.activating.isNone ∧ d.state ≠ 2 then d.openStepNow n
  else d.modPod (fun p => { p with startSeen := some n })

def execStart (m : Mgmt) (s : State) : Host.Outcome State Fault Refusal :=
  run (fun d => match m.body with
    | .start => d.onNew m (fun d => d.onStart m)
    | _ => d) s

/-- A FAULT to the manager outside a step, too. -/
def Dev.tellManager (d : Dev) (code : Nat) : Dev :=
  if !d.inPod then d else d.sendMgmt d.manager d.stepNow (.fault (BitVec.ofNat 16 code) 0 0)

/-! ## Stack failure (R291, R292) -/

/-- A region has a chunk in stack f. -/
def onStack (f : Nat) (r : RegionEnt) : Option Nat :=
  ((List.range 17).map (fun i => r.base + 2048 * i)).find? (fun a => decide (a < r.limit) && isDramAddr a && homeStack a == f)

/-- FAILED and ACTIVE on every die (R277, R299), recorded in boot flash. -/
def Dev.setFailedStack (d : Dev) (f : Nat) : Dev :=
  let d := (List.range 16).foldl (fun d x =>
    (((d.setFld MEM_SPARE_CFG.FAILED f x).setFld MEM_SPARE_CFG.ACTIVE 1 x).setFld MEM_DECODE_CFG.FAILED f x).setFld MEM_DECODE_CFG.ACTIVE 1 x) d
  (d.withFlash { d.flash with failedStack := some f })

/-- Steps 2–4 of a failover (R292): remap, and every region that the stack held recovered by class; `copies` are the bytes
that the partner sends. A second failure, or one without sparing, is the module's. -/
def Dev.remapStack (d : Dev) (f : Nat) (copies : List (Nat × List Byte)) : Dev :=
  if !d.sparing ∨ d.failed.isSome then (d.withStackDue none).tellManager 0x1101
  else
    let d := ((d.withStackDue none).withLineX (d.lineX.filter (fun e => homeStack (64 * e.1) ≠ f))).withLost (d.lost.filter (fun a => !(isDramAddr a && homeStack a == f)))
    let d := (d.setFailedStack f).raise 0xA006
    let d := (copies.filter (fun c => isDramAddr c.1 && homeStack c.1 == f && [1, 5].contains (d.classOf c.1))).foldl (fun d c => d.write c.1 c.2) d
    let d := if d.programRegions.isEmpty then d else d.reloadProgram
    let inputs := (d.regions.filter (fun r => r.cls = 3 && r.input)).filterMap (onStack f)
    let d := (d.withLostInput (inputs ++ d.lostInput))
    if !d.hasTender ∧ d.stateMap.any (fun r => (onStack f r).isSome) then d.tellManager 0x1114 else d.tellRepaired

/-- STACK_FAILOVER (R292): Dammel declares stack f failed because a bank of it has no spare row left or 64 of its lines have failed
in one interval (`stackDue`), or because its controller reports a fault; the open step is aborted first. -/
def Dev.stackFails (d : Dev) (f : Nat) (reported : Bool) (copies : List (Nat × List Byte)) : Dev :=
  if d.stackDue ≠ some f ∧ !reported then d
  else
    let d := d.report 0xA006
    (if d.openStep.isSome then d.localAbort else d).remapStack f copies

def execStackFailover (f : Die) (copies : List (Nat × List Byte)) (s : State) (reported : Bool := true) : Host.Outcome State Fault Refusal :=
  run (fun d => d.stackFails f reported copies) s

/-- The failover that a step's abort carries out (R292). -/
def Dev.dueFailover (d : Dev) (copies : List (Nat × List Byte)) : Dev :=
  match d.stackDue with
  | some f => d.remapStack f copies
  | none => d

/-! ## ABORT_STEP and FAULT (R392, R411–R414) -/

/-- How the accepted RUN_STEP ends after an abort without repetition (R412, R457): cause 0 is the host's ABORT_STEP. -/
def Dev.endAborted (d : Dev) (code : Nat) : Dev :=
  let r1 := Nat.min d.pod.repeats 255
  let d := if code = 0 then d.endRun 0xB d.committed r1
    else if code = 0x1111 then d.endRun 0xD d.committed r1
    else (d.endRun 0xC d.committed (code * 65536 + r1)).raise 0x111A
  d.modPod (fun p => { p with repeats := 0 })

/-- A unit of the committed state, or of the partner's, whose copy has not come: the copy is lost as well, and the pod goes to its next
layer of defence (R286, R407, R427); the manager learns it by a FAULT with the code of SVC_RESTORE_FLASH (log 51). -/
def Dev.noCopy (d : Dev) : Dev :=
  let gone (a : Nat) := [1, 4, 5].contains (d.classOf a)
  if d.lost.any gone then (d.withLost (d.lost.filter (fun a => !gone a))).tellManager 0x1114 else d

/-- ABORT_STEP(n) (R392, R412): what each halted engine calls for, the abort, the recovery of lost bytes from the copies
that the partner sends, and the repetition armed again, or the RUN_STEP ended. -/
def Dev.onAbortStep (d : Dev) (m : Mgmt) (code : Nat) (again : Bool) (copies : List (Nat × List Byte)) : Dev :=
  let n := m.step.toNat
  if !d.fromManager m then d.wrongWay
  else if n ≠ d.committed + 1 then d
  else
    let d := d.settled (fun w => isReady w.body || isFault w.body)
    let d := (d.activeTiles.foldl Dev.judgeTile d).localAbort
    let d := (((d.dueFailover copies).recoverLost copies).noCopy).releasePublish
    let d := if again then d.modPod (fun p => { p with repeats := p.repeats + 1, armed := p.armed.map (fun a => { a with running := false }) })
      else d.endAborted code
    let d := d.tellRepaired
    if !d.isManager then d
    else
      let d := if again then d else d.modPod (fun p => { p with aborting := none, startSent := none })
      d.advance

def execAbortStepMessage (m : Mgmt) (copies : List (Nat × List Byte)) (s : State) : Host.Outcome State Fault Refusal :=
  run (fun d => match m.body with
    | .abortStep code again => d.onNew m (fun d => d.onAbortStep m code.toNat again copies)
    | _ => d) s

/-- Causes that call for work on the rank itself before the repetition (R411): hard faults, memory checks, a stack,
damaged command data, check mismatches. -/
def repairCodes : List Nat :=
  [0x3002, 0x4002, 0xA002, 0x8002, 0x7004, 0xB00B, 0xA006, 0x2001, 0x2003, 0x2004, 0x2005, 0x200A, 0x200F]
/-- Module power or cooling shutdown (R411). -/
def powerCodes : List Nat := [0xF008, 0xF005, 0xF014, 0xF009]

/-- FAULT (R411, R414): the manager acts on the cause. A code 0x1101 is a rank's word that its module has failed (log 51); a
code that the table does not list aborts without repetition, as a program fault does (log 51). -/
def Dev.onFault (d : Dev) (m : Mgmt) (code eng seq : Nat) : Dev :=
  let r := m.src.toNat
  let d := if d.isManager then d.settled (fun w => isStart w.body && w.dst.toNat == r) else d
  if !d.isManager then d.wrongWay
  else if powerCodes.contains code ∨ code = 0x1101 then (d.declareFailed r code).advance
  else if code = 0x1114 then (d.modPod (fun p => { p with needRestore := true })).advance
  else if code = 0xF012 then
    if (d.spareFor r).isSome ∧ !d.pod.draining.any (fun x => x.1 == r) then
      (d.modPod (fun p => { p with draining := p.draining ++ [(r, true, none)] })).advance
    else d.log 0xF012
  else if code = 0xB00C ∨ !d.stepOpen ∨ d.pod.committing.isSome then d
  else if hangCodes.contains code then
    let same := d.pod.seen.contains (r, eng, seq, code)
    (d.modPod (fun p => { p with seen := (r, eng, seq, code) :: p.seen })).abortPod code r (!same)
  else if repairCodes.contains code then
    (d.modPod (fun p => { p with repairing := p.repairing.filter (· ≠ r) ++ [r] })).abortPod code r true
  else d.abortPod code r false

def execFault (m : Mgmt) (s : State) : Host.Outcome State Fault Refusal :=
  run (fun d => match m.body with
    | .fault code eng seq => d.onNew m (fun d => d.onFault m code.toNat eng.toNat seq.toNat)
    | _ => d) s

/-! ## STAGED and TRIGGER (R387, R393, R494) -/

/-- A PUBLISH under the present epoch that has the ports re-enabled which face a device to be admitted (R395). -/
def entersBy (j : Joining) : MgmtBody → Bool
  | .publish c => !j.published && c.ranks.any (fun r => r.1.toNat == j.rank)
  | _ => false

/-- STAGED: under the next epoch it answers a PUBLISH; under the present one, the first message that waits for it among a
FENCE_PORT, a mirrored record and the ports of a device to be admitted (R393, R395, R421). -/
def Dev.onStaged (d : Dev) (m : Mgmt) (e : Nat) : Dev :=
  let r := m.src.toNat
  if !d.isManager then d.wrongWay
  else if e ≠ d.podEpoch then (d.stagedPublish r).advance
  else match d.awaiting.find? (fun w => w.dst.toNat == r && (isFence w.body || isPublish w.body)) with
    | some w =>
      if isPublish w.body then
        ((d.settled (fun v => v.dst.toNat == r && v.pseq == w.pseq)).modPod (fun p => { p with
          joining := p.joining.map (fun j => if entersBy j w.body then { j with waiting := j.waiting.filter (· ≠ r) } else j) })).advance
      else (d.stagedFence r).advance
    | none => d

def execStaged (m : Mgmt) (s : State) : Host.Outcome State Fault Refusal :=
  run (fun d => match m.body with
    | .staged e => d.onNew m (fun d => d.onStaged m e.toNat)
    | _ => d) s

/-- TRIGGER (R492, R494): a local trigger of the message's class with source REMOTE and the message's origin, never sent
on. -/
def Dev.onTrigger (d : Dev) (rank num : Nat) (capture : Bool) : Dev :=
  if !bitOf (d.fld SNP_TRIG_CFG.EN) 6 then d
  else if d.trig.busy then d.withTrig { d.trig with sources := Nat.lor d.trig.sources 64 }
  else d.deliver 64 capture (some (rank, num)) false

def execTriggerMessage (m : Mgmt) (s : State) : Host.Outcome State Fault Refusal :=
  run (fun d => match m.body with
    | .trigger rank num capture _ => d.onNew m (fun d => d.onTrigger rank.toNat num.toNat capture)
    | _ => d) s

/-! ## Forwarded commands (R465–R467) -/

def isHostCmd : MgmtBody → Bool | .hostCmd .. => true | _ => false

/-- HOST_CMD of KIND 1 (R466): the command enters the forwarding queue, checked as an entry of a ring is (R447). DMA data
(KIND 4) reaches the command as its operand. -/
def Dev.onHostCmd (d : Dev) (m : Mgmt) (h : HostHdr) (bs : List Byte) : Dev :=
  if m.src.toNat ≠ d.manager then d.wrongWay
  else if h.kind ≠ 1 then d
  else
    let e := padTo 128 bs
    let (st, exp) := checkHead e d.pod.takenAlive 96
    let d := d.headCheck st e
    let d := d.modPod (fun p => { p with takenAlive := exp })
    match st with
    | some st => (d.bump MBX_STATUS.REJECTED).sendMgmt d.manager d.stepNow
        (.hostCpl { h with kind := 2 } (cplEntry h.tag.toNat st 0 0 0 0))
    | none => d.modPod (fun p => { p with taken := p.taken ++ [(h.rank.toNat, h.qp.toNat, e)] })

def execHostCmd (m : Mgmt) (s : State) : Host.Outcome State Fault Refusal :=
  run (fun d => match m.body with
    | .hostCmd h bs => d.onNew m (fun d => d.onHostCmd m h bs)
    | _ => d) s

/-- GET_STATE of a rank after POD_FORM (R429): once all have answered with one committed step, the lost ranks are replaced;
else the newest generation is restored. -/
def Dev.formReply (d : Dev) (r c : Nat) : Dev :=
  if !d.pod.forming.contains r then d
  else
    let d := d.modPod (fun p => { p with forming := p.forming.filter (· ≠ r), committedBy := tset 0 p.committedBy r (c % 2 ^ 48) })
    if !d.pod.forming.isEmpty then d
    else if d.stepRanks.any (fun x => tget 0 d.pod.committedBy x ≠ d.committed) then (d.modPod (fun p => { p with needRestore := true })).advance
    else d.advance

/-- The answer to a command of the manager's own Dammel, by its tag (log 49). -/
def Dev.innerReply (d : Dev) (r tag status r0 r1 : Nat) : Dev :=
  if 2 ^ 31 ≤ tag then (d.restoreReply r status r0 r1).advance
  else if tag < 2 ^ 28 then (d.genReply r tag status).advance
  else if tag = 2 ^ 28 then d.formReply r r1
  else d

/-- The first forwarded command of a queue pair and TAG at rank r is no longer waited for. -/
def dropOne (fs : List Forwarded) (q tag r : Nat) : List Forwarded := fs.erase ⟨q, tag, r⟩

/-- HOST_CPL on the manager (R465–R467): a completion, an event of a rank without a host, or the bytes of an OUT list. -/
def Dev.onHostCpl (d : Dev) (m : Mgmt) (h : HostHdr) (bs : List Byte) : Dev :=
  let r := m.src.toNat
  let q := h.qp.toNat
  let tag := h.tag.toNat
  if !d.isManager then d.wrongWay
  else if h.kind = 3 then d.qps.foldl (fun d e => d.putEvent e.1 (fieldAt bs 0 2) (fieldAt bs 4 2 % 4096) (fieldAt bs 6 6)
      (padTo 16 ((bs.drop 12).take 16))) d
  else if h.kind = 4 then
    if q < 64 then d.withHostOut (.out q tag bs :: d.hostOut)
    else if tag < 2 ^ 28 then
      d.modPod (fun p => { p with
        hashes := p.hashes.filter (fun x => !(x.1 == tag && x.2.1 == r)) ++ [(tag, r, fieldAt bs 0 8, bitOf (fieldAt bs 8 1) 0, bs.drop 9)] })
    else d.modPod (fun p => { p with hashIn := tset [] p.hashIn r bs })
  else if h.kind = 2 then
    let d := d.settled (fun w => isHostCmd w.body && w.dst.toNat == r && (match w.body with | .hostCmd g _ => g.qp == h.qp && g.tag == h.tag | _ => false))
    if !d.pod.forwarded.contains ⟨q, tag, r⟩ then d
    else
      let d := d.modPod (fun p => { p with forwarded := dropOne p.forwarded q tag r })
      let st := fieldAt bs 4 2
      if hq : q < 64 then d.complete (.qp ⟨q, hq⟩) tag st (fieldAt bs 8 8) (fieldAt bs 16 8)
      else d.innerReply r tag st (fieldAt bs 8 8) (fieldAt bs 16 8)
  else d

def execHostCpl (m : Mgmt) (s : State) : Host.Outcome State Fault Refusal :=
  run (fun d => match m.body with
    | .hostCpl h bs => d.onNew m (fun d => d.onHostCpl m h bs)
    | _ => d) s

/-- FORWARD_TIMEOUT (R466): no HOST_CPL within TIMEOUT. -/
def Dev.forwardTimeout (d : Dev) (tag : Nat) : Dev :=
  let gone := d.pod.forwarded.filter (fun f => f.tag == tag)
  let d := d.dropForwarded (fun f => f.tag == tag)
  let d := d.settled (fun w => match w.body with | .hostCmd h _ => h.tag.toNat == tag | _ => false)
  (gone.filter (fun f => decide (f.q ≥ 64))).foldl (fun d f => d.innerReply f.rank tag 0x1C 0 0) d

def execForwardTimeout (tag : BitVec 32) (s : State) : Host.Outcome State Fault Refusal := run (fun d => d.forwardTimeout tag.toNat) s

/-! ## Tile replacement (R274, R417) -/

/-- The registers of an engine that Dammel writes for the program, copied to another tile. -/
def movedRegs (p : Nat) : List RegId :=
  [⟨.SIV_CTRL, p, 0⟩, ⟨.SIV_PRE_WIN, p, 0⟩, ⟨.SIV_TABLES, p, 0⟩, ⟨.ENG_STEP_CTX, p, 0⟩, ⟨.ENG_VERSION_STRIDE, p, 0⟩,
    ⟨.ENG_JOB_SEED_LO, p, 0⟩, ⟨.ENG_JOB_SEED_HI, p, 0⟩, ⟨.ENG_WD, p, 0⟩, ⟨.ENG_TTAB, p, 0⟩, ⟨.ENG_HYP_BASE, p, 0⟩, ⟨.ENG_LR_FACTOR, p, 0⟩] ++
    (List.range 256).map (fun n => ⟨.ACB_SLOT_GEOM, p, n⟩)
def Dev.moveRegs (d : Dev) (old new : Nat) : Dev :=
  let src := d
  ((movedRegs old).zip (movedRegs new)).foldl (fun d e => d.setReg e.2 (src.reg e.1)) d

/-- LIST_ADDR of a queue entry moved, with its check (R221, R274). -/
def moveEntry (m : Nat × Nat) (e : List Byte) : List Byte :=
  let e := padTo 32 e
  withCrc ((leBytes 6 (moveAddr m.1 m.2 (fieldAt e 0 6)) ++ slice e 6 22).take 28)

def moveRegion (m : Nat × Nat) (r : RegionEnt) : RegionEnt :=
  let b := moveAddr m.1 m.2 r.base
  { r with base := b, limit := b + (r.limit - r.base), other := r.other.map (moveAddr m.1 m.2) }

/-- The spare tile of a die: usable, and no engine on it. -/
def Dev.spareTile (d : Dev) (x : Nat) : Option Nat :=
  ((List.range 5).map (fun t => 5 * x + t)).find? (fun p => (d.tile p).usable && (d.engOf p).isNone)

/-- Engine l moves onto tile `new` (R417): mapping, registers, window fields, program and committed larder bytes. -/
def Dev.moveEngine (d : Dev) (l old new : Nat) (copies : List (Nat × List Byte)) : Dev :=
  let m := (old, new)
  let d := d.withEngMap (tset (5 * (l / 4) + l % 4) d.engMap l new)
  let d := d.setFld PWR_TILE_CTRL.GATED (d.fld PWR_TILE_CTRL.GATED (new / 5) - (if bitOf (d.fld PWR_TILE_CTRL.GATED (new / 5)) (new % 5) then 2 ^ (new % 5) else 0)) (new / 5)
  let d := (d.moveRegs old new).setFld ENG_STEP_CTX.OPEN 0 new
  let d := (d.withRegions (d.regions.map (moveRegion m))).withLost (d.lost.filter (fun a => moveAddr old new a = a))
  let d := d.modPod (fun p => { p with
    moves := p.moves ++ [m], pinAt := p.pinAt.map (moveAddr old new), queues := p.queues.map (fun q => (q.1, q.2.map (moveEntry m))) })
  (copies.filter (fun c => moveAddr new old c.1 ≠ c.1 && d.classOf c.1 = 1)).foldl (fun d c => d.write c.1 c.2) d.reloadProgram

/-- TILE_REPLACEMENT (R20, R417): between the abort and the repetition. Without a healthy spare on the die, the module has
failed. -/
def Dev.replaceTile (d : Dev) (l : Nat) (copies : List (Nat × List Byte)) : Dev :=
  if !d.pod.replace.contains l ∨ d.openStep.isSome then d
  else
    let old := d.tileOf l
    let d := d.markBad old
    let d := d.modPod (fun p => { p with replace := p.replace.filter (· ≠ l) })
    match d.spareTile (old / 5) with
    | none => d.tellManager 0x1101
    | some new => ((d.moveEngine l old new copies).raise 0x1112).tellRepaired

def execTileReplacement (l : Eng) (copies : List (Nat × List Byte)) (s : State) : Host.Outcome State Fault Refusal :=
  run (fun d => d.replaceTile l copies) s

/-! ## Module refill (R418, R419) -/

/-- The streams of a source (R418, R419): its own state and program, or its ward's, to rank `dst`. Kinds 1 and 2 are those
of a tender; 4 and 5 name the receiver's own state and program (log 30). -/
def Dev.refillOwn (d : Dev) (dst kind : Nat) : Dev :=
  d.coupled (d.stateRanges d.cbuf) (fun d => (d.tenderSend 0 dst kind 0 (d.stateOf d.cbuf)).tenderSend 0 dst (kind + 1) 0 d.programCopy)
def Dev.refillWard (d : Dev) (dst kind : Nat) : Dev :=
  let b := d.fld SVC_TENDER_CFG.TBUF
  d.coupled [(d.tenderAddr b 0, d.wardBytes), (d.tenderAddr 2 0, d.wardProgram)] (fun d =>
    (d.tenderSend 0 dst kind 0 (d.bytes (d.tenderAddr b 0) d.wardBytes)).tenderSend 0 dst (kind + 1) 0 (d.bytes (d.tenderAddr 2 0) d.wardProgram))

/-- MODULE_REFILL of rank r: on the replacement, its state, program and tables, those of its ward, and COMMITTED; on its
partner and its ward, and on a rank that drains, the streams. -/
def Dev.refill (d : Dev) (bind : Dev → RefillIn → Dev) (r : Nat) (x : RefillIn) : Dev :=
  let st := d.fld SVC_ROLE.STATE
  let spare := decide (st = 2)
  if spare ∨ (r = d.rank ∧ st ≠ 4) then
    let d := bind d x
    let d := d.withCommitted (x.step.toNat)
    let d := (d.putState d.cbuf x.state).modPod (fun p => { p with pins := x.pins.toNat, stateWritten := true })
    let d := d.write (d.tenderAddr (d.fld SVC_TENDER_CFG.TBUF) 0) (x.wardState.take d.wardBytes)
    let d := (d.write (d.tenderAddr 2 0) (x.wardProgram.take d.wardProgram)).setFld SVC_TENDER_CFG.VALID 1
    (((d.raise 0x111B).raise 0x1113).saveRecord).sendMgmt d.manager x.step.toNat .committed
  else if r = d.rank then
    match d.spareFor r with
    | some q => (d.refillOwn q 4).refillWard q 1
    | none => d
  else
    let d := if (d.rankEnt r).partner.toNat = d.rank then d.refillWard r 4 else d
    if d.partner = r ∧ (st = 1 ∨ st = 4) then d.refillOwn r 1 else d

/-! ## The two service complexes (R416) -/

/-- LIVENESS_WRITE (R416). -/
def execLivenessWrite (s : State) : Host.Outcome State Fault Refusal :=
  run (fun d => (d.withSvc { d.svc with liveness := d.svc.liveness + 1 })) s

/-- Commands that are started now and were not when the record was written. -/
def Dev.startedSince (d : Dev) (h : Record) : List (Nat × Nat) :=
  d.qps.flatMap (fun (e : Nat × Option QP) => match e.2 with
    | some x => (x.started.filter (fun c => !(match tget none h.qps e.1 with | some y => y.started.contains c | none => false))).map (fun c => (e.1, entryTag c))
    | none => [])

/-- The service complex's registers take the values the record carried (R416). -/
def Dev.restoreRegisters (d : Dev) (rs : List (Nat × Nat)) : Dev :=
  rs.foldl (fun (d : Dev) e => match e.1 with
    | 0 => d.setReg ⟨.SVC_ROLE, 0, 0⟩ e.2
    | 1 => d.setReg ⟨.SVC_TENDER_CFG, 0, 0⟩ e.2
    | 2 => d.setReg ⟨.SVC_CKPT_CFG, 0, 0⟩ e.2
    | 3 => d.setReg ⟨.SVC_HB_CFG, 0, 0⟩ e.2
    | _ => d.setReg ⟨.SVC_COMMIT_CFG, 0, 0⟩ e.2) d

/-- Commands started since the handover complete with ABORTED (R416). -/
def Dev.completeSince (d : Dev) (since : List (Nat × Nat)) : Dev :=
  since.foldl (fun d e => if hq : e.1 < 64 then d.complete (.qp ⟨e.1, hq⟩) e.2 0xB 0 0 else d) d

/-- SVC_COMPLEX_SWITCH (R416): the standby complex resumes Dammel from the record. The rings stand where they are in host
memory; commands started since complete with ABORTED. -/
def Dev.complexSwitch (d : Dev) : Dev :=
  if d.svc.switched then d
  else
    let h := d.handover
    let since := d.startedSince h
    let d := (d.withSvc { d.svc with switched := true }).raise 0x111C
    let d := (d.setFld MBX_STATE.STATE 2).fireMsi 0
    let d := (((((d.withRanks (h.ranks)).withMembers (h.members)).withMgmtSeq (h.mgmtSeq)).withAwaiting (h.awaiting)).withCommitted (h.committed)).withPod (h.pod)
    let d := (d.restoreRegisters h.registers).completeSince since
    let d := (d.setFld SEC_STATUS.KEY_SEL 1).setFld SEC_STATUS.FUSE_SVN d.fuses.svnStby
    let d := ((d.setFld SEC_STATUS.FUSE_SVN_STBY d.fuses.svn).setFld MBX_STATE.STATE 1).fireMsi 0
    if !d.inPod then d
    else ([d.manager] ++ d.pod.standby.toList).eraseDups.foldl (fun d r => d.sendMgmt r d.stepNow
      (.heartbeat (BitVec.ofNat 2 (d.fld SVC_ROLE.ROLE)) (BitVec.ofNat 48 d.committed) d.openStep.isSome)) d

def execSvcComplexSwitch (s : State) : Host.Outcome State Fault Refusal := run (fun d => d.complexSwitch) s

end Sys2Proof.Machine
end

