-- ==== Sys2Proof/Machine/Commands.lean ====
section
/-! DEFINITION. The Dammel commands that form a pod, load and bind a program, move data and run steps (R216, R379, R382, R397,
R406, R407, R412, R456–R460, R533). -/

namespace Sys2Proof.Machine

/-! ## Registers written by their access codes (R9) -/

/-- Boot has completed: MBX_STATE is past BOOTING, and not in FAULT for want of a valid image, where nothing has started (R9, R529,
R552). -/
def Dev.bootComplete (d : Dev) : Bool := d.state != 0 && !(d.state == 3 && d.fld MBX_STATE.REASON == 0xF802)

/-- A register write without an action of its own: the conditions under which a register's text ignores a write are held
(R145, R183, R217, R266–R268, R434, R560); a new TAIL leaves the engine with an entry to fetch (R240, R261); RL fields are locked
once boot has completed (R9). -/
def Dev.writePlain (d : Dev) (r : RegId) (v : Nat) : Dev :=
  let p := r.inst
  if !r.exists then d
  else match r.name with
    | .SIV_PRE_WIN => d.writePreWin p v
    | .ACB_SLOT_GEOM => d.writeSlotGeom p r.idx v
    | .ENG_STEP_CTX => d.writeStepCtx p v
    | .ENG_VERSION_STRIDE | .ENG_JOB_SEED_LO | .ENG_JOB_SEED_HI | .ENG_TTAB | .ENG_HYP_BASE | .ENG_LR_FACTOR =>
      if d.flag ENG_STEP_CTX.OPEN p then d else d.setReg r (writeByAccess r true (d.reg r) v)
    | .SVC_CKPT_CFG =>
      let f := SVC_CKPT_CFG.FLASH_MIN.get v
      let k := SVC_CKPT_CFG.KEEP.get v
      if f < 2 ∨ 60 < f ∨ k < 2 ∨ 15 < k then d else d.setReg r (writeByAccess r true (d.reg r) v)
    | .PWR_CAP =>
      let c := PWR_CAP.CAP_W.get v
      if c = 0 ∨ (1600 ≤ c ∧ c ≤ 3600) then d.setReg r (writeByAccess r true (d.reg r) v) else d
    | .ENG_CQ_PTR => (d.setReg r (writeByAccess r true (d.reg r) v)).sync p
    | _ => d.setReg r (writeByAccess r d.bootComplete (d.reg r) v)

/-! ## SET_CONFIG (R456) -/

def cfgReg : Nat → Option RegId
  | 0x10 => some ⟨.SVC_CKPT_CFG, 0, 0⟩
  | 0x11 => some ⟨.SVC_HB_CFG, 0, 0⟩
  | 0x12 => some ⟨.SVC_COMMIT_CFG, 0, 0⟩
  | 0x20 => some ⟨.PWR_CAP, 0, 0⟩
  | _ => none

def cfgKeys : List Nat := [1, 2, 3, 0x10, 0x11, 0x12, 0x13, 0x20]

/-- The standby order packed into a value: four slots of 16 bits. -/
def packOrder (l : List Nat) : Nat := ((l.take 4).zip (List.range 4)).foldl (fun v e => v + (0x8000 + e.1) * 2 ^ (16 * e.2)) 0
/-- Its used slots, none when the value breaks the packing. -/
def unpackOrder (v : Nat) : Option (List Nat) :=
  let ss := (List.range 4).map (fun k => bitsOf v (16 * k + 15) (16 * k))
  let used := ss.takeWhile (fun s => bitOf s 15)
  let rs := used.map (fun s => s % 4096)
  if (ss.drop used.length).all (· == 0) ∧ used.all (fun s => s / 4096 % 8 == 0) ∧ rs.Nodup then some rs else none

/-- The present value of a key. -/
def Dev.cfg (d : Dev) (key : Nat) : Nat :=
  match key with
  | 1 => d.pod.stormPct
  | 2 => d.pod.policy
  | 3 => d.pod.pinK
  | 0x13 => packOrder d.pod.order
  | k => ((cfgReg k).map d.reg).getD 0

/-- The value is in the key's range. -/
def Dev.cfgOk (d : Dev) (key v : Nat) : Bool :=
  match key with
  | 1 => decide (1 ≤ v ∧ v ≤ 100)
  | 2 => decide (v ≤ 1)
  | 3 => decide (1 ≤ v ∧ v ≤ 255)
  | 0x10 =>
    let f := SVC_CKPT_CFG.FLASH_MIN.get v
    let k := SVC_CKPT_CFG.KEEP.get v
    decide (v < 2 ^ 32 ∧ 2 ≤ f ∧ f ≤ 60 ∧ 2 ≤ k ∧ k ≤ 15)
  | 0x11 => true
  | 0x12 => decide (v < 2 ^ 32)
  | 0x13 => (match unpackOrder v with
    | some rs => rs.all (fun r => d.rankState r == 1 || d.rankState r == 2)
    | none => false)
  | 0x20 => decide (v = 0 ∨ (1600 ≤ v ∧ v ≤ 3600))
  | _ => false

def Dev.setCfg (d : Dev) (key v : Nat) : Dev :=
  match key with
  | 1 => d.modPod (fun p => { p with stormPct := v })
  | 2 => d.modPod (fun p => { p with policy := v })
  | 3 => d.modPod (fun p => { p with pinK := v })
  | 0x13 => d.modPod (fun p => { p with order := (unpackOrder v).getD p.order })
  | k => match cfgReg k with
    | some r => d.writePlain r v
    | none => d

def Dev.setConfig (d : Dev) (b : List Byte) : Dev × Nat × Nat × Nat :=
  let key := fieldAt b 0 2
  let v := fieldAt b 8 8
  if fieldAt b 2 6 ≠ 0 ∨ !d.cfgOk key v then (d, 6, 0, 0) else ((d.setCfg key v).saveRecord, 0, d.cfg key, 0)

def execSetConfig (who : Issuer) (tag : BitVec 32) (s : State) : Host.Outcome State Fault Refusal :=
  run (fun d => d.cmdNow who tag 0x05 (fun b d => d.setConfig b)) s

/-! ## Admission (R533) -/

/-- The public keys that a device's certificates carry, X then Y (R522). -/
def admitKeys (a : AdmitIn) : List Byte × List Byte :=
  let k := a.keys.getD (0, 0)
  (beBytes 64 k.1.toNat, beBytes 64 k.2.toNat)

/-- The certificates lead to the vendor root key, and the report is the device's own over the nonce (R533, R535). -/
def admitOk (device : Nat) (a : AdmitIn) : Bool :=
  let r := a.report
  let key := if bitOf (fieldAt r 48 1) 0 then (admitKeys a).2 else (admitKeys a).1
  a.keys.isSome && r.length == 256 && fieldAt r 0 4 == 0x54415A47 && fieldAt r 4 2 == 1 &&
    fieldAt r 6 2 == 192 && fieldAt r 8 8 == device && slice r 16 32 == padTo 32 a.nonce &&
    ecdsaVerify (keyOf key) (r.take 192) (r.drop 192)

/-- A device whose generations are kept or exported. -/
def Dev.signedKept (d : Dev) (device : Nat) : Bool := d.pod.hashes.any (fun h => h.2.2.1 == device)

/-- An entry enters the key table; a full table loses its oldest entry that no kept generation needs (R533). -/
def Dev.addKey (d : Dev) (k : KeyEntry) : Dev :=
  let rest := d.flash.keys.filter (fun x => x.device ≠ k.device)
  let rest := if rest.length < 8192 then rest else
    match rest.find? (fun x => !d.signedKept x.device) with
    | some x => rest.erase x
    | none => rest
  (d.withFlash { d.flash with keys := rest ++ [k] })

def Dev.addAdmitted (d : Dev) (device : Nat) (a : AdmitIn) : Dev :=
  d.addKey ⟨device, (admitKeys a).1, (admitKeys a).2⟩
def Dev.addSelf (d : Dev) : Dev :=
  d.addKey ⟨d.fuses.deviceId, keyBytes (publicKey d.fuses.key), keyBytes (publicKey d.fuses.keyStby)⟩

/-! ## POD_FORM (R379, R407, R429) -/

/-- A rank map that the host may not give. -/
def Dev.badPod (d : Dev) (x : PodIn) : Bool :=
  let held := x.ranks.filter (fun e => e.2.state ≠ 0)
  let ids : List (BitVec 64) := held.map (fun e => e.2.deviceId)
  let seat (r : Rank) := (x.ranks.find? (fun e => e.1 == r)).any (fun e => e.2.state == 1 || e.2.state == 2)
  !(decide (x.ranks.map (·.1)).Nodup) || !(decide ids.Nodup) || x.ranks.any (fun e => decide (e.2.state.toNat > 5)) || !seat x.manager ||
    x.standby.any (fun r => r == x.manager || !seat r) || !x.order.all seat || !(decide x.order.Nodup) ||
    !held.any (fun e => e.2.deviceId.toNat == d.fuses.deviceId && e.2.state ≠ 5) ||
    held.any (fun e => e.2.state ≠ 5 && d.pod.fence.contains e.2.deviceId.toNat)

/-- The manager of a pod just formed reads every rank's committed step by GET_STATE, and replaces the ranks that the map calls
FAILED (R429). -/
def Dev.startManaging (d : Dev) : Dev :=
  let lost := (d.ranks.filter (fun (e : Nat × RankEntry) => e.2.state = 5)).map (fun (e : Nat × RankEntry) => ({ rank := e.1, device := e.2.deviceId.toNat, waiting := [], due := true } : Fencing))
  let d := d.addSelf.modPod (fun p => { p with fencing := lost, forming := d.stepRanks, committedBy := [] })
  d.commandAll 0x04 (2 ^ 28) []

/-- The devices whose admission a new manager judges, in the order of the map. -/
def Dev.toAdmit (d : Dev) (x : PodIn) : List (Rank × RankEntry) :=
  x.ranks.filter (fun e => e.2.state ≠ 0 && e.2.state ≠ 5 && e.2.deviceId.toNat ≠ d.fuses.deviceId)

/-- The rank that a pod's map gives this device. -/
def Dev.seatIn (d : Dev) (x : PodIn) : Nat := ((x.ranks.find? (fun e => e.2.deviceId.toNat == d.fuses.deviceId)).map (fun e => e.1.toNat)).getD 0

/-- The devices to admit, each with what its admission needs. -/
def Dev.admissions (d : Dev) (x : PodIn) : List ((Rank × RankEntry) × AdmitIn) :=
  (d.toAdmit x).zip (x.admits ++ List.replicate (d.toAdmit x).length (({} : AdmitIn)))

/-- The pod of a map formed: the last one is left, the new one is taken up under the next epoch, and its manager goes on. -/
def Dev.formPod (d : Dev) (x : PodIn) : Dev :=
  let me := d.seatIn x
  let manages := me == x.manager.toNat
  let d := if manages then (d.admissions x).foldl (fun d e => d.addAdmitted e.1.2.deviceId.toNat e.2) d else d
  let rk := withPartners (x.ranks.foldl (fun (t : Tbl RankEntry) e => tset {} t e.1.toNat e.2) [])
  let rk := withRoles rk x.manager.toNat (x.standby.map (·.toNat))
  let np : NewPod := { ranks := rk, members := d.members, epochs := d.pod.epochs, standby := x.standby.map (·.toNat) }
  let np := { np with epochs := d.raisedEpochs np }
  let d := d.leavePod.leavePod2.applyChange (changeFor d.ranks np ((d.podEpoch + 1) % 65536) x.manager.toNat me (some me))
  let d := d.modPod (fun p => { p with order := x.order.map (·.toNat) })
  if manages then d.startManaging else d

def Dev.podForm (d : Dev) (x : PodIn) : Dev × Nat × Nat × Nat :=
  match x.failed with
  | some k => (d, 0x18, k, 0)
  | none =>
    if d.badPod x then (d, 6, 0, 0)
    else if d.seatIn x = x.manager.toNat ∧ !(d.admissions x).all (fun e => admitOk e.1.2.deviceId.toNat e.2) then (d.raise 0xF809, 0x16, 0, 0)
    else (d.formPod x, 0, d.seatIn x, 0)

def execPodForm (who : Issuer) (tag : BitVec 32) (inp : PodIn) (s : State) : Host.Outcome State Fault Refusal :=
  run (fun d => d.cmdNow who tag 0x10 (fun _ d => d.podForm inp)) s

/-! ## POD_ADMIT, POD_REMOVE, GROUP_PLAN (R382, R395–R397) -/

/-- The neighbours of a device to be admitted re-enable their ports (R395 step 2): the own ones at once, the others asked by a PUBLISH
of its entry under the present epoch (log 113). -/
def Dev.greetPorts (d : Dev) (r : Nat) (e : RankEntry) : Dev :=
  let ns := neighbours (tset {} d.ranks r e) e r
  let c : Change := { epoch := BitVec.ofNat 16 d.podEpoch, ranks := [(BitVec.ofNat 12 r, e)], manager := BitVec.ofNat 12 d.rank }
  let d := (ns.filter (fun n => n.1 == d.rank)).foldl (fun d n => d.enablePorts n.2) d
  (ns.filter (fun n => n.1 ≠ d.rank)).foldl (fun d n => d.sendMgmt n.1 d.stepNow (.publish c)) d

/-- POD_ADMIT (R395, R533): checked, off the fence list, the neighbours' ports, then published as JOINING at the lowest free rank; it
completes when the device becomes SPARE. -/
def Dev.podAdmit (d : Dev) (who : Issuer) (tag device : Nat) (a : AdmitIn) : Dev :=
  if device = 0 ∨ d.ranks.any (fun e => e.2.deviceId.toNat == device && e.2.state ≠ 5) ∨
      d.pod.joining.any (fun j => j.entry.deviceId.toNat == device) then d.reject who tag 6
  else if !admitOk device a then (d.raise 0xF809).complete who tag 0x16 0 0
  else match (List.range 4096).find? (fun r => d.rankState r == 0 && !d.pod.joining.any (fun j => j.rank == r)) with
    | none => d.complete who tag 0x1A 0 0
    | some r =>
      let e : RankEntry := { deviceId := BitVec.ofNat 64 device, state := 3, x := a.x, y := a.y }
      let far := ((neighbours (tset {} d.ranks r e) e r).map (·.1)).filter (· ≠ d.rank)
      ((d.addAdmitted device a).modPod (fun p => { p with
        fence := p.fence.filter (· ≠ device), joining := p.joining ++ [{ rank := r, entry := e, waiting := far, cmd := some (who, tag) }] })
        |>.greetPorts r e).advance

/-- A class S command that changes the membership waits until every rank has committed, no step is open on any, and the last change is
active (R387, R396). -/
def Dev.publishBusy (d : Dev) : Bool := !d.mayChange

def execPodAdmit (who : Issuer) (tag : BitVec 32) (inp : AdmitIn) (s : State) : Host.Outcome State Fault Refusal :=
  run (fun d => d.cmd who tag 0x11 (fun b d => if d.publishBusy then d else d.podAdmit who tag.toNat (fieldAt b 0 8) inp)) s

/-- POD_REMOVE (R397): an ACTIVE rank drains into a spare at the next step boundary; a SPARE leaves at once. The manager
itself is not removed (log 53). -/
def Dev.podRemove (d : Dev) (who : Issuer) (tag r how : Nat) : Dev :=
  let st := d.rankState r
  if r ≥ 4096 ∨ how > 1 ∨ r = d.rank ∨ ¬(st = 1 ∨ st = 2) ∨ d.pod.draining.any (fun x => x.1 == r) then d.reject who tag 6
  else if st = 2 then
    if how = 0 then d.complete who tag 0 0 0
    else
      let d := d.dropStandby r
      d.publishPod { d.newPod with ranks := withRoles (tset {} d.ranks r {}) d.rank d.standbyRank } [(r, r)] [] (some (who, tag, 0))
  else if (d.spareFor r).isNone then d.complete who tag 0x1D 0 0
  else (d.modPod (fun p => { p with draining := p.draining ++ [(r, how == 1, some (who, tag))] })).advance

def execPodRemove (who : Issuer) (tag : BitVec 32) (s : State) : Host.Outcome State Fault Refusal :=
  run (fun d => d.cmd who tag 0x12 (fun b d =>
    if d.publishBusy then d else d.podRemove who tag.toNat (fieldAt b 0 2) (fieldAt b 2 1))) s

/-- The entries of a group table (R382): group, epoch, members; none when a field breaks the layout. -/
def parsePlan : Nat → List Byte → Option (List (Nat × Nat × List Nat))
  | 0, _ => some []
  | n + 1, bs =>
    if bs.length < 16 then (if bs.all (· == 0) then some [] else none)
    else
      let size := fieldAt bs 4 2
      let ms := (List.range size).map (fun m => fieldAt bs (16 + 2 * m) 2)
      if fieldAt bs 0 1 = 0 ∨ fieldAt bs 1 1 ≠ 1 ∨ size = 0 ∨ size > 4096 ∨ !(slice bs 6 10).all (· == 0) ∨
          bs.length < 16 + 2 * size ∨ ms.any (fun r => decide (r ≥ 4096)) ∨ ¬ms.Nodup then none
      else (parsePlan n (bs.drop (16 + 2 * size))).map (fun l => (fieldAt bs 0 1, fieldAt bs 2 2, ms) :: l)

/-- The low 64 bits of a SHA-256 value. -/
def low64 (h : List Byte) : Nat := beNat (h.drop 24)

/-- Failed seats that no group of a plan holds need no replacement any more (R398): the partners are assigned among the ranks that go
on (R407). -/
def Dev.releaseSeats (d : Dev) (ms : List (Nat × List Nat)) : Dev :=
  let free (f : Fencing) : Bool := !f.published && !ms.any (fun g => g.2.contains f.rank)
  let gone := (d.pod.fencing.filter free).map (·.rank)
  d.modPod (fun p => { p with
    short := false, fencing := p.fencing.map (fun f => if free f then { f with seat := false, due := true, published := true } else f)
    committedBy := p.committedBy.filter (fun e => !gone.contains e.1) })

/-- The rank map of the pod once failed seats have been released: those that still need a replacement keep their place among the
partners. -/
def Dev.seatedRanks (d : Dev) : Tbl RankEntry :=
  let out (r : Nat) : Bool := d.pod.fencing.any (fun f => f.rank == r && !f.seat)
  let ranks := withPartners (d.ranks.filter (fun e => !out e.1))
  ranks.foldl (fun (t : Tbl RankEntry) e => tset {} t e.1 e.2) (d.ranks.filter (fun e => out e.1))

/-- A plan taken up (R382–R384, R398): groups that the manager holds keep their epoch, raised by the publish where the plan alters them,
and new ones take the table's; groups that the plan does not name end; seats that it leaves out no longer hold START. The change is
published. -/
def Dev.takePlan (d : Dev) (who : Issuer) (tag : Nat) (bs : List Byte) (l : List (Nat × Nat × List Nat)) : Dev :=
  let gone := (d.members.filter (fun g => !l.any (fun x => x.1 == g.1))).map (fun g => (g.1, ([] : List Nat)))
  let epochs := l.foldl (fun t g => if d.members.any (fun x => x.1 == g.1) then t else tset 0 t g.1 g.2.1) d.pod.epochs
  let ms : List (Nat × List Nat) := l.map (fun g => (g.1, g.2.2))
  let hash := (d.withMembers (ms.foldl (fun (t : Tbl (List Nat)) (g : Nat × List Nat) => tset [] t g.1 g.2) [])).planHash
  let d := (d.releaseSeats ms).modPod (fun p => { p with plan := bs })
  d.publishPod { d.newPod with ranks := d.seatedRanks, members := ms ++ gone, epochs := epochs } [] [] (some (who, tag, low64 hash))

/-- GROUP_PLAN (R382–R384). -/
def Dev.groupPlan (d : Dev) (who : Issuer) (tag : Nat) (inp : DmaIn) : Dev :=
  match inp.failed with
  | some k => d.complete who tag 0x18 k 0
  | none =>
    match parsePlan 256 inp.bytes with
    | none => d.reject who tag 6
    | some l =>
      if ¬(l.map (·.1)).Nodup ∨ l.any (fun g => g.2.2.any (fun r => d.rankState r == 0)) then d.reject who tag 6
      else d.takePlan who tag inp.bytes l

def execGroupPlan (who : Issuer) (tag : BitVec 32) (inp : DmaIn) (s : State) : Host.Outcome State Fault Refusal :=
  run (fun d => d.cmd who tag 0x13 (fun _ d => if d.publishBusy then d else d.groupPlan who tag.toNat inp)) s

/-! ## PROGRAM_LOAD and TENSOR_BIND (R166, R216, R221, R285, R406, R408) -/

/-- The bytes of a program's image, in the order given. -/
def imageBytes (x : ProgramIn) : List Byte := x.image.flatMap (fun (e : Nat × List Byte) => e.2)

/-- The program's bytes, queue entries, registers and precision mode taken up (R456): c becomes 0. -/
def Dev.loadProgram (d : Dev) (x : ProgramIn) : Dev :=
  let d := x.image.foldl (fun (d : Dev) e => d.write e.1 e.2) d
  let d := x.registers.foldl (fun d e => d.writePlain e.1 e.2) d
  let d := d.activeTiles.foldl (fun (d : Dev) p => d.setFld ENG_STEP_CTX.NARROW (if x.narrow then 1 else 0) p) d
  ((d.withCommitted 0).withProgramCopy (imageBytes x)).modPod (fun p => { p with
    loaded := true, bound := false, stateWritten := false, narrow := x.narrow, pins := 0, moves := [], image := imageBytes x
    queues := x.queues.map (fun (q : Eng × List (List Byte)) => (q.1.val, q.2.map (padTo 32))) })

def Dev.setSeed (d : Dev) (seed : Nat) : Dev :=
  d.activeTiles.foldl (fun d p => (d.setReg ⟨.ENG_JOB_SEED_LO, p, 0⟩ (seed % 2 ^ 64)).setReg ⟨.ENG_JOB_SEED_HI, p, 0⟩ (seed / 2 ^ 64)) d

def badProgram (d : Dev) (x : ProgramIn) : Bool :=
  x.queues.any (fun q => decide (q.2.length > 255)) || !(decide (x.queues.map (fun q => q.1.val)).Nodup) ||
    x.image.any (fun e => !d.rangeData e.1 e.2.length) || x.registers.any (fun e => !e.1.exists)

def execProgramLoad (who : Issuer) (tag : BitVec 32) (inp : ProgramIn) (s : State) : Host.Outcome State Fault Refusal :=
  run (fun d => d.cmdNow who tag 0x20 (fun b d =>
    match inp.failed with
    | some k => (d, 0x18, k, 0)
    | none =>
      if badProgram d inp then (d, 6, 0, 0)
      else
        let d := ((d.loadProgram inp).setSeed (fieldAt b 16 16)).saveRecord
        (d, 0, low64 d.programHash, 0))) s

/-- The 16 B units that a slot takes, none when it exceeds the buffer (R166). -/
def slotUnits (v : Nat) : Option (Nat × Nat) :=
  let b := ACB_SLOT_GEOM.BASE.get v
  let n := ACB_SLOT_GEOM.ROWS.get v * ((ACB_SLOT_GEOM.COLS.get v + 15) / 16)
  if b + n > 131072 then none else some (b, n)

/-- Slots of one engine overlap, or one exceeds the buffer (R166). -/
def slotConflict (slots : List (Eng × Nat × Nat)) : Bool :=
  slots.any (fun s => (slotUnits s.2.2).isNone || decide (s.2.1 ≥ 256)) ||
    !(decide (slots.Pairwise (fun a b => ¬(a.1 = b.1 ∧ (a.2.1 = b.2.1 ∨
      meets ((slotUnits a.2.2).getD (0, 0)).1 ((slotUnits a.2.2).getD (0, 0)).2 ((slotUnits b.2.2).getD (0, 0)).1 ((slotUnits b.2.2).getD (0, 0)).2)))))

/-- The address ranges that an entry takes. -/
def regSpans (r : RegionEnt) : List (Nat × Nat) := (r.base, regSize r) :: (r.other.map (fun o => (o, regSize r))).toList
/-- The ranges of the tender (R406, R408). -/
def tenderSpans (x : BindIn) : List (Nat × Nat) :=
  if x.wardBytes = 0 ∧ x.wardProgram = 0 then []
  else
    let at_ (b : Nat) := x.tenderBase * 4096 + b * (x.tenderStride * 4096)
    [(at_ 0, x.wardBytes), (at_ 1, x.wardBytes), (at_ 2, x.wardProgram)]

def regionsOverlap (x : BindIn) : Bool :=
  let spans := x.regions.flatMap regSpans ++ tenderSpans x
  !(decide (spans.Pairwise (fun a b => meets a.1 a.2 b.1 b.2 = false)))

/-- A range lies whole in DRAM or in one larder (R285). -/
def Dev.spanOk (d : Dev) (a : Nat × Nat) : Bool :=
  match d.region a.1 with
  | .dram => decide (a.1 + a.2 ≤ d.dramEnd)
  | .larder _ off => decide (off + a.2 ≤ 0x2000000)
  | _ => a.2 == 0
def Dev.overBudget (d : Dev) (x : BindIn) : Bool :=
  !((x.regions.flatMap regSpans ++ tenderSpans x).all d.spanOk)

/-- More than 4,096 entries, the tender's counted, or an entry that the table cannot hold (R285). -/
def badRegions (x : BindIn) : Bool :=
  decide ((x.regions.flatMap regSpans ++ tenderSpans x).length > 4096) || x.regions.any (fun r =>
    decide (r.base % 2048 ≠ 0 ∨ r.limit % 2048 ≠ 0 ∨ r.limit < r.base ∨ r.cls > 6) || r.other.any (fun o => decide (o % 2048 ≠ 0)))

/-- The tables of a binding written (R166, R231, R285, R408). -/
def Dev.bind (d : Dev) (x : BindIn) : Dev :=
  let d := ((d.withRegions (x.regions.mergeSort (fun a b => a.base ≤ b.base))).withWardBytes (x.wardBytes)).withWardProgram (x.wardProgram)
  let d := x.tables.foldl (fun (d : Dev) e => d.write e.1 e.2) d
  let d := x.slots.foldl (fun d s => d.writeSlotGeom (d.tileOf s.1) s.2.1 s.2.2) d
  let d := ((d.setFld SVC_TENDER_BASE.BASE x.tenderBase).setFld SVC_TENDER_CFG.STRIDE x.tenderStride).setFld SVC_TENDER_CFG.VALID
    (if x.wardBytes = 0 then 0 else 1)
  (d.withProgramCopy (d.programImage)).modPod (fun p => { p with bound := true, pinAt := x.pinAt })

/-- The program copy streamed to the partner (R410). -/
def Dev.streamProgram (d : Dev) : Dev := if d.hasTender then d.tenderSend 0 d.partner 2 0 d.programCopy else d

def Dev.tensorBind (d : Dev) (x : BindIn) : Dev × Nat × Nat × Nat :=
  match x.failed with
  | some k => (d, 0x18, k, 0)
  | none =>
    if !d.pod.loaded then (d, 0xE, 0, 0)
    else if badRegions x ∨ x.tables.any (fun e => !d.rangeData e.1 e.2.length) then (d, 6, 0, 0)
    else if slotConflict x.slots then (d, 0xF, 0, 0)
    else if regionsOverlap x then (d, 0x10, 0, 0)
    else if d.overBudget x then (d, 0x11, 0, 0)
    else
      let d := (d.bind x).streamProgram.saveRecord
      (d, 0, d.stateBytes, d.programBytes)

def execTensorBind (who : Issuer) (tag : BitVec 32) (inp : BindIn) (s : State) : Host.Outcome State Fault Refusal :=
  run (fun d => d.cmdNow who tag 0x21 (fun _ d => d.tensorBind inp)) s

/-- A replacement is bound with the failed rank's program and tables, and then refilled (R418). -/
def Dev.bindRefill (d : Dev) (x : RefillIn) : Dev :=
  let d := (d.loadProgram x.load).bind x.bind
  let d := d.putProgram x.program
  (d.withProgramCopy (x.program))

def execModuleRefill (r : Rank) (inp : RefillIn) (s : State) : Host.Outcome State Fault Refusal :=
  run (fun d => d.refill Dev.bindRefill r.toNat inp) s

/-! ## TENSOR_WRITE, TENSOR_READ, STATE_INIT (R459, R460) -/

/-- Bytes from an address on that hold data without a gap. -/
def Dev.dataRun (d : Dev) (a : Nat) : Nat :=
  match d.region a with
  | .dram => if d.dramEnd = 0x10000000000 then 0x10002800000 - a else d.dramEnd - a
  | .larder p _ | .acb p _ => tileBase p + 0x2800000 - a
  | .queue p _ => tileBase p + 0x3012000 - a
  | _ => 0

/-- Bytes of a range before the first unmapped address or failed unit. -/
def Dev.goodRun (d : Dev) (a n : Nat) : Nat :=
  let n := Nat.min n (d.dataRun a)
  let cut (u : Nat) (n : Nat) (e : Nat × Nat) : Nat :=
    match d.unitAddr u e with
    | some b => if meets a n b u then b - a else n
    | none => n
  d.wordX.foldl (cut 32) (d.lineX.foldl (cut 64) n)

/-- Bytes that a host command writes through the fabric, cut where DRAM ends (R297). -/
def Dev.hostWrite (d : Dev) (a : Nat) (bs : List Byte) : Dev :=
  let n := 0x10000000000 - a
  (if a < 0x10000000000 then (d.fabricWrite a (bs.take n)).fabricWrite 0x10000000000 (bs.drop n) else d.fabricWrite a bs).settleHost

/-- A range meets a region whose class TENSOR_WRITE may not change (R459). -/
def Dev.protectedRange (d : Dev) (a n : Nat) : Bool :=
  let hit (s : Nat × Nat) := meets a n s.1 s.2
  d.regions.any (fun r => (r.other.isSome || [1, 2, 4, 5, 6].contains r.cls) && (regSpans r).any hit) ||
    [(d.tenderAddr 0 0, d.wardBytes), (d.tenderAddr 1 0, d.wardBytes), (d.tenderAddr 2 0, d.wardProgram)].any hit

/-- Bytes of a line that a write covers in part and that has failed are not written (R459): the run before it. -/
def Dev.writeRun (d : Dev) (a n : Nat) : Nat :=
  let n := Nat.min n (d.dataRun a)
  let cut (u : Nat) (m : Nat) (e : Nat × Nat) : Nat :=
    match d.unitAddr u e with
    | some b => if meets a n b u ∧ !d.unitCovered u a n e then Nat.min m (b - a) else m
    | none => m
  d.wordX.foldl (cut 32) (d.lineX.foldl (cut 64) n)

def Dev.tensorWrite (d : Dev) (b : List Byte) (inp : DmaIn) : Dev × Nat × Nat × Nat :=
  let a := fieldAt b 16 6
  let n := fieldAt b 22 8
  if inp.failed.isNone ∧ inp.bytes.length < n then (d, 6, 0, 0)
  else if d.protectedRange a n then (d, 7, 0, 0)
  else
    let bs := inp.bytes.take n
    let m := d.writeRun a bs.length
    let stop := (d.partly a bs.length).getD (stopAt 0xA007 (a + m))
    let d := d.hostWrite a (bs.take m)
    if m < bs.length then (d.failAccess 2 true stop, 0x19, m, 0)
    else match inp.failed with
      | some k => if bs.length < n then (d, 0x18, k, 0) else (d, 0, n, 0)
      | none => (d, 0, n, 0)

def execTensorWrite (who : Issuer) (tag : BitVec 32) (inp : DmaIn) (s : State) : Host.Outcome State Fault Refusal :=
  run (fun d => d.cmdNow who tag 0x22 (fun b d => d.tensorWrite b inp)) s

def execTensorRead (who : Issuer) (tag : BitVec 32) (out : DmaOut) (s : State) : Host.Outcome State Fault Refusal :=
  run (fun d => d.cmdNow who tag 0x23 (fun b d =>
    let a := fieldAt b 16 6
    let n := fieldAt b 22 8
    let m := d.goodRun a n
    if out.space < n then (d, 6, 0, 0)
    else
      let d := (d.sourceRead 2 a n).1
      let res := d.sendOut who tag out (d.bytes a m) m 0
      let st := res.2.1
      let r0 := res.2.2.1
      let r1 := res.2.2.2
      let d := res.1
      if st = 0 ∧ m < n then (d, 0x19, m, 0) else (d, st, r0, r1))) s

/-- STATE_INIT (R460): the first time its row comes, the state is written and streamed; it completes once the partner has
acknowledged every packet. -/
def Dev.stateInit (d : Dev) (who : Issuer) (tag : Nat) (inp : DmaIn) : Dev :=
  let n := d.stateBytes
  if d.pod.sending = some (who, tag) then
    (if d.tenderDone then (d.modPod (fun p => { p with sending := none })).complete who tag 0 n 0 else d)
  else if d.pod.sending.isSome then d
  else if !d.pod.bound ∨ d.committed ≠ 0 ∨ d.armedStep ∨ d.pod.restoring.isSome then d.reject who tag 7
  else match inp.failed with
    | some k => (d.putState d.cbuf (inp.bytes.take n)).complete who tag 0x18 k 0
    | none =>
      if inp.bytes.length < n then d.reject who tag 6
      else
        let d := d.writeState (inp.bytes.take n) 0
        if d.hasTender then d.modPod (fun p => { p with sending := some (who, tag) }) else d.complete who tag 0 n 0

def execStateInit (who : Issuer) (tag : BitVec 32) (inp : DmaIn) (s : State) : Host.Outcome State Fault Refusal :=
  run (fun d => d.cmd who tag 0x24 (fun _ d => d.stateInit who tag.toNat inp)) s

/-! ## RUN_STEP, ABORT_STEP, INPUT_CONFIRM (R216, R412, R457, R458) -/

/-- The status with which RUN_STEP is rejected, if any, in the order of R216 and R447. -/
def Dev.runStatus (d : Dev) (n micro lr rest : Nat) : Option Nat :=
  if d.armedStep then some 9
  else if micro = 0 ∨ micro > 256 ∨ lr = 0 ∨ lr ≥ 0x7F800000 ∨ rest ≠ 0 then some 6
  else if n ≠ d.committed + 1 ∨ d.committed = 2 ^ 48 - 1 then some 8
  else if !d.pod.loaded ∨ !d.pod.bound ∨ (n = 1 ∧ !d.pod.stateWritten) then some 0xE
  else none

/-- RUN_STEP accepted (R457): armed, ENG_LR_FACTOR written; a START that came first opens the step, and the manager goes
on. -/
def Dev.arm (d : Dev) (who : Issuer) (tag n micro lr : Nat) : Dev :=
  let d := d.activeTiles.foldl (fun d p => d.setFld ENG_LR_FACTOR.LR_FACTOR lr p) d
  let d := d.modPod (fun p => { p with
    armed := some { step := n, micro := micro, lr := lr, who := who, tag := tag }, repeats := 0, seen := [], memHung := [], mismatches := [] })
  let d := if d.isManager then d.modPod (fun p => { p with aborting := none, startSent := none, aborts := 0 }) else d
  let d := if d.pod.startSeen = some n ∧ d.svc.activating.isNone then d.openStepNow n else d
  d.advance

def execRunStep (who : Issuer) (tag : BitVec 32) (s : State) : Host.Outcome State Fault Refusal :=
  run (fun d => d.cmd who tag 0x30 (fun b d =>
    let n := fieldAt b 0 6
    let micro := fieldAt b 6 2
    let lr := fieldAt b 8 4
    match d.runStatus n micro lr (fieldAt b 12 4) with
    | some 0xE => d.complete who tag.toNat 0xE 0 0
    | some st => d.reject who tag.toNat st
    | none => d.arm who tag.toNat n micro lr)) s

/-- ABORT_STEP (R458): never once COMMIT has gone to the standby. -/
def Dev.hostAbort (d : Dev) (n : Nat) : Dev × Nat × Nat × Nat :=
  if n ≤ d.committed ∨ (d.pod.committing.map (·.1)) = some n then (d, 0xA, 0, 0)
  else if n ≠ d.committed + 1 ∨ !(d.armedStep || d.stepOpen) then (d, 8, 0, 0)
  else (d.abortPod 0 d.rank false, 0, 0, 0)

def execAbortStep (who : Issuer) (tag : BitVec 32) (s : State) : Host.Outcome State Fault Refusal :=
  run (fun d => d.cmdNow who tag 0x31 (fun b d => d.hostAbort (fieldAt b 0 6))) s

/-- INPUT_CONFIRM (R412): the lost input bytes have been written again. -/
def execInputConfirm (who : Issuer) (tag : BitVec 32) (s : State) : Host.Outcome State Fault Refusal :=
  run (fun d => d.cmdNow who tag 0x32 (fun b d =>
    if fieldAt b 0 6 ≠ d.committed + 1 then (d, 8, 0, 0)
    else
      let waits := !d.lostInput.isEmpty
      let d := d.withLostInput []
      ((if waits then d.tellRepaired else d), 0, 0, 0))) s

end Sys2Proof.Machine
end

