-- ==== Sys2Proof/Machine/Security.lean ====
section
/-! DEFINITION. Images, anti-rollback, live handover, owner enrolment, attestation, debug access and boundary scan
(R526–R541, R556–R559). -/

namespace Sys2Proof.Machine

/-! ## Images and anti-rollback (R526–R531) -/

def imgSvn (img : List Byte) : Nat := fieldAt img 12 1
def imgVersion (img : List Byte) : Nat := fieldAt img 8 4
def imgOwner (img : List Byte) : List Byte := slice img 180 64

/-- The header's fixed fields (R526): MAGIC, VERSION, HDR_SIZE, BODY_LEN and the zero bytes. -/
def headerOk (img : List Byte) : Bool :=
  decide (512 ≤ img.length) && fieldAt img 0 4 == 0x57465A47 && fieldAt img 4 2 == 1 && fieldAt img 6 2 == 512 &&
    decide (1 ≤ fieldAt img 16 4 ∧ fieldAt img 16 4 ≤ 62914560) && decide (512 + fieldAt img 16 4 ≤ img.length) &&
    decide (fieldAt img 13 1 < 2) && fieldAt img 14 2 == 0 && (slice img 308 204).all (· == 0)

/-- The owner fields: the key of a hash, and its signature (R527). -/
def ownerOk (hash : Nat) (img : List Byte) : Bool :=
  beNat (sha256 (imgOwner img)) == hash && ecdsaVerify (keyOf (imgOwner img)) (img.take 244) (slice img 244 64)

/-- The checks of R527 in order, against the fuses and the count f: 0 valid, 0x17 a rollback, 0x16 any other failure. -/
def imageCheck (z : Fuses) (f : Nat) (img : List Byte) : Nat :=
  if !headerOk img then 0x16
  else if beNat (sha256 (slice img 52 64)) ≠ z.vendorHash then 0x16
  else if !ecdsaVerify (keyOf (slice img 52 64)) (img.take 116) (slice img 116 64) then 0x16
  else if z.ownerHash ≠ 0 ∧ !ownerOk z.ownerHash img then 0x16
  else if imgSvn img < f then 0x17
  else if sha256 (slice img 512 (fieldAt img 16 4)) ≠ slice img 20 32 then 0x16
  else 0

def Dev.bootImage (d : Dev) (b : Bool) : List Byte := if b then d.flash.imageB else d.flash.imageA
def Dev.setImage (d : Dev) (b : Bool) (img : List Byte) : Dev :=
  (d.withFlash (if b then { d.flash with imageB := img } else { d.flash with imageA := img }))

/-- F of the complex in control (R540), and the reported F, the lower of the two counts (R531). -/
def Dev.fuseF (d : Dev) : Nat := if d.flag SEC_STATUS.KEY_SEL then d.fuses.svnStby else d.fuses.svn
def Dev.reportedF (d : Dev) : Nat := Nat.min d.fuses.svn d.fuses.svnStby
def Dev.checkImage (d : Dev) (img : List Byte) : Nat := imageCheck d.fuses d.fuseF img

/-- FUSE_SVN and FUSE_SVN_STBY follow the fuses (R540). -/
def Dev.showSvn (d : Dev) : Dev :=
  (d.setFld SEC_STATUS.FUSE_SVN d.fuseF).setFld SEC_STATUS.FUSE_SVN_STBY (if d.flag SEC_STATUS.KEY_SEL then d.fuses.svn else d.fuses.svnStby)

/-- The SVN bits of both complexes burned up to v (R531). -/
def Dev.burnSvn (d : Dev) (v : Nat) : Dev :=
  let v := Nat.min v 64
  (((d.withFuses { d.fuses with svn := Nat.max v d.fuses.svn, svnStby := Nat.max v d.fuses.svnStby }).withSvc { d.svc with svnDeferred := false }).showSvn).raise 0xF803

/-- The rule of R531 for the running image: the count advances when the other image is valid and as new. -/
def Dev.svnRule (d : Dev) : Dev :=
  let img := d.svc.resident
  let other := d.bootImage (!d.flag SEC_STATUS.IMAGE)
  if !bitOf (fieldAt img 13 1) 0 ∨ imgSvn img ≤ d.reportedF then d.withSvc { d.svc with svnDeferred := false }
  else if d.checkImage other = 0 ∧ imgSvn other ≥ imgSvn img then d.burnSvn (imgSvn img)
  else (d.withSvc { d.svc with svnDeferred := true }).raise 0xF804

/-! ## FW_UPDATE and FW_ACTIVATE (R530, R556) -/

/-- FW_UPDATE: `good` says whether the flash keeps what is written. -/
def Dev.fwUpdate (d : Dev) (target : Nat) (inp : DmaIn) (good : Bool) : Dev × Nat × Nat × Nat :=
  if target > 1 then (d, 6, 0, 0)
  else if target = d.fld SEC_STATUS.IMAGE then (d, 7, 0, 0)
  else match inp.failed with
    | some k => (d, 0x18, k, 0)
    | none =>
      if inp.bytes.length < 512 ∨ inp.bytes.length < 512 + fieldAt inp.bytes 16 4 then (d, 6, 0, 0)
      else
        let img := inp.bytes.take (512 + fieldAt inp.bytes 16 4)
        let st := d.checkImage img
        if st ≠ 0 then (d, st, 0, 0)
        else
          let kept := if good then img else Config.damagedImage d.free
          let d := (d.withFree (d.free + 1)).setImage (target == 1) kept
          let d := if d.svc.svnDeferred then d.svnRule else d
          (if good then (d, 0, imgVersion img, 0) else (d, 0x16, 0, 0))

def execFwUpdate (who : Issuer) (tag : BitVec 32) (inp : DmaIn) (good : Bool) (s : State) : Host.Outcome State Fault Refusal :=
  run (fun d => d.cmdNow who tag 0x60 (fun b d => d.fwUpdate (fieldAt b 16 1) inp good)) s

def Dev.fwActivate (d : Dev) (who : Issuer) (tag image : Nat) : Dev :=
  if image > 1 then d.reject who tag 6
  else if image = d.fld SEC_STATUS.IMAGE then d.reject who tag 7
  else
    let st := d.checkImage (d.bootImage (image == 1))
    if st ≠ 0 then d.complete who tag st 0 0
    else d.withSvc { d.svc with activating := some (image == 1, who, tag) }

def execFwActivate (who : Issuer) (tag : BitVec 32) (s : State) : Host.Outcome State Fault Refusal :=
  run (fun d => d.cmd who tag 0x61 (fun b d => d.fwActivate who tag.toNat (fieldAt b 0 1))) s

/-! ## The handover (R556–R559) -/

/-- No step is open, and no class S command but the FW_ACTIVATE runs (R556). -/
def Dev.handoverDue (d : Dev) : Bool := d.svc.activating.isSome && d.openStep.isNone && decide (d.runningS.length ≤ 1)

/-- MBX_STATE changes, signalled on vector 0 (R464). -/
def Dev.setMbxState (d : Dev) (v : Nat) : Dev := (d.setFld MBX_STATE.STATE v).fireMsi 0

/-- What an image that runs shows of itself (R540). -/
def Dev.showImage (d : Dev) (b : Bool) : Dev :=
  (d.setFld SEC_STATUS.IMAGE (if b then 1 else 0)).setFld SEC_STATUS.IMG_SVN (imgSvn d.svc.resident)

/-- A START that came during the handover opens its step (R556). -/
def Dev.openHeld (d : Dev) : Dev :=
  match d.pod.startSeen, d.pod.armed with
  | some n, some a => if a.step = n ∧ n = d.committed + 1 ∧ d.openStep.isNone then d.openStepNow n else d
  | _, _ => d

/-- The new image has resumed (R557, R528, R531). -/
def Dev.handoverDone (d : Dev) (b : Bool) (who : Issuer) (tag : Nat) : Dev :=
  let d := (d.withSvc { d.svc with activating := none, resident := d.bootImage b }).showImage b
  let d := (((d.setMbxState 1).raise 0xF00B).setFld PWR_RESET_CAUSE.HANDOVER 1).complete who tag 0 0 0
  let d := (d.withFlash { d.flash with seq := (d.flash.seq + 1) % 2 ^ 32, prefB := b }).svnRule
  d.openHeld.advance

/-- The old image resumes from the same record (R559). -/
def Dev.handoverReverted (d : Dev) : Dev :=
  match d.svc.activating with
  | none => d
  | some (_, who, tag) =>
    if d.state ≠ 2 then d
    else
      let d := d.withSvc { d.svc with activating := none }
      let d := (((d.setMbxState 1).raise 0xF00C).setFld PWR_RESET_CAUSE.REVERTED 1).complete who tag 7 0xF00C 0
      d.openHeld.advance

/-- HANDOVER: at the boundary the state becomes HANDOVER and the record is written; when the row comes again the new image
resumes, or, with `ok` false, rejects the record (R557, R559). -/
def Dev.handoverStep (d : Dev) (ok : Bool) : Dev :=
  match d.svc.activating with
  | none => d
  | some (b, who, tag) =>
    if d.state = 2 then (if ok then d.handoverDone b who tag else d.handoverReverted)
    else if d.state = 1 ∧ d.handoverDue then (d.setMbxState 2).saveRecord
    else d

def execHandover (ok : Bool) (s : State) : Host.Outcome State Fault Refusal := run (fun d => d.handoverStep ok) s
def execPwrHandoverReverted (s : State) : Host.Outcome State Fault Refusal := run (fun d => d.handoverReverted) s

/-! ## Attestation and certificates (R535, R536) -/

/-- The SET_CONFIG keys in ascending order with their values, 10 B each. -/
def Dev.configBytes (d : Dev) : List Byte := cfgKeys.flatMap (fun k => leBytes 2 k ++ leBytes 8 (d.cfg k))

def Dev.attestState (d : Dev) : Nat :=
  d.fld SEC_STATUS.KEY_SEL + 2 * d.fld SEC_STATUS.IMAGE + 4 * d.fld SEC_STATUS.OWNER_ENROLLED + 8 * d.fld SEC_STATUS.DEBUG_OPEN +
    (if d.sparing then 16 else 0)

/-- Bytes 0–63 of the report, and bytes 64–191. -/
def Dev.reportHead (d : Dev) (nonce : List Byte) : List Byte :=
  leBytes 4 0x54415A47 ++ leBytes 2 1 ++ leBytes 2 192 ++ leBytes 8 d.fuses.deviceId ++ padTo 32 nonce ++ leBytes 1 d.attestState ++
    leBytes 1 (d.fld SVC_ROLE.ROLE + 4 * d.fld SVC_ROLE.STATE) ++ leBytes 2 d.rank ++ leBytes 2 (d.fld SVC_ROLE.POD_EPOCH) ++
    leBytes 1 (imgSvn d.svc.resident) ++ leBytes 1 d.reportedF ++ leBytes 4 (imgVersion d.svc.resident) ++ leBytes 4 0
def Dev.reportTail (d : Dev) : List Byte :=
  padTo 32 (slice d.svc.resident 20 32) ++ sha256 d.configBytes ++ (if d.pod.loaded then d.programHash else List.replicate 32 0) ++
    leBytes 6 d.committed ++ leBytes 2 0 ++ (beBytes 32 d.fuses.ownerHash).take 8 ++ List.replicate 16 0

/-- The private scalar of the complex in control (R524). -/
def Dev.identityKey (d : Dev) : Nat := if d.flag SEC_STATUS.KEY_SEL then d.fuses.keyStby else d.fuses.key

def Dev.attestReport (d : Dev) (nonce : List Byte) : List Byte :=
  let m := d.reportHead nonce ++ d.reportTail
  m ++ ecdsaSign d.identityKey m

def execAttest (who : Issuer) (tag : BitVec 32) (out : DmaOut) (s : State) : Host.Outcome State Fault Refusal :=
  run (fun d => d.cmdNow who tag 0x70 (fun b d => d.sendOut who tag out (d.attestReport (slice b 16 32)) 256 0)) s

def Dev.certRead (d : Dev) (who : Issuer) (tag : BitVec 32) (out : DmaOut) (item : Nat) : Dev × Nat × Nat × Nat :=
  if item > 2 then (d, 6, 0, 0)
  else d.sendOut who tag out (Config.certificate item) (Config.certificate item).length 0

def execCertRead (who : Issuer) (tag : BitVec 32) (out : DmaOut) (s : State) : Host.Outcome State Fault Refusal :=
  run (fun d => d.cmdNow who tag 0x71 (fun b d => d.certRead who tag out (fieldAt b 16 1))) s

/-! ## Owner enrolment (R532) -/

/-- The enrolment message: "GZOE", DEVICE_ID and the key. -/
def enrolMsg (device : Nat) (key : List Byte) : List Byte := [0x47, 0x5A, 0x4F, 0x45] ++ leBytes 8 device ++ key

def Dev.ownerEnrol (d : Dev) (body : List Byte) : Dev × Nat × Nat × Nat :=
  let key := body.take 64
  let h := beNat (sha256 key)
  if body.length < 128 then (d, 5, 0, 0)
  else if d.fuses.ownerHash ≠ 0 then (d, 7, 0, 0)
  else if !ecdsaVerify (keyOf key) (enrolMsg d.fuses.deviceId key) (slice body 64 64) ∨
      !(ownerOk h d.flash.imageA && ownerOk h d.flash.imageB) then (d, 0x16, 0, 0)
  else (((d.withFuses { d.fuses with ownerHash := h }).setFld SEC_STATUS.OWNER_ENROLLED 1).raise 0xF805, 0, 0, 0)

def execOwnerEnrol (who : Issuer) (tag : BitVec 32) (body : List Byte) (s : State) : Host.Outcome State Fault Refusal :=
  run (fun d => d.cmdNow who tag 0x72 (fun _ d => d.ownerEnrol body)) s

/-! ## Debug access (R538, R539) -/

/-- The message that the owner signs: "GZDB", DEVICE_ID, challenge, SCOPE, a zero byte, DURATION. -/
def unlockMsg (device challenge scope duration : Nat) : List Byte :=
  [0x47, 0x5A, 0x44, 0x42] ++ leBytes 8 device ++ leBytes 16 challenge ++ leBytes 1 scope ++ [0] ++ leBytes 2 duration

/-- Phase 0: a fresh challenge, in place of any earlier one. -/
def Dev.drawChallenge (d : Dev) (scope duration : Nat) : Dev × Nat × Nat × Nat :=
  let c := (Config.trngChallenge d.free).toNat
  (((d.withFree (d.free + 1)).withSvc { d.svc with challenge := some (c, scope, duration) }), 0, c % 2 ^ 64, c / 2 ^ 64)

/-- A wrong or late answer. -/
def Dev.denied (d : Dev) : Dev × Nat × Nat × Nat := (d.raise 0xF808, 0x16, 0, 0)

def Dev.openDebug (d : Dev) (scope duration : Nat) : Dev :=
  (((d.setFld SEC_STATUS.DEBUG_OPEN 1).setFld SEC_DEBUG.SCOPE scope).setFld SEC_DEBUG.REMAIN (60 * duration)).raise 0xF806

/-- Phase 1: the answer, after which the challenge is void. -/
def Dev.answerChallenge (d : Dev) (sig : List Byte) (late : Bool) : Dev × Nat × Nat × Nat :=
  match d.svc.challenge with
  | none => d.denied
  | some (c, scope, duration) =>
    let d := d.withSvc { d.svc with challenge := none }
    let key := imgOwner d.svc.resident
    if late ∨ beNat (sha256 key) ≠ d.fuses.ownerHash ∨ !ecdsaVerify (keyOf key) (unlockMsg d.fuses.deviceId c scope duration) sig then d.denied
    else (d.openDebug scope duration, 0, 0, 0)

def Dev.debugUnlock (d : Dev) (b : List Byte) (late : Bool) : Dev × Nat × Nat × Nat :=
  let scope := fieldAt b 1 1
  let duration := fieldAt b 2 2
  if d.fuses.ownerHash = 0 then (d, 7, 0, 0)
  else if fieldAt b 0 1 = 0 then
    if scope > 3 ∨ duration = 0 ∨ duration > 1440 ∨ !(slice b 4 76).all (· == 0) then (d, 6, 0, 0) else d.drawChallenge scope duration
  else if fieldAt b 0 1 ≠ 1 ∨ !(slice b 1 15).all (· == 0) then (d, 6, 0, 0)
  else d.answerChallenge (slice b 16 64) late

def execDebugUnlock (who : Issuer) (tag : BitVec 32) (late : Bool) (s : State) : Host.Outcome State Fault Refusal :=
  run (fun d => d.cmdNow who tag 0x73 (fun b d => d.debugUnlock b late)) s

/-- The debug port closes (R539). -/
def Dev.closeDebug (d : Dev) : Dev :=
  if !d.flag SEC_STATUS.DEBUG_OPEN then d
  else (((d.setFld SEC_STATUS.DEBUG_OPEN 0).setFld SEC_DEBUG.SCOPE 0).setFld SEC_DEBUG.REMAIN 0).raise 0xF807

/-- The end of DURATION. -/
def execSecDebugClosed (s : State) : Host.Outcome State Fault Refusal := run (fun d => d.closeDebug) s

/-- A write to SEC_DEBUG: a 1 in CLOSE closes the port; the other fields are read-only. -/
def Dev.writeSecDebug (d : Dev) (v : Nat) : Dev := if SEC_DEBUG.CLOSE.get v = 1 then d.closeDebug else d

def execSecDebugClose (v : BitVec 64) (s : State) : Host.Outcome State Fault Refusal := run (fun d => d.writeSecDebug v.toNat) s

/-! ## Boundary scan (R537) -/

/-- A port stops carrying traffic: its lanes are OFF, as with ENABLE 0 (R339). -/
def Dev.portOff (d : Dev) (c : Nat) : Dev := ((d.setLanes c 0).setFld CPL_PORT_STATUS.STATE 0 c).laneSync c

/-- EXTEST: couplers and host link carry no traffic until the next power-on. -/
def Dev.extest (d : Dev) : Dev :=
  let d := (d.setFld SEC_STATUS.BSCAN 1).raise 0xF80A
  let d := (List.range 16).foldl Dev.portOff d
  (d.withSvc { d.svc with linkUp := false })

def execExtest (s : State) : Host.Outcome State Fault Refusal := run (fun d => d.extest) s

end Sys2Proof.Machine
end

