-- ==== Sys2Proof/Machine/Host.lean ====
section
/-! DEFINITION. The host link: the bootstrap mailbox, the aperture, configuration requests, and the resets that the host causes
(R440–R445, R455, R465, R469–R471, R552, R553); the boot from flash (R529) and power-on (R555). -/

namespace Sys2Proof.Machine

/-! ## The bootstrap mailbox (R455) -/

/-- Bytes that a bootstrap command writes into its OUT list. The list's bytes are named by queue pair 64 (log 54). -/
def Dev.bootOut (d : Dev) (tag : Nat) (out : DmaOut) (bs : List Byte) (r0 r1 : Nat) : Dev × List Byte × Nat × Nat × Nat :=
  if out.space < bs.length then (d, [], 6, 0, 0)
  else match out.failed with
    | some k => (d, [], 0x18, k, 0)
    | none => (d.withHostOut (.out 64 tag bs :: d.hostOut), bs, 0, r0, r1)

/-- A command that answers in its completion alone. -/
def bootAnswer (x : Dev × Nat × Nat × Nat) : Dev × List Byte × Nat × Nat × Nat := (x.1, [], x.2.1, x.2.2.1, x.2.2.2)

/-- The commands that the bootstrap mailbox takes (R455): reply data, status and results. -/
def Dev.bootCommand (d : Dev) (e : List Byte) (out : DmaOut) : Dev × List Byte × Nat × Nat × Nat :=
  let b := e.drop 32
  let tag := entryTag e
  match fieldAt e 0 2 with
  | 0x01 => let (bs, r0, r1) := d.deviceInfo; (d.withFree (d.free + 1)).bootOut tag out bs r0 r1
  | 0x02 => bootAnswer (d.qpCreate true b)
  | 0x03 => bootAnswer (d.qpDestroy b)
  | 0x04 => (d, [], 0, d.getState.1, d.getState.2)
  | 0x70 => d.bootOut tag out (d.attestReport (slice b 16 32)) 256 0
  | 0x71 =>
    if fieldAt b 16 1 > 2 then (d, [], 6, 0, 0)
    else d.bootOut tag out (Config.certificate (fieldAt b 16 1)) (Config.certificate (fieldAt b 16 1)).length 0
  | _ => (d, [], 7, 0, 0)

/-- Checks 4 and 5 of R447 on the bootstrap path: a command for another rank is not taken here (log 54). -/
def Dev.bootCheck (d : Dev) (e : List Byte) : Option Nat :=
  if bitOf (fieldAt e 2 1) 1 && !(d.isManager && fieldAt e 10 2 == d.rank) then some 7
  else if !([0x01, 0x02, 0x03, 0x04, 0x70, 0x71].contains (fieldAt e 0 2)) then some 7
  else if !headOk e then some 6 else none

/-- The bootstrap completion and reply data in the outbound buffer, DONE, and vector 0. -/
def Dev.bootDone (d : Dev) (tag : Nat) (x : List Byte × Nat × Nat × Nat) : Dev :=
  let bs := cplEntry tag x.2.1 d.svc.bootCpl 0 x.2.2.1 x.2.2.2 ++ x.1
  let d := if [1, 2, 3, 4, 5, 6, 7].contains x.2.1 then d.bump MBX_STATUS.REJECTED else d
  ((d.withSvc { d.svc with outbound := padTo 256 bs, bootCpl := (d.svc.bootCpl + 1) % 256 }).setFld MBX_BOOT.DONE 1).fireMsi 0

/-- The inbound command executed. -/
def Dev.bootExecute (d : Dev) (out : DmaOut) : Dev :=
  let e := padTo 256 d.svc.inbound
  let (st, exp) := checkHead e d.svc.bootAlive 224
  let d := d.headCheck st e
  let d := d.withSvc { d.svc with bootAlive := exp }
  match st with
  | some st => d.bootDone (entryTag e) ([], st, 0, 0)
  | none =>
    match d.bootCheck e with
    | some st => d.bootDone (entryTag e) ([], st, 0, 0)
    | none =>
      let res := d.bootCommand e out
      let x := res.2
      let d := res.1
      d.bootDone (entryTag e) x

/-- A write to MBX_BOOT (R455, R469): DONE clears by a write of 1; DOORBELL executes the command, unless the device is booting.
A doorbell in a handover is held: the row comes again (R468). -/
def Dev.writeMbxBoot (d : Dev) (v : Nat) (inbound : List Byte) (out : DmaOut) : Dev :=
  if d.hostOff then d
  else if d.state = 0 then d.badAccess
  else
    let r : RegId := ⟨.MBX_BOOT, 0, 0⟩
    let d := d.setReg r (writeByAccess r true (d.reg r) v)
    let d := d.withSvc { d.svc with inbound := padTo 256 inbound }
    if MBX_BOOT.DOORBELL.get v = 0 ∨ d.state ≠ 1 then d else d.bootExecute out

def execMbxBootDoorbell (v : BitVec 32) (inbound : List Byte) (out : DmaOut) (s : State) : Host.Outcome State Fault Refusal :=
  run (fun d => d.writeMbxBoot v.toNat inbound out) s

/-! ## MBX registers (R440, R470, R471) -/

/-- A host write to a mailbox register: dropped while the device boots (R440). -/
def Dev.writeMbx (d : Dev) (eff : Dev → Dev) : Dev := if d.hostOff then d else if d.state = 0 then d.badAccess else eff d

def Dev.writeAperture (d : Dev) (v : Nat) : Dev :=
  let r : RegId := ⟨.MBX_APERTURE, 0, 0⟩
  d.setReg r (writeByAccess r true (d.reg r) v)

def execMbxApertureWrite (v : BitVec 64) (s : State) : Host.Outcome State Fault Refusal :=
  run (fun d => d.writeMbx (fun d => d.writeAperture v.toNat)) s

/-- Any write restarts the host watchdog (R471). -/
def Dev.restartWatchdog (d : Dev) : Dev := d.withSvc { d.svc with hostAlive := d.svc.hostAlive + 1 }
def execMbxHostAliveWrite (_v : BitVec 32) (s : State) : Host.Outcome State Fault Refusal := run (fun d => d.writeMbx Dev.restartWatchdog) s

/-! ## The aperture (R444) -/

/-- The device address of a BAR2 offset. -/
def Dev.apertureAddr (d : Dev) (off : Nat) : Nat := d.fld MBX_APERTURE.BASE * 2 ^ 30 + off
/-- Addresses that the aperture carries: DRAM, larders and accumulator buffers. -/
def Dev.carried (d : Dev) (a : Nat) : Bool :=
  match d.region a with
  | .dram | .larder _ _ | .acb _ _ => true
  | _ => false
/-- A byte of a failed line or word. -/
def Dev.damaged (d : Dev) (x : Nat) : Bool := d.lineX.any (d.unitMeets 64 x 1) || d.wordX.any (d.unitMeets 32 x 1)
/-- n bytes through the aperture: zeros where it is masked, and for a failed line or word (R284). -/
def Dev.apertureBytes (d : Dev) (a n : Nat) : List Byte :=
  (List.range n).map (fun i => if d.carried (a + i) ∧ !d.damaged (a + i) then Memory.read d.mem (cellOf d.failed (a + i)) else 0)
/-- Some byte of a range is masked: MEM_UNMAPPED, as under R272. -/
def Dev.masked (d : Dev) (a n : Nat) : Bool := !(List.range n).all (fun i => d.carried (a + i))

/-- BAR2_READ: a failed line or word is recorded and comes back poisoned, without its bytes (R282, R284, R296). -/
def Dev.bar2Read (d : Dev) (off n : Nat) : Dev :=
  if d.hostOff then d.reply (List.replicate n 0) true
  else if d.state = 0 then d.reply (List.replicate n 0) false
  else
    let a := d.apertureAddr off
    let bad := d.failures a n
    let d' := d.reply (d.apertureBytes a n) (!bad.isEmpty)
    let d' := if d.masked a n then d'.raise 0xA007 else d'
    bad.foldl (fun (d : Dev) stop => d.failAccess 2 false stop) d'

def execBar2Read (off : BitVec 36) (len : Nat) (s : State) : Host.Outcome State Fault Refusal := run (fun d => d.bar2Read off.toNat len) s

/-- Bytes cut at 64 B boundaries of their addresses. -/
def cut64 (a : Nat) (bs : List Byte) : List (Nat × List Byte) :=
  let n := 64 - a % 64
  (a, bs.take n) :: (cutBytes 64 (bs.drop n)).map (fun c => (a + n + c.1, c.2))

/-- One piece written through the fabric, where the aperture carries it (R297). -/
def Dev.barPiece (d : Dev) (c : Nat × List Byte) : Dev := if d.carried c.1 then d.fabricWrite c.1 c.2 else d

/-- BAR2_WRITE: masked ranges drop their bytes. -/
def Dev.bar2Write (d : Dev) (off : Nat) (bs : List Byte) : Dev :=
  if d.hostOff then d
  else if d.state = 0 then d.badAccess
  else
    let a := d.apertureAddr off
    let cs := cut64 a bs
    let d' := (cs.foldl Dev.barPiece d).settleHost
    if d.masked a bs.length then d'.raise 0xA007 else d'

def execBar2Write (off : BitVec 36) (bytes : List Byte) (s : State) : Host.Outcome State Fault Refusal :=
  run (fun d => d.bar2Write off.toNat bytes) s

/-! ## Configuration requests, and a host link that is lost (R440, R441, R465) -/

/-- What a configuration register reads as: R440 gives Vendor ID, Device ID and class code; one that the host has written reads
as a free value, since the PCIe standard and not the manual says what it keeps. -/
def Dev.configRead (d : Dev) (reg : Nat) : Nat :=
  if reg = 0 then 0x32001F7E
  else if reg = 8 then 0x12000000 + (Config.pcieConfig 8).toNat % 256
  else if d.svc.configWrites.contains reg then (Config.freeW32 d.free).toNat
  else (Config.pcieConfig reg).toNat

/-- A configuration request: the link is up, but for boundary scan (log 4). -/
def Dev.configRequest (d : Dev) (reg : Nat) (w : Option (BitVec 32)) : Dev :=
  let reg := reg / 4 * 4
  if d.flag SEC_STATUS.BSCAN then d
  else
    let d := d.withSvc { d.svc with linkUp := true }
    match w with
    | some _ => d.withSvc { d.svc with configWrites := reg :: d.svc.configWrites.filter (· ≠ reg) }
    | none => (d.withFree (d.free + 1)).reply (leBytes 4 (d.configRead reg)) false

def execConfigurationRequest (reg : BitVec 12) (write : Option (BitVec 32)) (s : State) : Host.Outcome State Fault Refusal :=
  run (fun d => d.configRequest reg.toNat write) s

def execD3hotEntry (s : State) : Host.Outcome State Fault Refusal := run (fun d => (d.withSvc { d.svc with d3hot := true })) s

def execPcieLinkDown (s : State) : Host.Outcome State Fault Refusal := run (fun d => (d.withSvc { d.svc with linkUp := false })) s

/-- MBX_HOST_LOST (R465): after LOST_MS of link down or D3hot, or when the host watchdog expires. -/
def Dev.hostLost (d : Dev) : Dev :=
  if d.flag MBX_STATE.HOST_LOST ∨ !(d.hostOff || d.fld MBX_CTRL.HWD != 0) then d
  else (d.raise 0xE001).setFld MBX_STATE.HOST_LOST 1

def execMbxHostLost (s : State) : Host.Outcome State Fault Refusal := run (fun d => d.hostLost) s

/-! ## Function-level and fundamental reset (R441, R552, R553) -/

/-- Queue pairs, the bootstrap mailbox, MBX_APERTURE and the MSI-X table at reset. -/
def Dev.resetMailbox (d : Dev) : Dev :=
  let d := d.qps.foldl (fun (d : Dev) e => d.destroyQp e.1) d
  let d := (d.setReg ⟨.MBX_BOOT, 0, 0⟩ 0).setReg ⟨.MBX_APERTURE, 0, 0⟩ 0
  (((d.withMsixOpen []).withMsixPending []).withSvc { d.svc with inbound := [], outbound := [], bootAlive := 0, bootCpl := 0, d3hot := false, configWrites := [] })

/-- MBX_FLR: training, couplers and role run on. -/
def Dev.flr (d : Dev) : Dev := ((d.resetMailbox.closeDebug).setFld PWR_RESET_CAUSE.FLR 1).raise 0xE004

def execMbxFlr (s : State) : Host.Outcome State Fault Refusal := run (fun d => d.flr) s

/-- Dammel's own state lost. -/
def Dev.loseDammel (d : Dev) : Dev :=
  let keep : Pod := { gens := d.pod.gens, podManifests := d.pod.podManifests, genNext := d.pod.gens.foldl (fun n g => Nat.max n (g.num + 1)) 1 }
  let d := ((((d.withPod keep).withRanks []).withMembers []).withPeers []).withMgmtSeen []
  let d := ((((d.withMgmtSeq []).withAwaiting []).withCommitted 0).withOpenStep none).withHandover {}
  let d := ((d.withRegions []).withWardBytes 0).withWardProgram 0
  (((d.withProgramCopy []).withLost []).withLostInput []).setReg ⟨.SVC_ROLE, 0, 0⟩ 0

/-- An image starts, and the device is READY. -/
def Dev.startImage (d : Dev) (b : Bool) (fallback : Bool) : Dev :=
  let d := (d.withSvc { d.svc with resident := d.bootImage b }).showImage b
  let d := d.showSvn.setFld SEC_STATUS.OWNER_ENROLLED (if d.fuses.ownerHash = 0 then 0 else 1)
  let d := if fallback then (d.setFld SEC_STATUS.FALLBACK 1).raise 0xF801 else d
  (d.setMbxState 1).svnRule

/-- The boot ROM (R529): the preferred image, else the other, else FAULT. -/
def Dev.bootFlash (d : Dev) : Dev :=
  let b := d.flash.prefB
  if d.checkImage (d.bootImage b) = 0 then d.startImage b false
  else if d.checkImage (d.bootImage (!b)) = 0 then d.startImage (!b) true
  else ((d.setFld MBX_STATE.REASON 0xF802).setMbxState 3).raise 0xF802

/-- What a fundamental reset clears before Dammel restarts (R552, R553): the endpoint, the mailbox and the debug port. -/
def Dev.fundCleared (d : Dev) : Dev :=
  let d := d.resetMailbox.closeDebug
  let d := ((d.setReg ⟨.MBX_CTRL, 0, 0⟩ (RegName.MBX_CTRL.resetValue 0)).setReg ⟨.MBX_STATUS, 0, 0⟩ 0).setFld PWR_RESET_CAUSE.FUND 1
  let d := d.withSvc { d.svc with linkUp := !d.flag SEC_STATUS.BSCAN }
  (d.setFld MBX_STATE.STATE 0).setFld MBX_STATE.REASON 0

/-- PWR_FUND_RESET (R553): the endpoint and Dammel restart, from the resident image where that is valid; engines, DRAM and couplers
run on. -/
def Dev.fundReset (d : Dev) : Dev :=
  let d := d.fundCleared
  if d.checkImage d.svc.resident = 0 then (d.setMbxState 1).raise 0xF00D else (d.loseDammel).bootFlash

def execPwrFundReset (s : State) : Host.Outcome State Fault Refusal := run (fun d => d.fundReset) s

/-! ## Power-on (R543, R555) -/

/-- What a loss of power leaves (R544, R552): fuses, maps and flash, the input stage's latch, and what has left the device. -/
def Dev.afterPower (d : Dev) : Dev :=
  { regs := d.regs.filter (fun e => e.1 / 0x100000 == RegName.MEM_RETIRE_STATUS.ctorIdx ||
      e.1 / 0x100000 == RegName.MEM_FLASH_STATUS.ctorIdx)
    bankUsed := d.bankUsed, rowMap := d.rowMap, fuses := d.fuses, flash := d.flash, flashBytes := d.flashBytes, programCopy := d.programCopy
    hostOut := d.hostOut, msi := d.msi, events := d.events, mgmtOut := d.mgmtOut, mgmtPacked := d.mgmtOut.length, marks := d.marks, free := d.free
    pod := { gens := d.pod.gens, podManifests := d.pod.podManifests
             genNext := d.pod.gens.foldl (fun n g => Nat.max n (g.num + 1)) 1 }
    power := { reversed := d.power.reversed } }

/-- The package loses its power. -/
def Dev.powerOff (d : Dev) : Dev := d.afterPower

/-- PLLs locked, and every port in training (R339, R555, R563). -/
def Dev.lockPlls (d : Dev) : Dev :=
  (List.range 16).foldl (fun d x => ((d.setFld PWR_CLK_STATUS.FABRIC_LOCK 1 x).setFld PWR_CLK_STATUS.ARITH_LOCK 1 x).startTraining x) d

/-- The module has failed at bring-up: it takes no rank; MBX_STATE is FAULT with the code of SVC_RANK_FAILED (DESIGN CHOICE, log 107). -/
def Dev.failModule (d : Dev) : Dev := if d.lacksTile then (d.setFld MBX_STATE.REASON 0x1101).setMbxState 3 else d

/-- ENABLE of every memory decoder, as it was written before boot completed (R9, R552; DESIGN CHOICE, log 108). -/
def Dev.keepEnables (d old : Dev) : Dev :=
  (List.range 16).foldl (fun (d : Dev) x =>
    (d.setFld MEM_SPARE_CFG.ENABLE (old.fld MEM_SPARE_CFG.ENABLE x) x).setFld MEM_DECODE_CFG.ENABLE (old.fld MEM_DECODE_CFG.ENABLE x) x) d

/-- The device with power, once its boot ROM has run (R529, R555); a latched reversal is reported (R543). -/
def Dev.booted (d : Dev) : Dev :=
  let d := d.afterPower.keepEnables d
  let seen := d.power.reversed
  let d := (d.withPower { on := true, rails := true }).bootFlash
  if seen then (d.setFld PWR_STATUS.REVERSE_SEEN 1).raise 0xF006 else d

/-- The failed stack's chunks and the tiles that may carry no engine, as boot flash and the self-tests say; the engines are placed and the
PLLs lock (R20, R292, R339, R417, R555). -/
def Dev.broughtUp (d : Dev) (failing : List Nat) : Dev :=
  let d := match d.flash.failedStack with
    | some f => d.setFailedStack f
    | none => d
  let d := (d.flash.badTiles ++ failing.filter (· < 80)).foldl Dev.markBad d
  d.placeEngines.lockPlls.failModule

/-- POWER_ON: from turn-on to READY, or to FAULT without a valid image. `failing` lists the tiles that fail their self-test. -/
def Dev.turnOn (d : Dev) (failing : List Nat) : Dev :=
  if d.power.on then d else if d.booted.state = 3 then d.booted else d.booted.broughtUp failing

def execPowerOn (failing : List Nat) (s : State) : Host.Outcome State Fault Refusal := run (fun d => d.turnOn failing) s

end Sys2Proof.Machine
end

