-- ==== Sys2Proof/Machine/Observe.lean ====
section
/-! DEFINITION. Counters, trace, snapshots, the trigger network's pins, and the management bus (R480–R485, R489–R499, R576,
R577). -/

namespace Sys2Proof.Machine

/-! ## COUNTER_READ (R482–R484, R499) -/

/-- The selected regions of one tile, in the order of the bits. -/
def Dev.cntRegions (d : Dev) (p sel : Nat) : List Byte :=
  ((List.range 3).filter (bitOf sel)).flatMap (d.cntBank p) ++ (if bitOf sel 3 then d.cntLayers p else [])

def Dev.ungated (d : Dev) (p : Nat) : Bool := !bitOf (d.fld PWR_TILE_CTRL.GATED (p / 5)) (p % 5)

def Dev.counterRead (d : Dev) (who : Issuer) (tag : BitVec 32) (out : DmaOut) (p sel : Nat) : Dev × Nat × Nat × Nat :=
  if (p > 79 ∧ p ≠ 0xFF) ∨ sel > 15 then (d, 6, 0, 0)
  else
    let tiles := if p = 0xFF then (List.range 80).filter d.ungated else [p]
    let bs := tiles.flatMap (fun t => d.cntRegions t sel)
    d.sendOut who tag out bs bs.length 0

def execCounterRead (who : Issuer) (tag : BitVec 32) (out : DmaOut) (s : State) : Host.Outcome State Fault Refusal :=
  run (fun d => d.cmdNow who tag 0x50 (fun b d => d.counterRead who tag out (fieldAt b 16 1) (fieldAt b 17 1))) s

/-- CNT_CTRL.CLEAR (R480): the cumulative bank and the per-layer table of the selected tiles. -/
def Dev.cntClear (d : Dev) (x v : Nat) : Dev :=
  ((List.range 5).filter (bitOf v)).foldl (fun (d : Dev) t =>
    d.modTile (5 * x + t) (fun t => { t with layers := [], blocks := (List.range 6).foldl (fun (r : Tbl BlockCnt) b =>
      tset {} r b { tget {} t.blocks b with cum := {}, idle := 0 }) [] })) d

def execCntCtrlClear (d : Die) (v : BitVec 32) (s : State) : Host.Outcome State Fault Refusal := run (fun x => x.cntClear d v.toNat) s

/-- CNT_BASE_CLEAR (R485). -/
def Dev.baseClear (d : Dev) (s v : Nat) : Dev :=
  if bitOf v 0 then (d.withBaseCnt (d.baseCnt.filter (fun (e : Nat × Nat) => e.1 / 512 ≠ s))) else d

def execCntBaseClear (x : Die) (v : BitVec 32) (s : State) : Host.Outcome State Fault Refusal := run (fun d => d.baseClear x v.toNat) s

/-! ## Trace (R489, R491) -/

/-- The trace of a die emptied and rearmed; RSEQ goes on. -/
def Dev.armTrace (d : Dev) (x : Nat) : Dev :=
  (((d.withTraces (tset {} d.traces x {})).setFld TRC_STATUS.COUNT 0 x).setFld TRC_STATUS.FROZEN 0 x).setFld TRC_STATUS.TRIGGERED 0 x

/-- A write to TRC_CTRL. -/
def Dev.writeTrcCtrl (d : Dev) (x v : Nat) : Dev :=
  let r : RegId := ⟨.TRC_CTRL, x, 0⟩
  let was := d.fld TRC_CTRL.MODE x
  let d := d.setReg r (writeByAccess r true (d.reg r) v)
  if TRC_CTRL.ARM.get v = 1 ∨ d.fld TRC_CTRL.MODE x ≠ was then d.armTrace x else d

def execTrcCtrlArm (d : Die) (v : BitVec 32) (s : State) : Host.Outcome State Fault Refusal := run (fun x => x.writeTrcCtrl d v.toNat) s

/-- The trace freezes by command: entering the frozen state raises TRC_FROZEN (R489). -/
def Dev.freezeTrace (d : Dev) (x : Nat) : Dev :=
  if d.flag TRC_STATUS.FROZEN x then d else (d.setFld TRC_STATUS.FROZEN 1 x).raise 0xD401

def Dev.traceBytes (d : Dev) (x : Nat) : List Byte := (tget {} d.traces x).recs.flatMap (fun r => leBytes 32 r.toNat)

def Dev.traceRead (d : Dev) (who : Issuer) (tag : BitVec 32) (out : DmaOut) (x flags : Nat) : Dev × Nat × Nat × Nat :=
  if x > 15 ∨ flags > 3 ∨ out.space < (d.traceBytes x).length then (d, 6, 0, 0)
  else
    let d := if bitOf flags 0 then d.freezeTrace x else d
    let res := d.sendOut who tag out (d.traceBytes x) (tget {} d.traces x).recs.length 0
    let st := res.2.1
    let r0 := res.2.2.1
    let r1 := res.2.2.2
    let d := res.1
    ((if st = 0 ∧ bitOf flags 1 then d.armTrace x else d), st, r0, r1)

def execTraceRead (who : Issuer) (tag : BitVec 32) (out : DmaOut) (s : State) : Host.Outcome State Fault Refusal :=
  run (fun d => d.cmdNow who tag 0x51 (fun b d => d.traceRead who tag out (fieldAt b 16 1) (fieldAt b 17 1))) s

/-! ## Snapshots and triggers (R492–R499) -/

/-- The image of R497: 86,336 B. Without held copies every byte is 0 but the header's check. -/
def Dev.snapImage (d : Dev) : List Byte :=
  if d.flag SNP_STATUS.HELD then (List.range 10792).flatMap (fun i => leBytes 8 (((d.trig.image.find? (fun e => e.1 == 8 * i)).map (·.2)).getD 0))
  else withCrc (List.replicate 60 0) ++ List.replicate 86272 0

def Dev.snapshotRead (d : Dev) (who : Issuer) (tag : BitVec 32) (out : DmaOut) (flags : Nat) : Dev × Nat × Nat × Nat :=
  if flags > 1 then (d, 6, 0, 0)
  else
    let num := if d.flag SNP_STATUS.HELD then d.fld SNP_STATUS.HELD_NUM else 0
    let res := d.sendOut who tag out d.snapImage num 86336
    let st := res.2.1
    let r0 := res.2.2.1
    let r1 := res.2.2.2
    let d := res.1
    if st = 0 ∧ flags = 1 then
      (((d.withTrig { d.trig with image := [] }).setFld SNP_STATUS.HELD 0).setFld SNP_STATUS.HELD_NUM 0, st, r0, r1)
    else (d, st, r0, r1)

def execSnapshotRead (who : Issuer) (tag : BitVec 32) (out : DmaOut) (s : State) : Host.Outcome State Fault Refusal :=
  run (fun d => d.cmdNow who tag 0x52 (fun b d => d.snapshotRead who tag out (fieldAt b 16 1))) s

/-- TRIGGER (R499): the command names the class. -/
def Dev.hostTrigger (d : Dev) (b : List Byte) : Dev × Nat × Nat × Nat :=
  let capture := fieldAt b 0 1 == 1
  let flags := fieldAt b 1 1
  if fieldAt b 0 1 > 1 ∨ flags > 3 ∨ fieldAt b 2 6 ≠ 0 then (d, 6, 0, 0)
  else if !bitOf (d.fld SNP_TRIG_CFG.EN) 0 then (d, 7, 0, 0)
  else
    let d := d.deliver 1 capture none (bitOf flags 1)
    let num := d.fld SNP_STATUS.TRIG_NUM
    ((if bitOf flags 0 ∨ d.flag SNP_TRIG_CFG.SEND_POD then d.sendTrigger capture 1 else d), 0, num, 0)

def execTrigger (who : Issuer) (tag : BitVec 32) (s : State) : Host.Outcome State Fault Refusal :=
  run (fun d => d.cmdNow who tag 0x53 (fun b d => d.hostTrigger b)) s

/-- BEACON (R492). -/
def execBeacon (s : State) : Host.Outcome State Fault Refusal := run (fun d => if d.fld SNP_TRIG_CFG.BEACON_MS = 0 then d else d.fire 7) s

/-- TRIG_IN_EDGE (R492, R495, R577): `sinceOut` counts the cycles since the last driven cycle of the last trigger-out pulse. -/
def Dev.trigIn (d : Dev) (sinceOut : Option Nat) : Dev :=
  if d.flag SNP_STATUS.IN_STUCK then d
  else if d.trig.outDriven ∨ sinceOut.any (fun n => decide (n ≤ 2000)) then
    let said := d.svc.echoSaid
    let d := (d.withSvc { d.svc with echoSaid := true }).bump SVC_MGMT_STATUS.ECHO
    if said then d else d.raise 0x1132
  else d.fire 5

def execTrigInEdge (sinceOut : Option Nat) (s : State) : Host.Outcome State Fault Refusal := run (fun d => d.trigIn sinceOut) s

/-- A trigger-in pin held asserted for 10,000,000 service cycles, and one released for as long (R495). -/
def execSnpTrigInStuck (s : State) : Host.Outcome State Fault Refusal :=
  run (fun d => if d.flag SNP_STATUS.IN_STUCK then d else (d.setFld SNP_STATUS.IN_STUCK 1).raise 0xD803) s
def execTrigInRelease (s : State) : Host.Outcome State Fault Refusal := run (fun d => d.setFld SNP_STATUS.IN_STUCK 0) s

/-- TRIG_OUT_PULSE_END (R495). -/
def Dev.pulseEnd (d : Dev) : Dev := d.withTrig { d.trig with outDriven := false }
def execTrigOutPulseEnd (s : State) : Host.Outcome State Fault Refusal := run (fun d => d.pulseEnd) s

/-- SNP_TRIG_OUT_FAULT (R495): the driver is off until OUT_EN has been written 0 and then 1. -/
def Dev.trigOutFault (d : Dev) : Dev :=
  if d.flag SNP_STATUS.OUT_FAULT then d
  else
    let d := (d.pulseEnd).withSvc { d.svc with outEnLow := false }
    (d.setFld SNP_STATUS.OUT_FAULT 1).raise 0xD804
def execSnpTrigOutFault (s : State) : Host.Outcome State Fault Refusal := run (fun d => d.trigOutFault) s

/-- A write to SNP_TRIG_CFG: OUT_EN written 0 and then 1 switches the driver on again. -/
def Dev.writeTrigCfg (d : Dev) (v : Nat) : Dev :=
  let r : RegId := ⟨.SNP_TRIG_CFG, 0, 0⟩
  let d := d.setReg r (writeByAccess r true (d.reg r) v)
  if !d.flag SNP_STATUS.OUT_FAULT then d
  else if SNP_TRIG_CFG.OUT_EN.get v = 0 then d.withSvc { d.svc with outEnLow := true }
  else if d.svc.outEnLow then (d.withSvc { d.svc with outEnLow := false }).setFld SNP_STATUS.OUT_FAULT 0
  else d

/-! ## The management bus (R576) -/

/-- One attempt at recovery: the line is free, or, after three attempts, it counts as stuck. -/
def Dev.smbAttempt (d : Dev) (sda scl freed : Bool) : Dev :=
  if freed then
    let d := (d.withSvc { d.svc with smbTries := 0 }).bump SVC_MGMT_STATUS.SMB_RECOVERIES
    ((d.setFld SVC_MGMT_STATUS.SDA_STUCK 0).setFld SVC_MGMT_STATUS.SCL_STUCK 0).raise 0x1130
  else
    let n := d.svc.smbTries + 1
    let d := d.withSvc { d.svc with smbTries := n }
    if n ≠ 3 then d
    else
      let d := if sda then d.setFld SVC_MGMT_STATUS.SDA_STUCK 1 else d
      (if scl then d.setFld SVC_MGMT_STATUS.SCL_STUCK 1 else d).raise 0x1131

/-- SMBUS_STUCK: a line has read low for 35 ms; up to three attempts, of which the last may free it. -/
def Dev.smbStuck (d : Dev) (sda scl freed : Bool) : Dev :=
  if !(sda || scl) ∨ d.svc.smbTries ≥ 3 then d
  else if freed then d.smbAttempt sda scl true
  else ((d.smbAttempt sda scl false).smbAttempt sda scl false).smbAttempt sda scl false

def execSmbusStuck (sda scl : Bool) (freed : Bool) (s : State) : Host.Outcome State Fault Refusal := run (fun d => d.smbStuck sda scl freed) s

/-- SMBUS_RETRY: every 1 s while a line is stuck. -/
def execSmbusRetry (freed : Bool) (s : State) : Host.Outcome State Fault Refusal :=
  run (fun d =>
    let sda := d.flag SVC_MGMT_STATUS.SDA_STUCK
    let scl := d.flag SVC_MGMT_STATUS.SCL_STUCK
    if sda || scl then d.smbAttempt sda scl freed else d) s

end Sys2Proof.Machine
end

