-- ==== Sys2Proof/Machine/Power.lean ====
section
/-! DEFINITION. Input power, power capping, thermal and coolant limits, PLLs and per-tile resets (R543–R548, R551, R552, R554,
R568–R571). Voltages are in 0.1 V, temperatures of dies in °C, one sample is 100 µs. -/

namespace Sys2Proof.Machine

def Dev.modPower (d : Dev) (f : Power → Power) : Dev := d.withPower (f d.power)

/-! ## The step in force (R545, R546, R548) -/

/-- The lowest clock of all sources: the largest STEP, of the table's five. -/
def Power.step (p : Power) : Nat :=
  Nat.min 4 (Nat.max p.capStep (Nat.max p.thermStep (Nat.max (if p.inputHold then 4 else 0) (Nat.max p.hotFloor p.flowFloor))))

/-- The status bits of the sources, and a change of step: on every engine die, with its event. -/
def Dev.applySteps (d : Dev) : Dev :=
  let b (x : Bool) : Nat := if x then 1 else 0
  let d := (d.setFld PWR_STATUS.CAP_LIMIT (b (d.power.capStep != 0))).setFld PWR_STATUS.THERM_LIMIT (b (d.power.thermStep != 0))
  let d := (d.setFld PWR_STATUS.INPUT_LOW (b d.power.inputHold)).setFld PWR_COOLANT.HOT (b (d.power.hotFloor != 0))
  let d := d.setFld PWR_COOLANT.FLOW_LOW (b (d.power.flowFloor != 0))
  let n := d.power.step
  if d.fld PWR_STATUS.STEP = n then d
  else ((List.range 16).foldl (fun d x => d.setFld PWR_CLK_STATUS.STEP n x) (d.setFld PWR_STATUS.STEP n)).raise 0xF001

/-! ## The power cap (R546, R560) -/

def execPwrCapWrite (v : BitVec 32) (s : State) : Host.Outcome State Fault Refusal := run (fun d => d.writePlain ⟨.PWR_CAP, 0, 0⟩ v.toNat) s

/-- The limit L. -/
def Dev.powerLimit (d : Dev) : Nat := if d.fld PWR_CAP.CAP_W = 0 then 3600 else d.fld PWR_CAP.CAP_W

def sumNat (l : List Nat) : Nat := l.foldl (· + ·) 0

/-- One judgement of the averages over the last 10 and the last 1,000 samples, or those there are. -/
def Dev.judgePower (d : Dev) : Dev :=
  let p := d.power
  let l := d.powerLimit
  let ms := p.watts.take 10
  let ovr := decide (sumNat ms > l * ms.length)
  if ovr then
    if p.capStep < 4 then (if p.since ≥ 20 then d.modPower (fun p => { p with capStep := p.capStep + 1, since := 0 }) else d)
    else
      let d := d.setFld PWR_STATUS.CAP_UNMET 1
      if p.unmetSaid then d else (d.modPower (fun p => { p with unmetSaid := true })).raise 0xF002
  else
    let d := (d.setFld PWR_STATUS.CAP_UNMET 0).modPower (fun p => { p with unmetSaid := false })
    if sumNat p.watts * 100 < 95 * l * p.watts.length ∧ p.since ≥ 1000 ∧ p.capStep > 0 then
      d.modPower (fun p => { p with capStep := p.capStep - 1, since := 0 })
    else d

def Dev.powerSample (d : Dev) (watts dv : Nat) : Dev :=
  let d := d.modPower (fun p => { p with watts := (watts :: p.watts).take 1000, since := p.since + 1 })
  let ms := d.power.watts.take 10
  let d := (d.setFld PWR_STATUS.INPUT_W (Nat.min (sumNat ms / ms.length) 65535)).setFld PWR_STATUS.INPUT_DV (Nat.min dv 65535)
  let d := if dv ≤ 600 then (d.setFld PWR_STATUS.INPUT_HIGH 0).modPower (fun p => { p with highSaid := false }) else d
  d.judgePower.applySteps

def execPowerSample (watts : Nat) (dv : Nat) (s : State) : Host.Outcome State Fault Refusal := run (fun d => d.powerSample watts dv) s

/-! ## Rails off (R547, R569) -/

/-- The registers of the service complex and of the mailbox. -/
def serviceRegs : List RegName :=
  [.SVC_ROLE, .SVC_HB_CFG, .SVC_COMMIT_CFG, .SVC_TENDER_CFG, .SVC_TENDER_BASE, .SVC_CKPT_CFG, .SVC_CKPT_STATUS, .SVC_CKPT_GEN,
    .SVC_RECOVERY_STATUS, .MBX_STATE, .MBX_BOOT, .MBX_APERTURE, .MBX_CTRL, .MBX_HOST_ALIVE, .MBX_STATUS] ++
  [.SNP_TRIG_CFG, .SNP_MATCH, .SNP_STATUS, .SEC_STATUS, .SEC_DEBUG, .PWR_CAP, .PWR_STATUS, .PWR_RESET_CAUSE, .PWR_COOLANT,
    .SVC_MGMT_STATUS, .MEM_RETIRE_STATUS, .MEM_FLASH_STATUS]

/-- The engine die and base die rails are off: everything on those dies is lost but maps and flash. -/
def Dev.railsOff (d : Dev) : Dev :=
  let d := d.withRegs (d.regs.filter (fun (e : Nat × Nat) => (serviceRegs.map RegName.ctorIdx).contains (e.1 / 0x100000)))
  let d := ((((d.withMem []).withLineX []).withWordX []).withTiles []).withTraces []
  let d := ((((d.withPorts []).withStreams []).withTenderTx []).withTxAlive []).withRxAlive []
  let d := ((((d.withRowSoft []).withStackHard []).withScrubPos []).withLarWait []).withBaseCnt []
  (((d.withLost []).withLostInput []).withOpenStep none).modPower (fun p => { p with rails := false })

/-! ## Thermal limits (R547) -/

/-- The thermal step: down at 100 °C at most once in 2 ms, up after 100 ms at 92 °C or less. -/
def Dev.judgeHeat (d : Dev) (hot : Nat) : Dev :=
  let p := d.power
  if hot ≥ 100 then
    let d := d.modPower (fun p => { p with cool := 0 })
    if p.thermStep < 4 ∧ p.thermSince ≥ 20 then
      let d := d.modPower (fun p => { p with thermStep := p.thermStep + 1, thermSince := 0 })
      if p.thermStep = 0 then d.raise 0xF007 else d
    else d
  else if hot ≤ 92 then
    if p.cool + 1 ≥ 1000 ∧ p.thermStep > 0 then d.modPower (fun p => { p with thermStep := p.thermStep - 1, cool := 0 })
    else d.modPower (fun p => { p with cool := p.cool + 1 })
  else d.modPower (fun p => { p with cool := 0 })

/-- THERMAL_SAMPLE: temperatures of engine dies 0–15, then of base dies 0–15; the trip at 115 °C of an engine die. -/
def Dev.thermalSample (d : Dev) (temps : List Nat) : Dev :=
  let hot := temps.foldl Nat.max 0
  let d := (d.setFld PWR_STATUS.TJ_MAX (Nat.min hot 255)).modPower (fun p => { p with thermSince := p.thermSince + 1 })
  let d := (d.judgeHeat hot).applySteps
  if (temps.take 16).any (fun t => decide (t ≥ 115)) ∧ d.power.rails then ((d.raise 0xF008).tellManager 0xF008).railsOff else d

def execThermalSample (temps : List Nat) (s : State) : Host.Outcome State Fault Refusal := run (fun d => d.thermalSample temps) s

/-! ## The input (R543, R571) -/

/-- PWR_INPUT_FAIL, and PRESENT open: FAULT is sent, and the module loses its power. -/
def Dev.inputFails (d : Dev) : Dev := if !d.power.on then d else ((d.raise 0xF005).tellManager 0xF005).powerOff

def execPwrInputFail (s : State) : Host.Outcome State Fault Refusal := run (fun d => d.inputFails) s
def execPresentOpen (s : State) : Host.Outcome State Fault Refusal := run (fun d => d.inputFails) s

/-- PWR_INPUT_LOW: below 46 V the clock is held at the 50 % step. -/
def Dev.inputLow (d : Dev) (dv : Nat) : Dev :=
  if dv ≥ 460 then d
  else
    let d := d.setFld PWR_STATUS.INPUT_DV dv
    if d.power.inputHold then d else ((d.modPower (fun p => { p with inputHold := true })).applySteps).raise 0xF003

def execPwrInputLow (dv : Nat) (s : State) : Host.Outcome State Fault Refusal := run (fun d => d.inputLow dv) s

/-- INPUT_LOW_RELEASE: above 47 V for 100 ms. -/
def Dev.inputRelease (d : Dev) (dv : Nat) : Dev :=
  if dv ≤ 470 then d
  else ((d.setFld PWR_STATUS.INPUT_DV (Nat.min dv 65535)).modPower (fun p => { p with inputHold := false })).applySteps

def execInputLowRelease (dv : Nat) (s : State) : Host.Outcome State Fault Refusal := run (fun d => d.inputRelease dv) s

/-- PWR_INPUT_HIGH: above 60 V the module runs unchanged. -/
def Dev.inputHigh (d : Dev) (dv : Nat) : Dev :=
  if dv ≤ 600 then d
  else
    let d := (d.setFld PWR_STATUS.INPUT_DV (Nat.min dv 65535)).setFld PWR_STATUS.INPUT_HIGH 1
    if d.power.highSaid then d else (d.modPower (fun p => { p with highSaid := true })).raise 0xF004

def execPwrInputHigh (dv : Nat) (s : State) : Host.Outcome State Fault Refusal := run (fun d => d.inputHigh dv) s

/-- INPUT_OVER_VOLTAGE: above 66 V the input is disconnected; POWER_ON is the turn-on below 64 V. -/
def Dev.overVoltage (d : Dev) (dv : Nat) : Dev := if dv ≤ 660 then d else d.powerOff.modPower (fun p => { p with cut := true })

/-- Above 80 V the input is outside the ratings (R543): "damage possible", and no behaviour is given. -/
def execInputOverVoltage (dv : Nat) (s : State) : Host.Outcome State Fault Refusal :=
  if dv > 800 then .fault .outsideRatings else run (fun d => d.overVoltage dv) s

/-- INPUT_REVERSED: nothing is powered, and a flag latches; `dv` is the magnitude. -/
def Dev.inputReversed (d : Dev) : Dev := d.powerOff.modPower (fun p => { p with reversed := true })

def execInputReversed (dv : Nat) (s : State) : Host.Outcome State Fault Refusal :=
  if dv > 800 then .fault .outsideRatings else run (fun d => d.inputReversed) s

/-! ## PLLs (R551) -/

/-- An engine die's PLL: its clocks stop, and its five tiles have failed, which is a failure of the module. -/
def Dev.enginePll (d : Dev) (x : Nat) : Dev :=
  let d := ((d.setFld PWR_CLK_STATUS.UNLOCKED 1 x).setFld PWR_CLK_STATUS.ARITH_LOCK 0 x).setFld PWR_CLK_STATUS.FABRIC_LOCK 0 x
  let d := (List.range 5).foldl (fun (d : Dev) t => d.modTile (5 * x + t) (fun t => { t with usable := false })) d
  (d.raise 0xF009).tellManager 0xF009

def Dev.pllUnlock (d : Dev) (w : PllWhich) : Dev :=
  match w with
  | .engine x => d.enginePll x
  | .memory f copies => (d.raise 0xF009).stackFails f true copies
  | .service => (d.raise 0xF009).complexSwitch

def execPwrPllUnlock (w : PllWhich) (s : State) : Host.Outcome State Fault Refusal := run (fun d => d.pllUnlock w) s

/-! ## Per-tile reset (R552, R554) -/

/-- A write to PWR_TILE_CTRL: SELFTEST, and a reset of each tile selected. -/
def Dev.writeTileCtrl (d : Dev) (x v : Nat) : Dev :=
  let r : RegId := ⟨.PWR_TILE_CTRL, x, 0⟩
  let d := d.setReg r (writeByAccess r true (d.reg r) v)
  ((List.range 5).filter (bitOf v)).foldl (fun d t => d.resetTile (5 * x + t)) d

def execPwrTileCtrlReset (d : Die) (v : BitVec 32) (s : State) : Host.Outcome State Fault Refusal := run (fun x => x.writeTileCtrl d v.toNat) s

/-- A JOINING device whose last tile has answered (R395): it tells the manager so by COMMITTED, or that its module has failed because an
engine has no tile (R20; log 113). -/
def Dev.joinTested (d : Dev) : Dev :=
  if d.fld SVC_ROLE.STATE ≠ 3 ∨ d.tiles.any (fun e => e.2.resetting) then d
  else if d.lacksTile then d.tellManager 0x1101
  else d.placeEngines.sendMgmt d.manager d.committed .committed

/-- PWR_TILE_RESET: the reset completes; with SELFTEST a tile that fails its test may carry no engine (R20). -/
def Dev.tileResetDone (d : Dev) (p : Nat) (pass : Bool) : Dev :=
  if !(d.tile p).resetting then d
  else
    let d := (d.modTile p (fun t => { t with resetting := false })).raise 0xF00A
    (if d.flag PWR_TILE_CTRL.SELFTEST (p / 5) ∧ !pass then d.markBad p else d).joinTested

def execPwrTileReset (p : Tile) (pass : Bool) (s : State) : Host.Outcome State Fault Refusal := run (fun d => d.tileResetDone p pass) s

/-! ## Coolant (R568–R570) -/

/-- The windows of R570. -/
def tempOk (t : Int) : Bool := decide (-200 ≤ t ∧ t ≤ 1200)
def flowOk (i : Nat) : Bool := decide (3800 ≤ i ∧ i ≤ 20500)
def leakOk (r : Nat) : Bool := decide (100 ≤ r ∧ r ≤ 12000)
def leakWet (r : Nat) : Bool := decide (100 ≤ r ∧ r < 8000)

/-- A sensor's fault bit: PWR_SENSOR_FAULT once per excursion. -/
def Dev.sensor (d : Dev) (f : Fld) (ok : Bool) : Dev :=
  if ok then d.setFld f 0 else if d.flag f then d else (d.setFld f 1).raise 0xF013

/-- A reading shown in PWR_COOLANT: of a faulty sensor the manual states none (log 1). -/
def Dev.showReading (d : Dev) (f : Fld) (ok : Bool) (v : Nat) : Dev :=
  if ok then d.setFld f v else (d.withFree (d.free + 1)).setFld f (Config.freeNat d.free)

/-- The flow in 0.01 L/min: 4 mA is 0, 20 mA is 10 L/min. -/
def flowOf (i : Nat) : Nat := (i - 4000) / 16

def Dev.readCoolant (d : Dev) (x : Coolant) : Dev :=
  let d := ((d.sensor PWR_COOLANT.TIN_FAULT (tempOk x.inlet)).sensor PWR_COOLANT.TOUT_FAULT (tempOk x.outlet)).sensor
    PWR_COOLANT.FLOW_FAULT (flowOk x.flow)
  let d := d.sensor PWR_COOLANT.LEAK_FAULT (leakOk x.leak)
  let d := d.showReading PWR_COOLANT.INLET_C (tempOk x.inlet) (unsigned 8 (x.inlet / 10))
  let d := d.showReading PWR_COOLANT.OUTLET_C (tempOk x.outlet) (unsigned 8 (x.outlet / 10))
  let d := d.showReading PWR_COOLANT.FLOW (flowOk x.flow) (flowOf x.flow)
  d.setFld PWR_COOLANT.LEAK (if leakWet x.leak then 1 else 0)

/-- A count of samples in a row for which a condition holds. -/
def runOf (n : Nat) (b : Bool) : Nat := if b then n + 1 else 0

/-- The outlet's floors. -/
def Dev.judgeOutlet (d : Dev) (t : Int) : Dev :=
  if !tempOk t then d.modPower (fun p => { p with hot60 := 0, hot65 := 0, hotClear := 0, hotFloor := 0 })
  else
    let was := d.power.hotFloor
    let d := d.modPower (fun p => { p with
      hot60 := runOf p.hot60 (decide (t ≥ 600)), hot65 := runOf p.hot65 (decide (t ≥ 650)), hotClear := runOf p.hotClear (decide (t ≤ 550)) })
    let p := d.power
    let floor := if p.hot65 ≥ 100 then 4 else if p.hot60 ≥ 100 then Nat.max was 2 else if p.hotClear ≥ 1000 then 0 else was
    let d := d.modPower (fun p => { p with hotFloor := floor })
    if was = 0 ∧ floor ≠ 0 then d.raise 0xF010 else d

/-- The flow's floors. -/
def Dev.judgeFlow (d : Dev) (i : Nat) : Dev :=
  if !flowOk i then d.modPower (fun p => { p with low30 := 0, low15 := 0, lowClear := 0, flowFloor := 0 })
  else
    let was := d.power.flowFloor
    let d := d.modPower (fun p => { p with
      low30 := runOf p.low30 (decide (i < 8800)), low15 := runOf p.low15 (decide (i < 6400)), lowClear := runOf p.lowClear (decide (i ≥ 9600)) })
    let p := d.power
    let floor := if p.low15 ≥ 1000 then 4 else if p.low30 ≥ 10000 then Nat.max was 2 else if p.lowClear ≥ 1000 then 0 else was
    let d := d.modPower (fun p => { p with flowFloor := floor })
    if was = 0 ∧ floor ≠ 0 then d.raise 0xF011 else d

/-- The leak sensor: PWR_LEAK and its FAULT after 100 ms (R569). -/
def Dev.judgeLeak (d : Dev) (r : Nat) : Dev :=
  let d := d.modPower (fun p => { p with wet := runOf p.wet (leakWet r), leakSaid := p.leakSaid && leakWet r })
  if d.power.wet ≥ 1000 ∧ !d.power.leakSaid then ((d.modPower (fun p => { p with leakSaid := true })).raise 0xF012).tellManager 0xF012 else d

def Dev.coolantSample (d : Dev) (x : Coolant) : Dev := ((((d.readCoolant x).judgeOutlet x.outlet).judgeFlow x.flow).judgeLeak x.leak).applySteps

def execCoolantSample (x : Coolant) (s : State) : Host.Outcome State Fault Refusal := run (fun d => d.coolantSample x) s

/-- PWR_LEAK_OFF: 60 s after PWR_LEAK with the sensor still wet (R569). -/
def Dev.leakOff (d : Dev) (wet : Bool) : Dev :=
  if wet ∧ d.power.leakSaid ∧ d.power.rails then ((d.raise 0xF014).tellManager 0xF014).railsOff else d

def execPwrLeakOff (wet : Bool) (s : State) : Host.Outcome State Fault Refusal := run (fun d => d.leakOff wet) s

end Sys2Proof.Machine
end

