-- ==== Sys2Proof/Machine/Shunter.lean ====
section
/-! DEFINITION. The shunter (R320–R330): permute, permute with PADMAT, gather. -/

namespace Sys2Proof.Machine

def isShn (kind : Nat) (x : Desc) : Bool := x.opcode == 0x50 && x.sKind == kind

/-- A non-negative address. -/
def shnAddr (a : Int) : Nat := a.toNat

/-- What one element of a walk does (R321, R324, R325). -/
inductive Move where
  | copy (src dst : Int)
  | pad (dst : Int)
  | skipPad
  | skipValid
  | nothing
  deriving DecidableEq, Repr

def Step4.move (s : Step4) (padmat : Bool) : Move :=
  if !padmat then (if s.valid then .copy s.src s.dst else .nothing)
  else if s.own then (if s.valid then .copy s.src s.dst else .pad s.dst)
  else if s.valid then .skipValid else .skipPad

/-- A row of a gather (R328): its element moves, and whether its index is out of range. -/
def gatherRow (pl : Plan) (src dst : Int) (n : Nat) (i : Int) : List Move × Bool :=
  let bad := decide (i < 0) || decide ((pl.ext.getD 1 0 : Int) ≤ i)
  ((List.range (pl.ext.getD 0 0)).map (fun (k : Nat) =>
    let d := dst + (k : Int) * pl.ds.getD 0 0 + (n : Int) * pl.ds.getD 1 0
    if bad then .pad d else .copy (src + (k : Int) * pl.ss.getD 0 0 + i * pl.ss.getD 1 0) d), bad)

/-- The moves of an SHN in the order in which they take effect (R323, R328), and the gather rows out of range. -/
def Dev.shnMoves (d : Dev) (p : Nat) (x : Desc) (pl : Plan) : List Move × Nat :=
  if x.sKind = 1 then
    if pl.ext.any (· == 0) then ([], 0) else
    let rows := ((List.range x.sCount).zip (d.gatherIdx p x)).map (fun e => gatherRow pl (d.shnSrc p x) (d.shnDst p x) e.1 e.2)
    (rows.flatMap (·.1), (rows.filter (·.2)).length)
  else ((pl.walk (d.shnSrc p x) (d.shnDst p x)).map (fun s => s.move (x.sKind == 2)), 0)

/-- One move's write; sources are read as they stood before the command, which R326 and R327 make the same. -/
def Dev.doMove (src : Dev) (e : Nat) (padBits : List Byte) (d : Dev) (m : Move) : Dev :=
  match m with
  | .copy s t => d.fabricWrite (shnAddr t) (src.bytes (shnAddr s) e)
  | .pad t => d.fabricWrite (shnAddr t) (padBits.take e)
  | _ => d

/-- The longest run of a walk's addresses (R330): `e` along the level whose stride is the element size, then through each
level whose stride is the run so far. -/
def runLength : Nat → Nat → List (Nat × Int) → Nat
  | 0, run, _ => run
  | k + 1, run, ls =>
    match ls.find? (fun l => l.2 == (run : Int) && l.1 != 0) with
    | some l => runLength k (run * l.1) (ls.erase l)
    | none => run

/-- The fabric cycles of an SHN that writes `n` bytes (R330). -/
def shnCycles (x : Desc) (pl : Plan) (n : Nat) : Nat :=
  if x.sKind = 1 then 32 + (x.sCount * (pl.ext.getD 0 0 * x.sEsize) + 15) / 16
  else if pl.identity x then 32 + (n + 255) / 256
  else
    let e := Nat.min 64 (Nat.min (runLength 5 x.sEsize (pl.ext.zip pl.ss)) (runLength 5 x.sEsize (pl.ext.zip pl.ds)))
    32 + (n * 64 + (256 * e - 1)) / (256 * e)

/-- An SHN: its moves, its counts, its events; a slot that it reads is sealed while it runs and EMPTY afterwards (R167). -/
def Dev.shunt (d : Dev) (p : Nat) (i : Issued) : Dev :=
  let x := i.desc
  let pl := planOf i.plan
  let (ms, oor) := d.shnMoves p x pl
  let count (f : Move → Bool) := (ms.filter f).length
  let ps := count (· == .skipPad)
  let vs := count (· == .skipValid)
  let wr := count (fun m => match m with | .copy .. | .pad _ => true | _ => false)
  let d := ms.foldl (d.doMove x.sEsize pl.padBits) d
  let d := (d.bump SHN_COUNTS.PAD_SKIP ps p).bump SHN_COUNTS.VALID_SKIP vs p
  let d := if ps + vs > 0 then d.setFld SHN_STATUS.SKIPPED 1 p else d
  let d := if oor = 0 then d else ((d.bump SHN_COUNTS.IDX_OOR oor p).setFld SHN_STATUS.IDX_RANGE 1 p).raise 0x9002
  let d := if x.sFromSlot then d.setFld ACB_SLOT_STATE.STATE 0 p x.sSlot else d
  (d.item p 4 x 0 ⟨shnCycles x pl (wr * x.sEsize), 0, []⟩).finish p i

/-- What an SHN reads. -/
def Dev.shnReads (d : Dev) (p : Nat) (x : Desc) (pl : Plan) : List (Nat × Nat) :=
  ((d.shnMoves p x pl).1.filterMap (fun m => match m with | .copy s _ => some (shnAddr s, x.sEsize) | _ => none)) ++
    (if x.sKind = 1 then ((d.tensor p x.sIdx).map (fun t => t.reads t.rows)).getD [] else [])

/-- The slot that an SHN reads is SEALED when the command starts, before its reads (R167), which the check bytes guard (R178):
`rd` is what they suffered. -/
def Dev.shnSeal (d : Dev) (p : Nat) (x : Desc) (rd : ReadOutcome) : Dev × Chk :=
  if x.sFromSlot then (d.setFld ACB_SLOT_STATE.STATE 2 p x.sSlot).slotRead p x.sSlot rd else (d, none)

/-- An SHN of one kind: its slot's state, then its slot's reads and its other reads, then its moves (R167, R178, R258). -/
def Dev.runShn (d : Dev) (p kind : Nat) (rd : ReadOutcome) : Dev :=
  (d.runUnit p 4 (isShn kind) (fun i d =>
    let x := i.desc
    d.startChecked p i (if x.sFromSlot then d.readMisuse p x.sSlot else none) (fun d =>
      let res := d.shnSeal p x rd
      res.1.startChecked p i (firstOf [res.2, d.readErrors (d.shnReads p x (planOf i.plan))]) (fun d => d.shunt p i)))).liftHold p

def execShnPermute (p : Tile) (s : State) (rd : ReadOutcome := .clean) : Host.Outcome State Fault Refusal := run (fun d => d.runShn p 0 rd) s
def execShnPermutePadmat (p : Tile) (s : State) (rd : ReadOutcome := .clean) : Host.Outcome State Fault Refusal := run (fun d => d.runShn p 2 rd) s
def execShnGather (p : Tile) (s : State) (rd : ReadOutcome := .clean) : Host.Outcome State Fault Refusal := run (fun d => d.runShn p 1 rd) s

end Sys2Proof.Machine
end

