-- ==== Sys2Proof/Machine/Vec.lean ====
section
/-! DEFINITION. The vector unit's operations (R209, R249–R251, R582); the update is in Machine/Update.lean. -/

namespace Sys2Proof.Machine

def Desc.vRndM (x : Desc) : Rnd := (Rnd.ofCode x.vRnd).getD .rne
def isVec (op : Nat) (x : Desc) : Bool := x.opcode == 0x40 && x.vOp == op

/-- LOG2E (R251). -/
def log2e : XR := decW32 0x3FB8AA3B

/-- A value converted into DST at (r, c) under the command's fields (R250), with its flags. -/
def Dev.vecConv (d : Dev) (p : Nat) (x : Desc) (t : Tensor) (r c : Nat) (v : XR) : Nat × Flags :=
  let scaled := [3, 4, 5].contains t.fmtCode
  convert { dst := t.fmt, rnd := x.vRndM, intWrap := x.vWrap, fltNsat := x.vNsat, scale := if scaled then d.rowScale t r else 1
            zp := d.rowZp t r, rand := d.srBits p x.layer x.vRndM (x.vRndBase + r * x.vCols + c) } v

/-- Rows of values converted and written to DST. -/
def Dev.vecWrite (d : Dev) (p : Nat) (x : Desc) (t : Tensor) (rows : List (List XR)) : Dev :=
  let d0 := d
  ((List.range rows.length).zip rows).foldl (fun (d : Dev) e =>
    d.putRow t e.1 0 (((List.range e.2.length).zip e.2).map (fun c => (d0.vecConv p x t e.1 c.1 c.2).1))) d


/-- A per-row value as it is kept in place s of C: in NARROW rounded to G16 under SR and the command's FLT_NSAT before any use
(R38, R203, R250). -/
def Dev.kept (d : Dev) (p : Nat) (x : Desc) (r s : Nat) (v : XR) : XR :=
  if d.narrowMode p then
    decG16 (convert { dst := .G16, rnd := .sr, fltNsat := x.vNsat, rand := d.srBits p x.layer .sr (x.vRndBase + x.vRows * x.vCols + 4 * r + s) } v).1
  else v

/-- Kept values of row r written to C, in the format of its record (R250). -/
def Dev.putKept (d : Dev) (x : Desc) (t : Tensor) (r : Nat) (vs : List XR) : Dev :=
  d.putRow t r 0 (vs.map (fun v => (convert { dst := t.fmt, fltNsat := x.vNsat } v).1))

/-- What a VEC reads: the operands it is given, by the number of rows each has. -/
def Dev.vecReads (d : Dev) (p : Nat) (x : Desc) : List (Nat × Nat) :=
  let r (o n : Nat) := ((d.tensor p o).map (fun t => t.reads n)).getD []
  let n := x.vRows
  match x.vOp with
  | 0x01 | 0x02 | 0x05 | 0x06 | 0x15 | 0x1D => r x.vA n ++ r x.vB n
  | 0x03 => r x.vA n ++ r x.vB n ++ r x.vC n
  | 0x10 => r x.vA n ++ r x.vB 1
  | 0x11 => r x.vA n ++ r x.vB 1 ++ r x.vC n ++ r x.vD n
  | 0x14 => r x.vA n ++ r x.vB n
  | 0x18 | 0x29 => r x.vA n ++ r x.vB n
  | _ => r x.vA n

/-- Elements per cycle of an operation (R251). -/
def Dev.vecRate (d : Dev) (p : Nat) (x : Desc) : Nat :=
  let wide (o : Nat) : Bool := match d.tensor p o with | some t => decide (t.fmt.bits > 16) | none => false
  match x.vOp with
  | 0x08 | 0x09 | 0x0A | 0x0B | 0x14 | 0x18 | 0x1C | 0x1D | 0x34 => 64
  | 0x10 | 0x11 | 0x15 => if d.narrowMode p then 256 else 128
  | 0x28 => 256
  | 0x30 => 512
  | _ => if wide x.vA || wide x.vB || wide x.vC || wide x.vDstRef then 256 else 512

/-- The cycles of a VEC (R582). -/
def Dev.vecAcct (d : Dev) (p : Nat) (x : Desc) : Acct :=
  ⟨24 + (if x.vOp = 0x29 then x.vRows else cdiv (x.vRows * x.vCols) (d.vecRate p x)) + 12, 0, []⟩

/-- The head of the VU's queue runs if it is the operation named: checks at start, effect, cycles, completion. -/
def Dev.vecRun (d : Dev) (p op : Nat) (chk : Desc → Dev → Chk) (eff : Desc → Dev → Dev) : Dev :=
  (d.runUnit p 3 (isVec op) (fun i d =>
    let x := i.desc
    d.startChecked p i (firstOf [chk x d, d.readErrors (d.vecReads p x)]) (fun d =>
      let a := d.vecAcct p x
      ((eff x d).item p 3 x 0 a).finish p i))).liftHold p

def noChk (_ : Desc) (_ : Dev) : Chk := none

/-! ## Element operations (R250, R251) -/

/-- The operand's element; +0 where the operand is absent. -/
def Dev.vElem (d : Dev) (p o r c : Nat) : XR := match d.tensor p o with | some t => d.elem t r c | none => .zero

/-- An operation on the elements of A, B and C. -/
def Dev.vecMap (d : Dev) (p : Nat) (x : Desc) (f : XR → XR → XR → XR) : Dev :=
  match d.tensor p x.vDstRef with
  | none => d
  | some t => d.vecWrite p x t ((List.range x.vRows).map (fun r => (List.range x.vCols).map (fun c =>
      f (d.vElem p x.vA r c) (d.vElem p x.vB r c) (d.vElem p x.vC r c))))

/-- MAX (R250): NaN if either is, +0 above −0. -/
def maxX (a b : XR) : XR :=
  if a.isNan ∨ b.isNan then .nan else if a.isZero ∧ b.isZero then .fin (a.sign && b.sign) 0 else if a.lt b then b else a
/-- MIN (R250): NaN if either is, −0 below +0. -/
def minX (a b : XR) : XR :=
  if a.isNan ∨ b.isNan then .nan else if a.isZero ∧ b.isZero then .fin (a.sign || b.sign) 0 else if b.lt a then b else a

def execAdd (p : Tile) (s : State) : Host.Outcome State Fault Refusal :=
  run (fun d => d.vecRun p 0x01 noChk (fun x d => d.vecMap p x (fun a b _ => a.add b))) s
def execMul (p : Tile) (s : State) : Host.Outcome State Fault Refusal :=
  run (fun d => d.vecRun p 0x02 noChk (fun x d => d.vecMap p x (fun a b _ => a.mul b))) s
def execFma (p : Tile) (s : State) : Host.Outcome State Fault Refusal :=
  run (fun d => d.vecRun p 0x03 noChk (fun x d => d.vecMap p x (fun a b c => (a.mul b).add c))) s
def execScale (p : Tile) (s : State) : Host.Outcome State Fault Refusal :=
  run (fun d => d.vecRun p 0x04 noChk (fun x d => d.vecMap p x (fun a _ _ => a.mul (decW32 x.vImm1)))) s
def execMax (p : Tile) (s : State) : Host.Outcome State Fault Refusal :=
  run (fun d => d.vecRun p 0x05 noChk (fun x d => d.vecMap p x (fun a b _ => maxX a b))) s
def execMin (p : Tile) (s : State) : Host.Outcome State Fault Refusal :=
  run (fun d => d.vecRun p 0x06 noChk (fun x d => d.vecMap p x (fun a b _ => minX a b))) s

/-- EXP2, LOG2, RECIP, RSQRT and SILU, element by element (R250). -/
def Dev.vecFun (d : Dev) (p : Nat) (x : Desc) (f : XR → XR) : Dev := d.vecMap p x (fun a _ _ => f a)

def execExp2 (p : Tile) (s : State) : Host.Outcome State Fault Refusal :=
  run (fun d => d.vecRun p 0x08 noChk (fun x d => d.vecFun p x wexp2)) s
def execLog2 (p : Tile) (s : State) : Host.Outcome State Fault Refusal :=
  run (fun d => d.vecRun p 0x09 noChk (fun x d => d.vecFun p x wlog2)) s
def execRecip (p : Tile) (s : State) : Host.Outcome State Fault Refusal :=
  run (fun d => d.vecRun p 0x0A noChk (fun x d => d.vecFun p x wrecip)) s
def execRsqrt (p : Tile) (s : State) : Host.Outcome State Fault Refusal :=
  run (fun d => d.vecRun p 0x0B noChk (fun x d => d.vecFun p x wrsqrt)) s

/-! ## Row operations -/

/-- RMSNORM: r := rsqrt(Σx² ÷ COLS + ε), y := (x × r) × γ. -/
def Dev.rmsnorm (d : Dev) (p : Nat) (x : Desc) : Dev :=
  match d.tensor p x.vC, d.tensor p x.vDstRef with
  | some tc, some t =>
    let d0 := d
    let rows := (List.range x.vRows).map (fun r =>
      let xs := (List.range x.vCols).map (d0.vElem p x.vA r)
      let ms := wdiv (treeSum (xs.map (fun v => wmul v v))) (.ofInt x.vCols)
      let k := d0.kept p x r 0 (wrsqrt (wadd ms (decW32 x.vImm1)))
      (k, ((List.range x.vCols).zip xs).map (fun e => wmul (wmul e.2 k) (d0.vElem p x.vB 0 e.1))))
    let d := ((List.range x.vRows).zip rows).foldl (fun (d : Dev) e => d.putKept x tc e.1 [e.2.1]) d
    d.vecWrite p x t (rows.map (·.2))
  | _, _ => d

def execRmsnorm (p : Tile) (s : State) : Host.Outcome State Fault Refusal :=
  run (fun d => d.vecRun p 0x10 noChk (fun x d => d.rmsnorm p x)) s

/-- A slot addition's checks at start: the slot's state, and the record of g_in (R163, R167). -/
def Dev.slotChk (d : Dev) (p : Nat) (x : Desc) : Chk :=
  firstOf [d.addMisuse p (x.vImm0 % 256), if (d.gIn p x.vImm1).isNone then some (stopAt 0x200A (unit64 p x.vImm1)) else none]

/-- RMSNORM_BWD's gradient of x: t := Σ(γ·dy·x) ÷ COLS, dx := r × (γ·dy − x × r × r × t). -/
def Dev.rmsnormBwd (d : Dev) (p : Nat) (x : Desc) : Dev :=
  match d.tensor p x.vDstRef with
  | none => d
  | some t =>
    let d0 := d
    let cols := List.range x.vCols
    let rows := (List.range x.vRows).map (fun r =>
      let k := d0.vElem p x.vC r 0
      let gy := cols.map (fun c => wmul (d0.vElem p x.vB 0 c) (d0.vElem p x.vA r c))
      let xs := cols.map (d0.vElem p x.vD r)
      let tt := wdiv (treeSum ((gy.zip xs).map (fun e => wmul e.1 e.2))) (.ofInt x.vCols)
      (gy.zip xs).map (fun e => wmul k (wsub e.1 (wmul (wmul (wmul e.2 k) k) tt))))
    d.vecWrite p x t rows

/-- RMSNORM_BWD's contribution to element (r, c) of the dγ slot: dy·x × r. -/
def Dev.gammaContrib (d : Dev) (p : Nat) (x : Desc) (r c : Nat) : List Contrib :=
  if r < x.vRows ∧ c < x.vCols then [⟨wmul (wmul (d.vElem p x.vA r c) (d.vElem p x.vD r c)) (d.vElem p x.vC r 0), false⟩] else []

/-- exp2((v − m) × f × LOG2E), left to right; `f` none leaves it out. -/
def expTerm (v m : XR) (f : Option XR) : XR :=
  let z := wsub v m
  let z := match f with | some f => wmul z f | none => z
  wexp2 (wmul z log2e)

/-- The largest value of a row (R250). -/
def rowMax (xs : List XR) : XR := match xs with | [] => .zero | v :: vs => vs.foldl maxX v

/-- SOFTMAX: m := max(x + b), e := exp2((x + b − m) × f × LOG2E), y := e ÷ Σe. -/
def Dev.softmax (d : Dev) (p : Nat) (x : Desc) : Dev :=
  match d.tensor p x.vC, d.tensor p x.vDstRef with
  | some tc, some t =>
    let d0 := d
    let rows := (List.range x.vRows).map (fun r =>
      let xs := (List.range x.vCols).map (fun c =>
        if (d0.tensor p x.vB).isNone then d0.vElem p x.vA r c else wadd (d0.vElem p x.vA r c) (d0.vElem p x.vB r c))
      let m := d0.kept p x r 0 (rowMax xs)
      let es := ((List.range x.vCols).zip xs).map (fun e =>
        expTerm e.2 m (some (decW32 x.vImm1)))
      let sm := d0.kept p x r 1 (treeSum es)
      ([m, sm], es.map (fun e => wdiv e sm)))
    let d := ((List.range x.vRows).zip rows).foldl (fun (d : Dev) e => d.putKept x tc e.1 e.2.1) d
    d.vecWrite p x t (rows.map (·.2))
  | _, _ => d

def execSoftmax (p : Tile) (s : State) : Host.Outcome State Fault Refusal :=
  run (fun d => d.vecRun p 0x14 noChk (fun x d => d.softmax p x)) s

/-- SOFTMAX_BWD: dx := y × (dy − Σ dy·y). -/
def Dev.softmaxBwd (d : Dev) (p : Nat) (x : Desc) : Dev :=
  match d.tensor p x.vDstRef with
  | none => d
  | some t =>
    let d0 := d
    d.vecWrite p x t ((List.range x.vRows).map (fun r =>
      let dy := (List.range x.vCols).map (d0.vElem p x.vA r)
      let y := (List.range x.vCols).map (d0.vElem p x.vB r)
      let sm := treeSum ((dy.zip y).map (fun e => wmul e.1 e.2))
      (dy.zip y).map (fun e => wmul e.2 (wsub e.1 sm))))

def execSoftmaxBwd (p : Tile) (s : State) : Host.Outcome State Fault Refusal :=
  run (fun d => d.vecRun p 0x15 noChk (fun x d => d.softmaxBwd p x)) s

/-- XENT (R251): per row the log-sum-exp, the loss and the scaled loss gradient, with its record. A label outside the row
has no logit: that one value is open, a function of the row and the label (R214, log 13). -/
def Dev.xent (d : Dev) (p : Nat) (x : Desc) : Dev :=
  match d.tensor p x.vB, d.tensor p x.vC, d.tensor p x.vDstRef with
  | some tb, some tc, some t =>
    let d0 := d
    let g := (d.trk p x.layer).g
    let f := decW32 x.vImm1
    let rows := (List.range x.vRows).map (fun r =>
      let label := signed 32 (d0.nat (tb.addr (r / Nat.max tb.cols 1) (r % Nat.max tb.cols 1)) 4)
      let xs := (List.range x.vCols).map (d0.vElem p x.vA r)
      let m := rowMax xs
      let es := ((List.range x.vCols).zip xs).map (fun e => expTerm e.2 m none)
      let sm := treeSum es
      let lse := d0.kept p x r 1 (wadd m (wdiv (wlog2 sm) log2e))
      let xl := if 0 ≤ label ∧ label < (x.vCols : Int) then xs.getD label.toNat .zero else
        decW32 (Config.outsideLogit (xs.map encW32) label).toNat
      let loss := d0.kept p x r 0 (wsub lse xl)
      ([loss, lse], ((List.range x.vCols).zip es).map (fun e =>
        let one : XR := if (e.1 : Int) = label then .one else .zero
        wpow2 (wmul (wsub (wdiv e.2 sm) one) f) g)))
    let d := ((List.range x.vRows).zip rows).foldl (fun (d : Dev) e => d.putKept x tc e.1 e.2.1) d
    let d1 := d
    let d := d.vecWrite p x t (rows.map (·.2))
    let cnt := ((List.range x.vRows).zip rows).foldl (fun (c : RecCnt) e => c.addRow (((List.range x.vCols).zip e.2.2).map (fun v =>
      let o := d1.vecConv p x t e.1 v.1 v.2
      ⟨v.2, v.2, decode t.fmt (if [3, 4, 5].contains t.fmtCode then d1.rowScale t e.1 else 1) (d1.rowZp t e.1) o.1, o.2.ovf, false, false⟩))) {}
    d.putRec p x.vStat (recBytes x (outDir x 5 true) (fmtByte x.vDst x.vRnd) 0 cnt 0 0 g 0)
  | _, _, _ => d

def execXent (p : Tile) (s : State) : Host.Outcome State Fault Refusal :=
  run (fun d => d.vecRun p 0x18 noChk (fun x d => d.xent p x)) s

/-- σ of SILU: recip(1 + exp2(−x × LOG2E)). -/
def sigma (v : XR) : XR := wrecip (wadd .one (wexp2 (wmul v.neg log2e)))

def execSilu (p : Tile) (s : State) : Host.Outcome State Fault Refusal :=
  run (fun d => d.vecRun p 0x1C noChk (fun x d => d.vecFun p x (fun a => wmul a (sigma a)))) s

/-- SILU_BWD: dy × σ × (1 + x × (1 − σ)). -/
def Dev.siluBwd (d : Dev) (p : Nat) (x : Desc) : Dev :=
  match d.tensor p x.vDstRef with
  | none => d
  | some t =>
    let rows := (List.range x.vRows).map (fun r => (List.range x.vCols).map (fun c =>
      let v := d.vElem p x.vB r c
      let σ := sigma v
      wmul (wmul (d.vElem p x.vA r c) σ) (wadd .one (wmul v (wsub .one σ)))))
    d.vecWrite p x t rows

def execSiluBwd (p : Tile) (s : State) : Host.Outcome State Fault Refusal :=
  run (fun d => d.vecRun p 0x1D noChk (fun x d => d.siluBwd p x)) s

/-- Dropout (R209): kept where the draw is at least DROP_P, times KEEP; +0 elsewhere. -/
def Dev.dropOut (d : Dev) (p : Nat) (x : Desc) : Dev :=
  match d.tensor p x.vDstRef with
  | none => d
  | some t => d.vecWrite p x t ((List.range x.vRows).map (fun r => (List.range x.vCols).map (fun c =>
      if d.draw p x.layer 0 (x.vRndBase + r * x.vCols + c) % 65536 ≥ x.vImm0 % 65536 then
        (d.vElem p x.vA r c).mul (decW32 x.vImm1)
      else .zero)))

def execDrop (p : Tile) (s : State) : Host.Outcome State Fault Refusal :=
  run (fun d => d.vecRun p 0x20 noChk (fun x d => d.dropOut p x)) s
/-- DROP_BWD draws the same mask (R209). -/
def execDropBwd (p : Tile) (s : State) : Host.Outcome State Fault Refusal :=
  run (fun d => d.vecRun p 0x21 noChk (fun x d => d.dropOut p x)) s

/-! ## Slots (R168, R170, R582) -/

/-- A slot addition: the buffer's reads, then the contributions. -/
def Dev.vecSlot (d : Dev) (p : Nat) (x : Desc) (rd : ReadOutcome) (cs : Nat → Nat → List Contrib) : Dev :=
  let n := x.vImm0 % 256
  let res := d.slotRead p n rd
  let err := res.2
  let d := res.1
  match err with
  | some code => d.readHalt p code x
  | none => d.slotAdd p n ((d.gIn p x.vImm1).getD 0) x.mb cs

/-- Slot VECs begin with the slot's own reads: a failed word stops the command before it writes (R178). The zero-fill of a first
contribution counts as BUSY (R168). -/
def Dev.vecSlotRun (d : Dev) (p op : Nat) (rd : ReadOutcome) (cs : Desc → Dev → Nat → Nat → List Contrib) (after : Desc → Dev → Dev) : Dev :=
  (d.runUnit p 3 (isVec op) (fun i d =>
    let x := i.desc
    d.startChecked p i (firstOf [d.slotChk p x, d.readErrors (d.vecReads p x)]) (fun d =>
      let a := d.vecAcct p x
      let a := { a with busy := a.busy + d.zeroFill p (x.vImm0 % 256) (cs x d) }
      let d' := d.vecSlot p x rd (cs x d)
      if d'.flag ENG_STATUS.HALTED p then d' else ((after x d').item p 3 x 0 a).finish p i))).liftHold p

def execRmsnormBwd (p : Tile) (s : State) (rd : ReadOutcome := .clean) : Host.Outcome State Fault Refusal :=
  run (fun d => d.vecSlotRun p 0x11 rd (fun x d => d.gammaContrib p x) (fun x d => d.rmsnormBwd p x)) s

def execSlotAdd (p : Tile) (rd : ReadOutcome) (s : State) : Host.Outcome State Fault Refusal :=
  run (fun d => d.vecSlotRun p 0x28 rd
    (fun x d r c => if r < x.vRows ∧ c < x.vCols then [⟨rw (d.vElem p x.vA r c), false⟩] else []) (fun _ d => d)) s

/-- The row index of each row of A, read flat (R582). -/
def Dev.idxList (d : Dev) (p : Nat) (x : Desc) : List Int :=
  match d.tensor p x.vB with
  | none => []
  | some t => (List.range x.vRows).map (fun n => signed 32 (d.nat (t.addr (n / Nat.max t.cols 1) (n % Nat.max t.cols 1)) 4))

def execSlotIdxAdd (p : Tile) (rd : ReadOutcome) (s : State) : Host.Outcome State Fault Refusal :=
  run (fun d => d.vecSlotRun p 0x29 rd
    (fun x d r c => if c < x.vCols then
        ((List.range x.vRows).zip (d.idxList p x)).filterMap (fun e =>
          if e.2 = (r : Int) then some ⟨rw (d.vElem p x.vA e.1 c), false⟩ else none)
      else [])
    (fun x d =>
      let n := d.fld ACB_SLOT_GEOM.ROWS p (x.vImm0 % 256)
      if (d.idxList p x).any (fun i => decide (i < 0) || decide ((n : Int) ≤ i)) then
        (d.setFld ACB_STATUS.IDX_RANGE 1 p).raise 0x7007
      else d)) s

/-! ## MAXMASK and BINCOUNT -/

/-- The index of the first largest element of a row; where the row holds a NaN, which has no place in the order, it is open, a
function of the row (R214, log 13). -/
def firstLargest (xs : List XR) : Nat :=
  if xs.any (·.isNan) then Config.nanLargest (xs.map encW32) % Nat.max xs.length 1
  else (((List.range xs.length).zip xs).foldl (fun (b : Nat × XR) e => if b.2.lt e.2 then e else b) (0, xs.headD .zero)).1

/-- MAXMASK: the index of each row's first largest element goes to DST column IMM0, the element becomes −infinity. -/
def Dev.maxMask (d : Dev) (p : Nat) (x : Desc) : Dev :=
  match d.tensor p x.vA, d.tensor p x.vDstRef with
  | some ta, some td =>
    if x.vCols = 0 then d
    else
      let d0 := d
      (List.range x.vRows).foldl (fun (d : Dev) r =>
        let i := firstLargest ((List.range x.vCols).map (d0.elem ta r))
        let neg := (convert { dst := ta.fmt, fltNsat := x.vNsat, scale := d0.rowScale ta r, zp := d0.rowZp ta r } (.inf true)).1
        (d.putElem td r x.vImm0 i).putElem ta r i neg) d
  | _, _ => d

def execMaxmask (p : Tile) (s : State) : Host.Outcome State Fault Refusal :=
  run (fun d => d.vecRun p 0x30 noChk (fun x d => d.maxMask p x)) s

/-- BINCOUNT: the I32 indices counted in ascending position. -/
def Dev.binCount (d : Dev) (p : Nat) (x : Desc) : Dev :=
  match d.tensor p x.vA, d.tensor p x.vDstRef with
  | some ta, some td =>
    let idx := (List.range x.vRows).flatMap (fun r => (List.range x.vCols).map (fun c => signed 32 (d.code ta r c)))
    (List.range x.vImm0).foldl (fun (d : Dev) (b : Nat) =>
      let n := (idx.filter (fun i => i == (b : Int))).length
      d.putElem td (b / Nat.max td.cols 1) (b % Nat.max td.cols 1) (n % 2 ^ 32)) d
  | _, _ => d

def execBincount (p : Tile) (s : State) : Host.Outcome State Fault Refusal :=
  run (fun d => d.vecRun p 0x34 noChk (fun x d => d.binCount p x)) s

end Sys2Proof.Machine
end

