-- ==== Sys2Proof/Machine/Update.lean ====
section
/-! DEFINITION. The update (R189, R194–R203, R252): UPD_MOM and UPD_ADA. -/

namespace Sys2Proof.Machine

/-- The committed update record (R195). -/
structure UpdRec where
  em : Int
  mmag : Int
  recipe : Nat
  t : Nat
  b1p : XR
  b2p : XR
  nonfin : Nat
  range : Nat
  deriving DecidableEq, Repr

def updRecOf (bs : List Byte) : UpdRec :=
  ⟨signed 8 (fieldAt bs 1 1), signed 8 (fieldAt bs 2 1), fieldAt bs 3 1 % 4, fieldAt bs 4 4, decW32 (fieldAt bs 8 4),
    decW32 (fieldAt bs 12 4), fieldAt bs 16 4, fieldAt bs 20 4⟩

/-- A layer's hyper-parameters (R196). -/
structure Hyper where
  lr : XR
  beta1 : XR
  beta2 : XR
  eps : XR
  decay : XR
  recipe : Nat
  rnd : Nat
  deriving DecidableEq, Repr

def Dev.hyper (d : Dev) (p layer : Nat) : Hyper :=
  let a := larderAddr p (d.fld ENG_HYP_BASE.BASE p * 0x8000 + 32 * (layer % 1024))
  let f (o : Nat) := decW32 (d.nat (a + o) 4)
  let fl := d.nat (a + 20) 1
  ⟨f 0, f 4, f 8, f 12, f 16, fl % 4, fl / 4 % 4⟩

/-- The per-layer constants (R197). -/
structure UpdConst where
  emN : Int
  u : Int
  kLr : XR
  dfac : XR
  ob1 : XR
  ob2 : XR
  bc1 : XR
  bc2 : XR
  epsS : XR
  deriving DecidableEq, Repr

def updConst (ada : Bool) (h : Hyper) (r : UpdRec) (lrFactor : XR) : UpdConst :=
  let lrEff := wmul h.lr lrFactor
  let emN := if r.mmag = -128 then r.em else clampI (-127) 127 (24 - r.mmag)
  let dd : Int := if ada ∨ r.mmag = -128 then 0 else r.mmag
  let u := if lrEff.isZero then 0 else clampI (-127) 127 (-(log2X lrEff) - dd)
  let bc (bp beta : XR) := wdiv .one (wsub .one (wmul bp beta))
  ⟨emN, u, wpow2 lrEff (if ada then u else u - emN), wsub .one (wmul lrEff h.decay), wsub .one h.beta1,
    wsub .one h.beta2, bc r.b1p h.beta1, bc r.b2p h.beta2, wpow2 h.eps emN⟩

/-! ## One element (R198–R201, R203) -/

/-- Where the element's draws stand: the next j of a NARROW operator and the values saturated so far. -/
structure UpdAcc where
  j : Nat := 4
  sat : Nat := 0
  deriving DecidableEq, Repr

/-- sr_g16 (R198), saturated under R201: the code and whether it was saturated. -/
def srG16 (rand : Nat) (x : XR) : Nat × Bool :=
  let o := convert { dst := .G16, rnd := .sr, rand := rand } x
  match x with
  | .inf n => ((if n then 0x8000 else 0) + 0x7EFF, true)
  | _ => (o.1, o.2.ovf)

/-- An operator of the update: its exact result rounded to W32 in ISLAND, to G16 under SR with the next j in NARROW
(R203), saturated and counted under R201. `w` is the W32 result. -/
def updOp (narrow : Bool) (rand : Nat → Nat) (exact w : XR) (a : UpdAcc) : XR × UpdAcc :=
  if narrow then
    let o := srG16 (rand a.j) exact
    (decG16 o.1, ⟨a.j + 1, if o.2 then a.sat + 1 else a.sat⟩)
  else match w with
    | .inf n => (.fin n w32F.max, { a with sat := a.sat + 1 })
    | x => (x, a)

/-- The exact square root as far as a single rounding can tell (R110). -/
def xsqrt : XR → XR
  | .fin n m => if m = 0 then .fin n 0 else if n then .nan else .fin false (sqrtRat m)
  | .inf n => if n then .nan else .inf false
  | .nan => .nan

/-- The result of an element's update: W, M, V and the values saturated. -/
structure UpdOut where
  w : Nat
  m : Nat
  v : Nat
  sat : Nat
  skipped : Bool := false
  deriving DecidableEq, Repr

/-- The four last operators and writes shared by both recipes: W from the step q (R198). -/
def updW (k : UpdConst) (rand : Nat → Nat) (w q : XR) : Nat × Bool :=
  srG16 (rand 0) ((w.mul k.dfac).sub (q.mul (.fin false (pow2 (-k.u)))))

/-- One element under the momentum recipe (R198). -/
def updMom (k : UpdConst) (h : Hyper) (r : UpdRec) (narrow : Bool) (rand : Nat → Nat) (sg : Int) (gq w m : XR) : UpdOut :=
  let op := updOp narrow rand
  let p2 (x : XR) (e : Int) := op (x.mul (.fin false (pow2 e))) (wpow2 x e)
  let (gs, a) := p2 gq (k.emN - sg) {}
  let (ms, a) := p2 m (k.emN - r.em) a
  let (bm, a) := op (h.beta1.mul ms) (wmul h.beta1 ms) a
  let (m1, a) := op (bm.add gs) (wadd bm gs) a
  let (mn, s1) := srG16 (rand 1) m1
  let (q, a) := op (k.kLr.mul (decG16 mn)) (wmul k.kLr (decG16 mn)) a
  let (wn, s0) := updW k rand w q
  ⟨wn, mn, 0, a.sat + (if s0 then 1 else 0) + (if s1 then 1 else 0), false⟩

/-- One element under the adaptive recipe (R198). -/
def updAda (k : UpdConst) (h : Hyper) (r : UpdRec) (narrow : Bool) (rand : Nat → Nat) (sg : Int) (gq w m v : XR) : UpdOut :=
  let op := updOp narrow rand
  let p2 (x : XR) (e : Int) := op (x.mul (.fin false (pow2 e))) (wpow2 x e)
  let mul (x y : XR) := op (x.mul y) (wmul x y)
  let add (x y : XR) := op (x.add y) (wadd x y)
  let (gs, a) := p2 gq (k.emN - sg) {}
  let (ms, a) := p2 m (k.emN - r.em) a
  let (bm, a) := mul h.beta1 ms a
  let (og, a) := mul k.ob1 gs a
  let (m1, a) := add bm og a
  let (vs, a) := p2 v (2 * (k.emN - r.em)) a
  let (bv, a) := mul h.beta2 vs a
  let (ov, a) := mul k.ob2 gs a
  let (ovg, a) := mul ov gs a
  let (v1, a) := add bv ovg a
  let (mn, s1) := srG16 (rand 1) m1
  let (vn, s2) := srG16 (rand 2) v1
  let (mc, a) := mul (decG16 mn) k.bc1 a
  let (nm, a) := mul k.kLr mc a
  let (vc, a) := mul (decG16 vn) k.bc2 a
  let (sq, a) := op (xsqrt vc) (wsqrt vc) a
  let (dn, a) := add sq k.epsS a
  let (q, a) := op (nm.div dn) (wdiv nm dn) a
  let (wn, s0) := updW k rand w q
  ⟨wn, mn, vn, a.sat + (if s0 then 1 else 0) + (if s1 then 1 else 0) + (if s2 then 1 else 0), false⟩

/-! ## The command (R252) -/

def Dev.committedOp (d : Dev) (p o : Nat) : Option Tensor := d.tensorAt p o 0
def Dev.nextOp (d : Dev) (p o : Nat) : Option Tensor := d.tensorAt p o 1

/-- Columns that an update reads of its slice: K_p of a whisked layer (R105, R109). -/
def Dev.updCols (d : Dev) (p : Nat) (x : Desc) : Nat :=
  if (d.ltab p x.layer).whisk then 128 * cdiv x.vCols 128 else x.vCols

/-- The ranges an update reads. -/
def Dev.updReads (d : Dev) (p : Nat) (x : Desc) : List (Nat × Nat) :=
  let rows (o : Nat) := ((d.committedOp p o).map (fun t => (List.range x.vRows).map (fun r => (t.addr (x.vImm0 + r) 0, t.rowBytes)))).getD []
  ((d.tensor p x.vA).map (fun t => t.reads x.vRows)).getD [] ++ rows x.vB ++ rows x.vC ++
    (if x.vOp = 0x41 then rows x.vD else []) ++ ((d.committedOp p x.vDstRef).map (fun t => [(t.base, 32)])).getD []

/-- The checks of an update at its start (R122, R163, R195, R232, R252). -/
def Dev.updChk (d : Dev) (p : Nat) (ada : Bool) (x : Desc) : Chk :=
  let h := d.hyper p x.layer
  let bs := ((d.committedOp p x.vDstRef).map (fun t => d.bytes t.base 32)).getD []
  let r := updRecOf bs
  let code := if ada then 1 else 0
  firstOf
    [ badField (h.recipe ≠ code), badField (fieldAt bs 3 1 % 4 ≠ code), badFormat (h.rnd == 3), badField (!kappaOk (d.ltab p x.layer).kappaW),
      bounds ((d.nextOp p x.vE).any (fun t => decide (d.updCols p x > t.cols))),
      (if crc32c (bs.take 28) = fieldAt bs 28 4 then none
        else some (stopAt 0x200A (((d.committedOp p x.vDstRef).map (·.base)).getD 0))),
      (if (d.gIn p x.vImm1).isNone then some (stopAt 0x200A (unit64 p x.vImm1)) else none), d.readErrors (d.updReads p x),
      badField (r.recipe ≠ code) ]

/-- The running counts of a layer's updates (R252): FIRST clears them. -/
def TileSt.updRun (t : TileSt) (layer : Nat) (first : Bool) : UpdRun :=
  if first then { layer := layer } else (t.updRuns.find? (fun r => r.layer == layer)).getD { layer := layer }
def TileSt.putUpdRun (t : TileSt) (r : UpdRun) : TileSt :=
  { t with updRuns := r :: t.updRuns.filter (fun s => s.layer != r.layer) }

/-- The next update record (R199). -/
def nextRec (ada : Bool) (h : Hyper) (r : UpdRec) (k : UpdConst) (run : UpdRun) : List Byte :=
  let a := decG16 run.maxM
  let m := max (r.mmag - 1) (-128)
  let mmag := if a.isZero then m else max m (log2X a - k.emN)
  withCrc (leBytes 1 (unsigned 8 k.u) ++ leBytes 1 (unsigned 8 k.emN) ++ leBytes 1 (unsigned 8 (min mmag 127)) ++
    leBytes 1 (if ada then 1 else 0) ++ leBytes 4 (r.t + 1) ++ leBytes 4 (encW32 (wmul r.b1p h.beta1)) ++
    leBytes 4 (encW32 (wmul r.b2p h.beta2)) ++ leBytes 4 (Nat.min (r.nonfin + run.nonfin) 0xFFFFFFFF) ++
    leBytes 4 (Nat.min (r.range + run.rangeSat) 0xFFFFFFFF) ++ leBytes 4 0)

/-- The ranges that the conversion of some rows of a packed matrix has written (R117, R315, R317). -/
def Dev.convRanges (d : Dev) (t : Tensor) (rows : List Nat) : List (Nat × Nat) :=
  let blocks := (List.range t.rb).filter (fun rb => rows.any (fun r => r / 128 == rb))
  let kbs := List.range t.kb
  rows.flatMap (fun r => kbs.map (fun kb => (t.base + (r / 128 * t.kb + kb) * t.codeBytes + r % 128 * t.tileRow, t.tileRow))) ++
    rows.flatMap (fun r => [(t.sideAddr (r / 128) + 2 * (r % 128), 2), (t.sideAddr (r / 128) + 256 + 4 * (r % 128), 4)] ++
      kbs.map (fun kb => (t.tileSide (r / 128) kb + 32 + 2 * (r % 128), 2))) ++
    blocks.flatMap (fun rb => kbs.flatMap (fun kb => (t.tileSide rb kb, 32) ::
      (if t.hasDrip then [(t.dripSlot rb kb, 4 * d.nat (t.tileSide rb kb) 2)] else []))) ++
    (if blocks.contains (t.rb - 1) then padRanges t else [])

/-- Elements per cycle (R189). -/
def updRate (ada narrow : Bool) : Nat := (if ada then 16 else 32) * (if narrow then 2 else 1)

/-- The new values of an update, row by row (R198, R200, R201). -/
def Dev.updRows (d : Dev) (p : Nat) (ada : Bool) (x : Desc) (ta wc mc : Tensor) (vc : Option Tensor) (r : UpdRec) :
    List (Nat × List UpdOut) :=
  let narrow := d.narrowMode p
  let h := d.hyper p x.layer
  let k := updConst ada h r (decW32 (d.fld ENG_LR_FACTOR.LR_FACTOR p))
  let sg := (d.gIn p x.vImm1).getD 0
  let whisk := (d.ltab p x.layer).whisk
  let kp := d.updCols p x
  let rowOut (i : Nat) : List UpdOut :=
    let g := d.row ta i kp
    let g := if whisk then d.unwhisk p (d.stepOf p) x.layer g else g
    (List.range x.vCols).map (fun c =>
      let gq := g.getD c .zero
      let row := x.vImm0 + i
      let w0 := d.code wc row c
      let m0 := d.code mc row c
      let v0 := (vc.map (fun t => d.code t row c)).getD 0
      if !gq.isFin then ⟨w0, m0, v0, 0, true⟩
      else
        let rand (j : Nat) := d.draw p x.layer 1 (x.vRndBase + 32 * (i * x.vCols + c) + j) % 65536
        if ada then updAda k h r narrow rand sg gq (decG16 w0) (decG16 m0) (decG16 v0)
        else updMom k h r narrow rand sg gq (decG16 w0) (decG16 m0))
  (List.range x.vRows).map (fun i => (i, rowOut i))

/-- An update's new weights and moments stored in the next version (R190, R194). -/
def Dev.updPut (d : Dev) (ada : Bool) (x : Desc) (wn mn : Tensor) (vn : Option Tensor) (outs : List (Nat × List UpdOut)) : Dev :=
  outs.foldl (fun (d : Dev) e =>
    let row := x.vImm0 + e.1
    let d := d.putRow wn row 0 (e.2.map (·.w))
    let d := d.putRow mn row 0 (e.2.map (·.m))
    match vn with
    | some t => if ada then d.putRow t row 0 (e.2.map (·.v)) else d
    | none => d) d

/-- The counts of an update's run after one command's outputs (R199–R201); `mat` is the matrix converted. -/
def UpdRun.after (run : UpdRun) (outs : List UpdOut) (drips mat : Nat) : UpdRun :=
  let top := outs.foldl (fun m o => if o.skipped ∨ !(decG16 o.m).isFin then m else Nat.max m (o.m % 0x8000)) run.maxM
  let nf := run.nonfin + (outs.filter (·.skipped)).length
  let sat := outs.foldl (fun s o => s + o.sat) run.rangeSat
  { run with
    maxM := top, nonfin := nf, rangeSat := sat, saidNonfin := decide (nf > 0), saidRange := decide (sat > 0)
    saidDrip := if drips > 0 ∧ !run.saidDrip.contains mat then mat :: run.saidDrip else run.saidDrip }

/-- The events of an update's run: each once in a run, a drip overflow once for each weight matrix (R118, R148, R200, R201,
R252). -/
def Dev.updTell (d : Dev) (p : Nat) (run run' : UpdRun) (drips mat : Nat) : Dev :=
  let d := if run'.nonfin > 0 ∧ !run.saidNonfin then d.raise 0x6011 else d
  let d := if run'.rangeSat > 0 ∧ !run.saidRange then d.raise 0x6012 else d
  let d := if drips = 0 then d else if run.saidDrip.contains mat then d.setFld SIV_STATUS.DRIP_OVF 1 p else d.dripOvf p
  d.modTile p (fun t => t.putUpdRun run')

/-- The bytes an update stored, sent to the partner (R202, R409); the tracker table follows at the step's close. -/
def Dev.updSend (d : Dev) (p : Nat) (ada : Bool) (x : Desc) (wn mn te rn : Tensor) (vn : Option Tensor) (rows : List Nat) : Dev :=
  let rowsOf (t : Tensor) := (List.range x.vRows).map (fun i => (t.addr (x.vImm0 + i) 0, 2 * x.vCols))
  let sent := rowsOf wn ++ rowsOf mn ++ (match vn with | some t => if ada then rowsOf t else [] | none => []) ++
    d.convRanges te rows ++
    (if x.vLast then [(rn.base, 32)] else [])
  sent.foldl (fun d e => d.tenderRange p e.1 e.2) d

/-- The work items of the sieve for an update: the narrowing, and the unwhisking of WHISK (R477, R483). -/
def Dev.updItems (d : Dev) (p : Nat) (x : Desc) (whisk : Bool) (kp : Nat) : Dev :=
  let d := d.item p 2 x 5 ⟨narrowCycles x.vRows (if whisk then kp else x.vCols) false, 0, []⟩
  if whisk then
    let a : Acct := ⟨x.vRows * cdiv kp 128, 0, []⟩
    let d := d.tileRecord p 3 2 (descBody x 6)
    (d.countItem p 3 x 6 a).tileRecord p 4 2 (descBody x 6 ++ endBody a)
  else d

/-- An update of a slice: its rows, their conversion for the next step, its record and what it tells (R189–R202). -/
def Dev.update (d : Dev) (p : Nat) (ada : Bool) (x : Desc) : Dev :=
  match d.tensor p x.vA, d.committedOp p x.vB, d.committedOp p x.vC, d.nextOp p x.vB, d.nextOp p x.vC, d.nextOp p x.vE,
      d.committedOp p x.vDstRef, d.nextOp p x.vDstRef with
  | some ta, some wc, some mc, some wn, some mn, some te, some rc, some rn =>
    let vn := d.nextOp p x.vD
    let h := d.hyper p x.layer
    let r := updRecOf (d.bytes rc.base 32)
    let k := updConst ada h r (decW32 (d.fld ENG_LR_FACTOR.LR_FACTOR p))
    let whisk := (d.ltab p x.layer).whisk
    let kp := d.updCols p x
    let outs := d.updRows p ada x ta wc mc (d.committedOp p x.vD) r
    let d := d.updPut ada x wn mn vn outs
    -- R202: the new rows converted into forward codes for step n + 1
    let rows := outs.map (fun e => (x.vImm0 + e.1, e.2.map (fun o => decG16 o.w)))
    let rnd := (Rnd.ofCode h.rnd).getD .rne
    let res := d.convertWeights p x.layer (d.stepOf p + 1) rnd false te
      (fun row c => x.vRndBase + 32 * ((row - x.vImm0) * x.vCols + c) + 3) rows
    let cnt := res.2
    let d := res.1.putRec p x.vStat (recBytes x (3 + 4 * 8) (fmtByte te.fmtCode h.rnd) 0 cnt 0 0 0 0)
    let run := (d.tile p).updRun x.layer x.vFirst
    let mat := x.vE % 0x10000
    let run' := run.after (outs.flatMap (·.2)) cnt.dripOvf mat
    let d := d.updTell p run run' cnt.dripOvf mat
    let d := if x.vLast then d.fabricWrite rn.base (nextRec ada h r k run') else d
    (d.updSend p ada x wn mn te rn vn (rows.map (·.1))).updItems p x whisk kp
  | _, _, _, _, _, _, _, _ => d

/-- The head of the VU's queue runs if it is the update named. -/
def Dev.runUpdate (d : Dev) (p : Nat) (ada : Bool) : Dev :=
  (d.runUnit p 3 (isVec (if ada then 0x41 else 0x40)) (fun i d =>
    let x := i.desc
    d.startChecked p i (d.updChk p ada x) (fun d =>
      let narrow := d.narrowMode p
      let a : Acct := ⟨cdiv (x.vRows * x.vCols) (updRate ada narrow), 0, []⟩
      ((d.update p ada x).item p 3 x 0 a).finish p i))).liftHold p

def execUpdMom (p : Tile) (s : State) : Host.Outcome State Fault Refusal := run (fun d => d.runUpdate p false) s
def execUpdAda (p : Tile) (s : State) : Host.Outcome State Fault Refusal := run (fun d => d.runUpdate p true) s

end Sys2Proof.Machine
end

