-- ==== Sys2Proof/Machine/Writes.lean ====
section
/-! DEFINITION. REGISTER_WRITE (R9): a field without behaviour of its own acts by its access code; a field with behaviour acts as
its own command does. -/

namespace Sys2Proof.Machine

/-- A write to SVC_MGMT_STATUS: the next echo is the first since ECHO was written (R577). -/
def Dev.writeMgmtStatus (d : Dev) (v : Nat) : Dev :=
  ((d.writePlain ⟨.SVC_MGMT_STATUS, 0, 0⟩ v).withSvc { d.svc with echoSaid := false })

/-- A register write. The mailbox registers are the host's: a doorbell comes with its inbound buffer, as MBX_BOOT_DOORBELL. -/
def Dev.writeRegister (d : Dev) (r : RegId) (v : Nat) : Dev :=
  let p := r.inst
  if !r.exists then d
  else match r.name with
    | .ENG_CQ_CTRL => d.writeCqCtrl p v
    | .ENG_SEM_ADD => d.writeSemAdd p v
    | .ACB_CTRL => d.writeAcbCtrl p v
    | .CPL_CTRL => d.writeCplCtrl p v
    | .CNT_CTRL => d.cntClear p v
    | .CNT_BASE_CLEAR => d.baseClear p v
    | .TRC_CTRL => d.writeTrcCtrl p v
    | .PWR_TILE_CTRL => d.writeTileCtrl p v
    | .SNP_TRIG_CFG => d.writeTrigCfg v
    | .SEC_DEBUG => d.writeSecDebug v
    | .SVC_MGMT_STATUS => d.writeMgmtStatus v
    | .MBX_HOST_ALIVE => d.writeMbx Dev.restartWatchdog
    | .MBX_STATE | .MBX_BOOT | .MBX_APERTURE | .MBX_CTRL | .MBX_STATUS => d.writeMbx (fun d => d.writePlain r v)
    | _ => d.writePlain r v

def execRegisterWrite (r : RegId) (v : BitVec 64) (s : State) : Host.Outcome State Fault Refusal := run (fun d => d.writeRegister r v.toNat) s

end Sys2Proof.Machine
end

