-- ==== Sys2Proof/Machine/Dispatch.lean ====
section
/-! DEFINITION. The dispatcher: one arm per command of the table. -/

namespace Sys2Proof.Machine

def exec (i : Instr) (s : State) : Host.Outcome State Fault Refusal :=
  match i with
  | .queueEntryFetch p errs => Sys2Proof.Machine.execQueueEntryFetch p errs s
  | .fmm p faults => Sys2Proof.Machine.execFmm p faults s
  | .bmm p faults rd => Sys2Proof.Machine.execBmm p faults rd s
  | .cvtPlain p => Sys2Proof.Machine.execCvtPlain p s
  | .cvtNarrowing p => Sys2Proof.Machine.execCvtNarrowing p s
  | .cvtWeightConversion p => Sys2Proof.Machine.execCvtWeightConversion p s
  | .add p => Sys2Proof.Machine.execAdd p s
  | .mul p => Sys2Proof.Machine.execMul p s
  | .fma p => Sys2Proof.Machine.execFma p s
  | .scale p => Sys2Proof.Machine.execScale p s
  | .max p => Sys2Proof.Machine.execMax p s
  | .min p => Sys2Proof.Machine.execMin p s
  | .exp2 p => Sys2Proof.Machine.execExp2 p s
  | .log2 p => Sys2Proof.Machine.execLog2 p s
  | .recip p => Sys2Proof.Machine.execRecip p s
  | .rsqrt p => Sys2Proof.Machine.execRsqrt p s
  | .rmsnorm p => Sys2Proof.Machine.execRmsnorm p s
  | .rmsnormBwd p rd => Sys2Proof.Machine.execRmsnormBwd p s rd
  | .softmax p => Sys2Proof.Machine.execSoftmax p s
  | .softmaxBwd p => Sys2Proof.Machine.execSoftmaxBwd p s
  | .xent p => Sys2Proof.Machine.execXent p s
  | .silu p => Sys2Proof.Machine.execSilu p s
  | .siluBwd p => Sys2Proof.Machine.execSiluBwd p s
  | .drop p => Sys2Proof.Machine.execDrop p s
  | .dropBwd p => Sys2Proof.Machine.execDropBwd p s
  | .slotAdd p rd => Sys2Proof.Machine.execSlotAdd p rd s
  | .slotIdxAdd p rd => Sys2Proof.Machine.execSlotIdxAdd p rd s
  | .maxmask p => Sys2Proof.Machine.execMaxmask p s
  | .bincount p => Sys2Proof.Machine.execBincount p s
  | .updMom p => Sys2Proof.Machine.execUpdMom p s
  | .updAda p => Sys2Proof.Machine.execUpdAda p s
  | .shnPermute p rd => Sys2Proof.Machine.execShnPermute p s rd
  | .shnPermutePadmat p rd => Sys2Proof.Machine.execShnPermutePadmat p s rd
  | .shnGather p rd => Sys2Proof.Machine.execShnGather p s rd
  | .send p rd => Sys2Proof.Machine.execSend p s rd
  | .recvInto p => Sys2Proof.Machine.execRecvInto p s
  | .reduceInto p rd => Sys2Proof.Machine.execReduceInto p s rd
  | .syn p => Sys2Proof.Machine.execSyn p s
  | .chk p => Sys2Proof.Machine.execChk p s
  | .mrk p => Sys2Proof.Machine.execMrk p s
  | .shadowTile p faults => Sys2Proof.Machine.execShadowTile p faults s
  | .checkGroupEvaluation p => Sys2Proof.Machine.execCheckGroupEvaluation p s
  | .fallbackRecomputation p faults => Sys2Proof.Machine.execFallbackRecomputation p faults s
  | .gradientRerun p faults => Sys2Proof.Machine.execGradientRerun p faults s
  | .checkSemaphoreSignal p => Sys2Proof.Machine.execCheckSemaphoreSignal p s
  | .dripCorrection p => Sys2Proof.Machine.execDripCorrection p s
  | .adapterAddition p y ya rnd fltNsat => Sys2Proof.Machine.execAdapterAddition p y ya rnd fltNsat s
  | .engWatchdog p => Sys2Proof.Machine.execEngWatchdog p s
  | .engCqFlush p v => Sys2Proof.Machine.execEngCqFlush p v s
  | .engFlushed p => Sys2Proof.Machine.execEngFlushed p s
  | .engSemAdd p v => Sys2Proof.Machine.execEngSemAdd p v s
  | .engStepCtxWrite p v => Sys2Proof.Machine.execEngStepCtxWrite p v s
  | .acbCtrlClear p v => Sys2Proof.Machine.execAcbCtrlClear p v s
  | .sivPreWinWrite p v => Sys2Proof.Machine.execSivPreWinWrite p v s
  | .acbSlotGeomWrite p n v => Sys2Proof.Machine.execAcbSlotGeomWrite p n v s
  | .registerWrite r v => Sys2Proof.Machine.execRegisterWrite r v s
  | .dramRead a src outcome copies row => Sys2Proof.Machine.execDramRead a src outcome copies s row
  | .dramWrite a src line => Sys2Proof.Machine.execDramWrite a src line s
  | .dramPartialWrite a src bytes outcome copies row => Sys2Proof.Machine.execDramPartialWrite a src bytes outcome s copies row
  | .patrolScrub x outcome copies row => Sys2Proof.Machine.execPatrolScrub x outcome copies s row
  | .larderAccess p reqs outcome copies => Sys2Proof.Machine.execLarderAccess p reqs outcome s copies
  | .larderPartialWrite p req a bytes outcome copies => Sys2Proof.Machine.execLarderPartialWrite p req a bytes outcome s copies
  | .acbFabricWrite p a bytes => Sys2Proof.Machine.execAcbFabricWrite p a bytes s
  | .stackFailover f copies reported => Sys2Proof.Machine.execStackFailover f copies s reported
  | .portTraining c r => Sys2Proof.Machine.execPortTraining c r s
  | .cplCtrlRetrain c v => Sys2Proof.Machine.execCplCtrlRetrain c v s
  | .cplCtrlEnable c v => Sys2Proof.Machine.execCplCtrlEnable c v s
  | .laneLossOfLock c lane => Sys2Proof.Machine.execLaneLossOfLock c lane s
  | .serWindowExpiry c counts uncorr => Sys2Proof.Machine.execSerWindowExpiry c counts uncorr s
  | .laneSwap c => Sys2Proof.Machine.execLaneSwap c s
  | .laneRetrain c lane ok => Sys2Proof.Machine.execLaneRetrain c lane ok s
  | .alignmentCodeword c => Sys2Proof.Machine.execAlignmentCodeword c s
  | .flitReceive c f cw => Sys2Proof.Machine.execFlitReceive c f s cw
  | .flitTransmit c => Sys2Proof.Machine.execFlitTransmit c s
  | .flitAck c => Sys2Proof.Machine.execFlitAck c s
  | .creditReturn c => Sys2Proof.Machine.execCreditReturn c s
  | .data c pk rd => Sys2Proof.Machine.execData c pk s rd
  | .cts c pk rd => Sys2Proof.Machine.execCts c pk s rd
  | .e2eAck c pk => Sys2Proof.Machine.execE2eAck c pk s
  | .partialSum c pk rd => Sys2Proof.Machine.execPartialSum c pk s rd
  | .result c pk => Sys2Proof.Machine.execResult c pk s
  | .abort c pk => Sys2Proof.Machine.execAbort c pk s
  | .packetForward c pk rd => Sys2Proof.Machine.execPacketForward c pk s rd
  | .tenderStream c pk => Sys2Proof.Machine.execTenderStream c pk s
  | .e2eTimeout p k => Sys2Proof.Machine.execE2eTimeout p k s
  | .rduTimeout c k => Sys2Proof.Machine.execRduTimeout c k s
  | .cplXchStall p k => Sys2Proof.Machine.execCplXchStall p k s
  | .ctsResend p k => Sys2Proof.Machine.execCtsResend p k s
  | .heartbeat m => Sys2Proof.Machine.execHeartbeat m s
  | .heartbeatSend => Sys2Proof.Machine.execHeartbeatSend s
  | .heartbeatTimeout r => Sys2Proof.Machine.execHeartbeatTimeout r s
  | .readyWaitExpiry r => Sys2Proof.Machine.execReadyWaitExpiry r s
  | .stepClose => Sys2Proof.Machine.execStepClose s
  | .fallbackStorm => Sys2Proof.Machine.execFallbackStorm s
  | .ready m => Sys2Proof.Machine.execReady m s
  | .commit m => Sys2Proof.Machine.execCommit m s
  | .committed m => Sys2Proof.Machine.execCommitted m s
  | .start m => Sys2Proof.Machine.execStart m s
  | .abortStepMessage m copies => Sys2Proof.Machine.execAbortStepMessage m copies s
  | .fault m => Sys2Proof.Machine.execFault m s
  | .publish m => Sys2Proof.Machine.execPublish m s
  | .staged m => Sys2Proof.Machine.execStaged m s
  | .activate m => Sys2Proof.Machine.execActivate m s
  | .fencePort m => Sys2Proof.Machine.execFencePort m s
  | .fencePublishTimeout r => Sys2Proof.Machine.execFencePublishTimeout r s
  | .messageResend => Sys2Proof.Machine.execMessageResend s
  | .isolationTimeout => Sys2Proof.Machine.execIsolationTimeout s
  | .standbyTimeout => Sys2Proof.Machine.execStandbyTimeout s
  | .takeoverQuery m silent => Sys2Proof.Machine.execTakeoverQuery m silent s
  | .takeoverVote m => Sys2Proof.Machine.execTakeoverVote m s
  | .takeoverVoteWindow => Sys2Proof.Machine.execTakeoverVoteWindow s
  | .takeoverRetry => Sys2Proof.Machine.execTakeoverRetry s
  | .triggerMessage m => Sys2Proof.Machine.execTriggerMessage m s
  | .hostCmd m => Sys2Proof.Machine.execHostCmd m s
  | .hostCpl m => Sys2Proof.Machine.execHostCpl m s
  | .forwardTimeout tag => Sys2Proof.Machine.execForwardTimeout tag s
  | .tileReplacement l copies => Sys2Proof.Machine.execTileReplacement l copies s
  | .moduleRefill r inp => Sys2Proof.Machine.execModuleRefill r inp s
  | .flashInterval failing => Sys2Proof.Machine.execFlashInterval failing s
  | .storeInterval => Sys2Proof.Machine.execStoreInterval s
  | .livenessWrite => Sys2Proof.Machine.execLivenessWrite s
  | .svcComplexSwitch => Sys2Proof.Machine.execSvcComplexSwitch s
  | .deviceInfo who tag out => Sys2Proof.Machine.execDeviceInfo who tag out s
  | .qpCreate who tag => Sys2Proof.Machine.execQpCreate who tag s
  | .qpDestroy who tag => Sys2Proof.Machine.execQpDestroy who tag s
  | .getState who tag => Sys2Proof.Machine.execGetState who tag s
  | .setConfig who tag => Sys2Proof.Machine.execSetConfig who tag s
  | .podForm who tag inp => Sys2Proof.Machine.execPodForm who tag inp s
  | .podAdmit who tag inp => Sys2Proof.Machine.execPodAdmit who tag inp s
  | .podRemove who tag => Sys2Proof.Machine.execPodRemove who tag s
  | .groupPlan who tag inp => Sys2Proof.Machine.execGroupPlan who tag inp s
  | .programLoad who tag inp => Sys2Proof.Machine.execProgramLoad who tag inp s
  | .tensorBind who tag inp => Sys2Proof.Machine.execTensorBind who tag inp s
  | .tensorWrite who tag inp => Sys2Proof.Machine.execTensorWrite who tag inp s
  | .tensorRead who tag out => Sys2Proof.Machine.execTensorRead who tag out s
  | .stateInit who tag inp => Sys2Proof.Machine.execStateInit who tag inp s
  | .runStep who tag => Sys2Proof.Machine.execRunStep who tag s
  | .abortStep who tag => Sys2Proof.Machine.execAbortStep who tag s
  | .inputConfirm who tag => Sys2Proof.Machine.execInputConfirm who tag s
  | .checkpoint who tag good => Sys2Proof.Machine.execCheckpoint who tag good s
  | .restore who tag foreign => Sys2Proof.Machine.execRestore who tag foreign s
  | .storeBlocks who tag inp => Sys2Proof.Machine.execStoreBlocks who tag inp s
  | .exportGen who tag out => Sys2Proof.Machine.execExportGen who tag out s
  | .exportRelease who tag => Sys2Proof.Machine.execExportRelease who tag s
  | .counterRead who tag out => Sys2Proof.Machine.execCounterRead who tag out s
  | .traceRead who tag out => Sys2Proof.Machine.execTraceRead who tag out s
  | .snapshotRead who tag out => Sys2Proof.Machine.execSnapshotRead who tag out s
  | .trigger who tag => Sys2Proof.Machine.execTrigger who tag s
  | .fwUpdate who tag inp good => Sys2Proof.Machine.execFwUpdate who tag inp good s
  | .fwActivate who tag => Sys2Proof.Machine.execFwActivate who tag s
  | .handover ok => Sys2Proof.Machine.execHandover ok s
  | .pwrHandoverReverted => Sys2Proof.Machine.execPwrHandoverReverted s
  | .attest who tag out => Sys2Proof.Machine.execAttest who tag out s
  | .certRead who tag out => Sys2Proof.Machine.execCertRead who tag out s
  | .ownerEnrol who tag body => Sys2Proof.Machine.execOwnerEnrol who tag body s
  | .debugUnlock who tag late => Sys2Proof.Machine.execDebugUnlock who tag late s
  | .secDebugClosed => Sys2Proof.Machine.execSecDebugClosed s
  | .secDebugClose v => Sys2Proof.Machine.execSecDebugClose v s
  | .extest => Sys2Proof.Machine.execExtest s
  | .mbxBootDoorbell v inbound out => Sys2Proof.Machine.execMbxBootDoorbell v inbound out s
  | .cmdTail q tail entries readable => Sys2Proof.Machine.execCmdTail q tail entries readable s
  | .cplHead q head => Sys2Proof.Machine.execCplHead q head s
  | .evtHead q head => Sys2Proof.Machine.execEvtHead q head s
  | .msixCoalesceTimeout q evt => Sys2Proof.Machine.execMsixCoalesceTimeout q evt s
  | .mbxApertureWrite v => Sys2Proof.Machine.execMbxApertureWrite v s
  | .mbxHostAliveWrite v => Sys2Proof.Machine.execMbxHostAliveWrite v s
  | .bar2Read off len => Sys2Proof.Machine.execBar2Read off len s
  | .bar2Write off bytes => Sys2Proof.Machine.execBar2Write off bytes s
  | .configurationRequest reg write => Sys2Proof.Machine.execConfigurationRequest reg write s
  | .mbxFlr => Sys2Proof.Machine.execMbxFlr s
  | .d3hotEntry => Sys2Proof.Machine.execD3hotEntry s
  | .mbxHostLost => Sys2Proof.Machine.execMbxHostLost s
  | .pwrFundReset => Sys2Proof.Machine.execPwrFundReset s
  | .powerOn failing => Sys2Proof.Machine.execPowerOn failing s
  | .pwrTileCtrlReset d v => Sys2Proof.Machine.execPwrTileCtrlReset d v s
  | .pwrTileReset p pass => Sys2Proof.Machine.execPwrTileReset p pass s
  | .pwrCapWrite v => Sys2Proof.Machine.execPwrCapWrite v s
  | .powerSample watts dv => Sys2Proof.Machine.execPowerSample watts dv s
  | .thermalSample temps => Sys2Proof.Machine.execThermalSample temps s
  | .pwrInputFail => Sys2Proof.Machine.execPwrInputFail s
  | .pwrInputLow dv => Sys2Proof.Machine.execPwrInputLow dv s
  | .inputLowRelease dv => Sys2Proof.Machine.execInputLowRelease dv s
  | .pwrInputHigh dv => Sys2Proof.Machine.execPwrInputHigh dv s
  | .inputOverVoltage dv => Sys2Proof.Machine.execInputOverVoltage dv s
  | .inputReversed dv => Sys2Proof.Machine.execInputReversed dv s
  | .presentOpen => Sys2Proof.Machine.execPresentOpen s
  | .pwrPllUnlock w => Sys2Proof.Machine.execPwrPllUnlock w s
  | .coolantSample x => Sys2Proof.Machine.execCoolantSample x s
  | .pwrLeakOff wet => Sys2Proof.Machine.execPwrLeakOff wet s
  | .trigInEdge sinceOut => Sys2Proof.Machine.execTrigInEdge sinceOut s
  | .snpTrigInStuck => Sys2Proof.Machine.execSnpTrigInStuck s
  | .trigInRelease => Sys2Proof.Machine.execTrigInRelease s
  | .trigOutPulseEnd => Sys2Proof.Machine.execTrigOutPulseEnd s
  | .snpTrigOutFault => Sys2Proof.Machine.execSnpTrigOutFault s
  | .beacon => Sys2Proof.Machine.execBeacon s
  | .cntCtrlClear d v => Sys2Proof.Machine.execCntCtrlClear d v s
  | .cntBaseClear x v => Sys2Proof.Machine.execCntBaseClear x v s
  | .trcCtrlArm d v => Sys2Proof.Machine.execTrcCtrlArm d v s
  | .smbusStuck sda scl freed => Sys2Proof.Machine.execSmbusStuck sda scl freed s
  | .smbusRetry freed => Sys2Proof.Machine.execSmbusRetry freed s
  | .flashChannelFailure x ch => Sys2Proof.Machine.execFlashChannelFailure x ch s
  | .msixUnmask v => Sys2Proof.Machine.execMsixUnmask v s
  | .pcieLinkDown => Sys2Proof.Machine.execPcieLinkDown s

end Sys2Proof.Machine
end

