-- ==== Sys2Proof/Safety.lean ====
section
/-! DEFINITION. What counts as a safe run, the promises of the machine that the statements speak of, and the words in which they
say that a command, a message or a packet is taken. -/

namespace Sys2Proof.Machine

/-- An outcome that is a next state. -/
def completes (o : Host.Outcome State Fault Refusal) : Prop := ∃ s, o = .next s

/-- A run of k steps is safe when each of its steps answers a next state. -/
def SafeRun (s : State) (k : Nat) : Prop := ∃ t, Sys2Proof.core.run k s = .next t

/-- What may become of the fuses (R522, R531, R532): the SVN counts never fall, the owner's hash is burned once, and everything else
stays as it was made. -/
structure Fuses.Keeps (f g : Fuses) : Prop where
  deviceId : g.deviceId = f.deviceId
  vendorHash : g.vendorHash = f.vendorHash
  key : g.key = f.key
  keyStby : g.keyStby = f.keyStby
  svn : f.svn ≤ g.svn
  svnStby : f.svnStby ≤ g.svnStby
  owner : f.ownerHash ≠ 0 → g.ownerHash = f.ownerHash

/-- Every logical engine stands on a tile of its own die (R4, R20): engines 4x to 4x + 3 on tiles 5x to 5x + 4. -/
def Dev.OnDie (d : Dev) : Prop := ∀ l, l < 64 → d.tileOf l / 5 = l / 4

/-! ## When a command, a message or a packet is taken, and what has then happened to the device -/

/-- What a unit's command leaves once it has started and its checks have passed (R236, R257, R261): it is out of the unit's queue,
`eff` is its effect and completion, the status bits follow, and a hold may end. -/
def Dev.ranUnit (d : Dev) (p : Nat) (i : Issued) (eff : Dev → Dev) : Dev := ((eff (d.leaveQueue p i)).sync p).liftHold p

/-- The command at the head of a unit's queue is of the kind named and may start (R236). -/
def Dev.Starts (d : Dev) (p u : Nat) (sel : Desc → Bool) (i : Issued) : Prop := d.startable p u = some i ∧ sel i.desc = true

/-- The VU's command of operation `op` is the one that starts, and what it reads reads well (R236, R250). -/
def Dev.VecStarts (d : Dev) (p op : Nat) (i : Issued) : Prop :=
  d.startable p 3 = some i ∧ isVec op i.desc = true ∧ (d.leaveQueue p i).readErrors ((d.leaveQueue p i).vecReads p i.desc) = none

/-- The VU's command ends: its cycles, its trace records, its signal (R238, R582). -/
def Dev.vecEnd (d d' : Dev) (p : Nat) (i : Issued) : Dev := (d'.item p 3 i.desc 0 (d.vecAcct p i.desc)).finish p i

/-- The cycles of a VEC into a slot: its own and the zero-fill of a first contribution (R168, R582). -/
def Dev.slotAcct (d : Dev) (p : Nat) (x : Desc) (cs : Nat → Nat → List Contrib) : Acct :=
  { d.vecAcct p x with busy := (d.vecAcct p x).busy + d.zeroFill p (x.vImm0 % 256) cs }

/-- The values of an operation on the elements of A, B and C (R251). -/
def Dev.elements (d : Dev) (p : Nat) (x : Desc) (f : XR → XR → XR → XR) : List (List XR) :=
  (List.range x.vRows).map (fun r => (List.range x.vCols).map (fun c => f (d.vElem p x.vA r c) (d.vElem p x.vB r c) (d.vElem p x.vC r c)))

/-- The values of a function of A (R250). -/
def Dev.functionRows (d : Dev) (p : Nat) (x : Desc) (f : XR → XR) : List (List XR) :=
  (List.range x.vRows).map (fun r => (List.range x.vCols).map (fun c => f (d.vElem p x.vA r c)))

/-- An elementwise VEC that starts writes its operation's values to DST, converted under R250, and completes. -/
def ElementVec (c : Tile → Instr) (op : Nat) (f : Desc → XR → XR → XR → XR) : Prop :=
  ∀ (p : Tile) (s : State) (i : Issued) (t : Tensor), s.dev.VecStarts p op i → (s.dev.leaveQueue p i).tensor p i.desc.vDstRef = some t →
    exec (c p) s = .next (s.put (s.dev.ranUnit p i (fun d => d.vecEnd (d.vecWrite p i.desc t (d.elements p i.desc (f i.desc))) p i)))

/-- A VEC of a function of A that starts writes its values to DST, converted under R250, and completes. -/
def FunctionVec (c : Tile → Instr) (op : Nat) (f : XR → XR) : Prop :=
  ∀ (p : Tile) (s : State) (i : Issued) (t : Tensor), s.dev.VecStarts p op i → (s.dev.leaveQueue p i).tensor p i.desc.vDstRef = some t →
    exec (c p) s = .next (s.put (s.dev.ranUnit p i (fun d =>
      d.vecEnd (d.vecWrite p i.desc t (d.functionRows p i.desc f)) p i)))

/-- A VEC that starts has its effect and completes; `pre` says which operands it has. -/
def RowVec (c : Tile → Instr) (op : Nat) (pre : Dev → Nat → Desc → Prop) (eff : Dev → Nat → Desc → Dev) : Prop :=
  ∀ (p : Tile) (s : State) (i : Issued), s.dev.VecStarts p op i → pre (s.dev.leaveQueue p i) p i.desc →
    exec (c p) s = .next (s.put (s.dev.ranUnit p i (fun d => d.vecEnd (eff d p i.desc) p i)))

/-- Operands that name a tensor. -/
def Dev.has (d : Dev) (p : Nat) (os : List Nat) : Prop := ∀ o ∈ os, (d.tensor p o).isSome = true

/-- A Dammel command entered by its TAG runs now with this body: it is started, of this kind, not begun or forwarded before, no
handover is under way, and its checks pass (R446, R447, R452, R466, R468). -/
def Dev.Runs (d : Dev) (who : Issuer) (tag : BitVec 32) (op : Nat) (body : List Byte) : Prop :=
  ∃ e, d.entry who tag.toNat = some e ∧ fieldAt e 0 2 = op ∧ e.drop 32 = body ∧ d.state ≠ 2 ∧ d.begun who tag.toNat = false ∧
    d.isForwarded who tag.toNat = false ∧
    (bitOf (fieldAt e 2 1) 1 && d.isManager && decide (fieldAt e 10 2 ≠ d.rank)) = false ∧ d.check4 who op e = none ∧ headOk e = true ∧
    d.waitsS who op = false

/-- A list towards the host takes n bytes: it has room, the host link is up where the list is this host's own, and no device
access through it fails (R461). -/
def Dev.CanSend (d : Dev) (who : Issuer) (out : DmaOut) (n : Nat) : Prop :=
  n ≤ out.space ∧ (d.hostOff && byHost who) = false ∧ out.failed = none

/-- A management message is new and passes the checks of R349: no handover and no boundary scan, for this rank, under the epoch of
group 0, from a sender that is heeded, with a PSEQ not received before. -/
def Dev.Hears (d : Dev) (m : Mgmt) : Prop :=
  d.state ≠ 2 ∧ d.flag SEC_STATUS.BSCAN = false ∧ d.joins m.body = false ∧ m.dst.toNat = d.rank ∧ d.inPod = true ∧
    m.epoch.toNat = d.podEpoch ∧ d.pod.unheeded ≠ some m.src.toNat ∧ (tget [] d.mgmtSeen m.src.toNat).contains m.pseq.toNat = false

/-- The device once it has taken a new message (R387, R349): the ACTIVATE of its sender is no longer resent, its PSEQ is known. -/
def Dev.heardNew (d : Dev) (m : Mgmt) : Dev :=
  (d.heard m.src.toNat).withMgmtSeen
    (tset [] d.mgmtSeen m.src.toNat (m.pseq.toNat :: tget [] d.mgmtSeen m.src.toNat))

/-- The device once a packet has left the receive queue of port c. -/
def Dev.fetched (d : Dev) (c : Nat) (pk : Packet) : Dev := d.setPort c { d.port c with rx := (d.port c).rx.erase pk }

/-- A packet passes checks 1–4 of R349: for this rank, a good CRC, a valid group and its epoch, a PSEQ not received before. -/
def Dev.Takes (d : Dev) (c : Nat) (pk : Packet) (stream : Option Bool) : Prop :=
  pk.dst.toNat = (d.fetched c pk).rank ∧ crc32c pk.body = pk.crc.toNat ∧ (d.fetched c pk).flag CPL_GROUP.VALID c pk.group.toNat = true ∧
    (d.fetched c pk).fld CPL_GROUP.EPOCH c pk.group.toNat = pk.epoch.toNat ∧
    (stream = none ∨ pk.pseq.toNat ∉ ((d.fetched c pk).rxStream pk (stream.getD true)).got)

/-- The device once it has taken a packet: its alive counter is judged and expected anew (R349, R514), and the sender
of a packet of group 0 has activated the present epoch (R387). -/
def Dev.took (d : Dev) (c : Nat) (pk : Packet) : Dev :=
  let key := ((c * 4096 + pk.src.toNat) * 4 + pk.vc.toNat) * 16 + pk.path
  let j := aliveJudge (tget none (d.fetched c pk).rxAlive key) pk.alive.toNat
  let e := (d.fetched c pk).withRxAlive (tset none (d.fetched c pk).rxAlive key (some j.2.2))
  (if pk.group.toNat = 0 then e.heard pk.src.toNat else e).cvuAlive (cvuBase c 1) j.1 j.2.1

/-- The exchange port's command of a primitive is the one that starts, and passes its checks (R236, R353). -/
def Dev.XchStarts (d : Dev) (p prim : Nat) (i : Issued) : Prop :=
  d.startable p 5 = some i ∧ i.desc.opcode = 0x60 ∧ i.desc.xPrim = prim ∧ (d.leaveQueue p i).xchChk p i.desc = none

/-- What a started exchange leaves. -/
def Dev.ranXch (d : Dev) (p : Nat) (i : Issued) (eff : Xch → Dev → Dev) : Dev :=
  (d.ranUnit p i (fun d => eff (d.openXch p i).1 (d.openXch p i).2)).rduSync

/-- The words of the slot that an exchange reads read well, or well the second time (R178). -/
def Dev.SlotGood (d : Dev) (p : Nat) (x : Xch) (rd : ReadOutcome) : Prop :=
  x.desc.xToSlot = true → (d.slotRead p x.desc.xSlot rd).2 = none

/-- The device once it has read an exchange's slot: a mismatch whose re-read matches is told (R178). -/
def Dev.slotRed (d : Dev) (p : Nat) (x : Xch) (rd : ReadOutcome) : Dev :=
  if x.desc.xToSlot then (d.slotRead p x.desc.xSlot rd).1 else d

/-- Every write of an exchange has been answered without an error (R272, R283, R295, R297). -/
def Dev.Lands (d : Dev) (p : Nat) (x : Xch) : Prop := (d.takeAnswers p x.desc 3).2 = false

/-- The device once the answers to an exchange's writes are in. -/
def Dev.afterLanding (d : Dev) (p : Nat) (x : Xch) : Dev := (d.takeAnswers p x.desc 3).1

/-! ## Frames -/

/-- The device as the decoder sees it that a source's requests pass (R277). -/
def Dev.decoded (d : Dev) (src : MemSrc) : Dev := d.withVia (srcDie src)

/-- The byte at a device address, where the device keeps it now: at its home, or on the spare stack (R278, R291). -/
def Dev.byte (d : Dev) (a : Nat) : Byte := Memory.read d.mem (cellOf d.failed a)

/-- From d to e exactly the bytes from address a on hold `bs`; every other byte of data is as before. -/
def Dev.Stores (d e : Dev) (a : Nat) (bs : List Byte) : Prop :=
  ∀ b, d.isData b = true → e.byte b = if a ≤ b ∧ b < a + bs.length then bs.getD (b - a) 0 else d.byte b

end Sys2Proof.Machine

namespace Sys2Proof
open Sys2Proof.Machine

/-- A command whose effect stores to no memory, whatever the state. The others may store; statements of their own say where. -/
def Instr.storesNothing : Instr → Bool
  | .fmm _ _ | .bmm _ _ _ | .cvtPlain _ | .cvtNarrowing _ | .cvtWeightConversion _ | .add _ | .mul _ | .fma _ | .scale _ | .max _
  | .min _ | .exp2 _ | .log2 _ | .recip _ | .rsqrt _ | .rmsnorm _ | .rmsnormBwd _ _ | .softmax _ | .softmaxBwd _ | .xent _ | .silu _
  | .siluBwd _ | .drop _ | .dropBwd _ | .slotAdd _ _ | .slotIdxAdd _ _ | .maxmask _ | .bincount _ | .updMom _ | .updAda _ | .shnPermute _ _
  | .shnPermutePadmat _ _ | .shnGather _ _ | .recvInto _ | .reduceInto _ _ | .chk _ | .shadowTile _ _ | .checkGroupEvaluation _
  | .fallbackRecomputation _ _ | .gradientRerun _ _ | .dripCorrection _ | .adapterAddition _ _ _ _ _ | .engStepCtxWrite _ _
  | .registerWrite _ _ | .stepClose | .tensorRead _ _ _ | .checkpoint _ _ _ | .bar2Read _ _ | .dramRead _ _ _ _ _
  | .dramWrite _ _ _ | .dramPartialWrite _ _ _ _ _ _ | .patrolScrub _ _ _ _ | .larderAccess _ _ _ _
  | .larderPartialWrite _ _ _ _ _ _ | .acbFabricWrite _ _ _ | .stackFailover _ _ _ | .data _ _ _ | .e2eAck _ _ | .partialSum _ _ _ | .result _ _
  | .packetForward _ _ _ | .tenderStream _ _ | .commit _ | .start _ | .abortStepMessage _ _ | .isolationTimeout | .tileReplacement _ _
  | .moduleRefill _ _ | .setConfig _ _ | .programLoad _ _ _ | .tensorBind _ _ _ | .tensorWrite _ _ _ | .stateInit _ _ _ | .runStep _ _
  | .restore _ _ _ | .handover _ | .pwrHandoverReverted | .bar2Write _ _ | .powerOn _ | .pwrInputFail | .presentOpen
  | .inputOverVoltage _ | .inputReversed _ | .thermalSample _ | .pwrLeakOff _ | .pwrPllUnlock _ => false
  | _ => true

/-- A register whose write has no behaviour beyond the access codes of its fields (R9). -/
def RegName.plain : RegName → Bool
  | .ENG_CQ_CTRL | .ENG_SEM_ADD | .ACB_CTRL | .CPL_CTRL | .CNT_CTRL | .CNT_BASE_CLEAR | .TRC_CTRL | .PWR_TILE_CTRL | .SNP_TRIG_CFG | .SEC_DEBUG
  | .SVC_MGMT_STATUS | .MBX_STATE | .MBX_BOOT | .MBX_APERTURE | .MBX_CTRL | .MBX_HOST_ALIVE | .MBX_STATUS | .SIV_PRE_WIN | .ACB_SLOT_GEOM
  | .ENG_STEP_CTX | .ENG_VERSION_STRIDE | .ENG_JOB_SEED_LO | .ENG_JOB_SEED_HI | .ENG_TTAB | .ENG_HYP_BASE | .ENG_LR_FACTOR | .ENG_CQ_PTR
  | .SVC_CKPT_CFG | .PWR_CAP => false
  | _ => true

end Sys2Proof
end

