-- ==== Sys2Proof/Certificates/Slice0/Obligations.lean ====
section
/-! DEFINITION. The statements for the provers: the queue and the invariants, the frames, the registers, the memory, and for every
command where it completes and with what effect. -/

open Sys2Proof Sys2Proof.Machine

/-! ## The queue, and which commands complete -/

/-- A step runs the command at the front of the queue on the queue's rest. On an empty queue the device idles, but that it aborts an open
step in which an engine of its own has halted (R392): the model's own rule of its queue (logs 12 and 116). -/
def Obligations.StepRunsTheFrontCommand : Prop :=
  (∀ (c : Instr) (rest : List Instr) (s : State), step { s with pending := c :: rest } = exec c { s with pending := rest }) ∧
  ∀ s : State, s.pending = [] → step s = .next (if s.dev.ownError then s.put s.dev.ownAbort else s)

/-- A step takes exactly one command: no command's effect reaches the queue. -/
def Obligations.StepTakesOneCommand : Prop :=
  ∀ (c : Instr) (rest : List Instr) (s t : State), s.pending = c :: rest → step s = .next t → t.pending = rest

/-- Every command answers a next state in every state, but for an input voltage above 80 V, outside the ratings of R543. -/
def Obligations.OnlyVoltagesOutsideTheRatingsStop : Prop :=
  ∀ (c : Instr) (s : State), completes (exec c s) ∨
    (exec c s = .fault .outsideRatings ∧ ∃ dv, 800 < dv ∧ (c = .inputOverVoltage dv ∨ c = .inputReversed dv))

/-! ## Reset and the invariants -/

/-- After reset no command waits, memory lists nothing and every engine stands on its own die. -/
def Obligations.ResetKeepsThePromises : Prop :=
  State.reset.pending = [] ∧ State.reset.dev.mem = [] ∧ Memory.wf State.reset.dev.mem = true ∧ State.reset.dev.OnDie

/-- After reset every field of every register holds the value of its table's Reset column; CVU_CTRL.POLY holds the polynomial of
its instance (log 5). -/
def Obligations.RegistersHoldTheirResetValues : Prop :=
  ∀ (n : RegName) (f : Fld), f ∈ n.fields → ∀ inst idx, State.reset.dev.fld f inst idx = if f = CVU_CTRL.POLY then cvuPoly inst else f.rst

/-- Every step keeps the memory in its canonical form. -/
def Obligations.MemoryStaysCanonical : Prop :=
  ∀ s t : State, Memory.wf s.dev.mem = true → step s = .next t → Memory.wf t.dev.mem = true

/-- Every step keeps every logical engine on a tile of its own die (R4, R20, R417): no replacement, power-on or command of the host
moves one to another die. -/
def Obligations.EnginesStayOnTheirDies : Prop := ∀ s t : State, s.dev.OnDie → step s = .next t → t.dev.OnDie

/-- Every step keeps the fuses' promises (R522, R531, R532): no command, reset or loss of power changes the device's identity or its
keys, lowers an SVN count, or changes an owner's hash once burned. -/
def Obligations.FusesOnlyBurn : Prop := ∀ s t : State, step s = .next t → Fuses.Keeps s.dev.fuses t.dev.fuses

/-! ## Frames -/

/-- A command that stores nothing leaves every byte of memory as it was. -/
def Obligations.StoresNothingLeavesMemory : Prop :=
  ∀ (c : Instr) (s t : State), c.storesNothing = true → Memory.wf s.dev.mem = true → exec c s = .next t →
    ∀ a, Memory.read t.dev.mem a = Memory.read s.dev.mem a

/-- Commands that name the registers they write leave every other register as it was: the pre-load window, a slot's geometry, the
slots' states, the power cap, the aperture, the dropped-access count, the trigger input's state; and those that write none. -/
def Obligations.QuietCommandsLeaveRegisters : Prop :=
  ∀ (s : State) (r : RegId), r.exists = true →
    let keeps := fun c : Instr => ∀ t, exec c s = .next t → t.dev.reg r = s.dev.reg r
    (∀ p v, (r.name ≠ .SIV_PRE_WIN ∨ r.inst ≠ p.val) → keeps (.sivPreWinWrite p v)) ∧
    (∀ p n v, (r.name ≠ .ACB_SLOT_GEOM ∨ r.inst ≠ p.val ∨ r.idx ≠ n.val) → keeps (.acbSlotGeomWrite p n v)) ∧
    (∀ p v, (r.name ≠ .ACB_SLOT_STATE ∨ r.inst ≠ p.val) → keeps (.acbCtrlClear p v)) ∧
    (∀ v, r.name ≠ .PWR_CAP → keeps (.pwrCapWrite v)) ∧
    (∀ v, r.name ≠ .MBX_APERTURE → r.name ≠ .MBX_STATUS → keeps (.mbxApertureWrite v)) ∧
    (∀ v q, r.name ≠ .MBX_STATUS → keeps (.mbxHostAliveWrite v) ∧ keeps (.cplHead q v) ∧ keeps (.evtHead q v)) ∧
    (r.name ≠ .SNP_STATUS → keeps .trigInRelease) ∧
    keeps .livenessWrite ∧ keeps .d3hotEntry ∧ keeps .pcieLinkDown ∧ keeps .trigOutPulseEnd ∧ keeps .messageResend ∧
    (∀ x v, keeps (.cntCtrlClear x v) ∧ keeps (.cntBaseClear x v) ∧ keeps (.alignmentCodeword x)) ∧
    (∀ a w, keeps (.configurationRequest a w)) ∧ (∀ v, keeps (.msixUnmask v)) ∧ (∀ q e, keeps (.msixCoalesceTimeout q e))

/-! ## Registers (R9) -/

/-- The fields of a register stand apart and inside its 64 bits. -/
def Obligations.FieldsStandApart : Prop :=
  ∀ n : RegName, (n.fields.Pairwise (fun f g => f.hi < g.lo ∨ g.hi < f.lo)) ∧ ∀ f ∈ n.fields, f.reg = n ∧ f.lo ≤ f.hi ∧ f.hi < 64 ∧ f.rst < 2 ^ f.width

/-- What a write leaves in each field, by its access code (R9): RW and RWS take it, W1C clears and W1S sets by ones, RL takes it until
boot completes, RO and WO keep what they hold; WO fields read 0. -/
def Obligations.FieldsActByAccessCode : Prop :=
  ∀ (r : RegId) (f : Fld) (booted : Bool) (old v : Nat), f ∈ r.name.fields →
    f.get (writeByAccess r booted old v) =
      (match f.acc with
      | .rw | .rws => f.get v
      | .w1c => f.get old - Nat.land (f.get old) (f.get v)
      | .w1s => Nat.lor (f.get old) (f.get v)
      | .rl => if booted then f.get old else f.get v
      | .ro | .wo => f.get old) ∧
    ∀ d : Dev, f.get (d.readReg r) = if f.acc = .wo then 0 else f.get (d.reg r)

/-- A REGISTER_WRITE to a register without behaviour of its own changes that register, by its access codes, and nothing else. So does one to
a register of the step's context while no step is open, and none changes anything while one is (R217, R266–R268). -/
def Obligations.RegisterWriteActsOnOneRegister : Prop :=
  ∀ (r q : RegId) (v : BitVec 64) (s : State), r.exists = true → Memory.wf s.dev.mem = true →
    let ctx := r.name ∈ [RegName.ENG_VERSION_STRIDE, .ENG_JOB_SEED_LO, .ENG_JOB_SEED_HI, .ENG_TTAB, .ENG_HYP_BASE, .ENG_LR_FACTOR]
    let open_ := s.dev.flag ENG_STEP_CTX.OPEN r.inst
    (r.name.plain = true ∨ (ctx ∧ open_ = false) → q.exists = true →
      ∃ t, exec (.registerWrite r v) s = .next t ∧
        t.dev.reg q = (if q = r then writeByAccess r s.dev.bootComplete (s.dev.reg r) v.toNat else s.dev.reg q) ∧
        t.dev.withRegs s.dev.regs = s.dev ∧ t.pending = s.pending) ∧
    (ctx → open_ = true → exec (.registerWrite r v) s = .next s)

/-! ## The commands of an engine: where each completes, and with what effect -/

/-- QUEUE_ENTRY_FETCH (R221–R226, R235): with fetching allowed and a good entry of one good descriptor in sequence, the descriptor is
dispatched to its unit's queue with the tensor records that it names, EXP_SEQ advances and HEAD advances. -/
def Obligations.QueueEntryIsDispatched : Prop :=
  ∀ (p : Tile) (s : State) (gs : List Group),
    let d := s.dev.withVia (some (p / 5))
    let t := d.tile p
    let head := d.fld ENG_CQ_PTR.HEAD p
    let bs := d.bytes (queueAddr p head) 32
    let x : Desc := Desc.ofBytes (d.bytes (fieldAt bs 0 6) 64)
    let i : Issued := ⟨t.nextN, x, if x.opcode = 0x50 then d.bytes (unit64 p x.sPlan) 128 else [], d.namedRecs p x⟩
    s.dev.mayFetch p = true → crc32c (bs.take 28) = fieldAt bs 28 4 → fieldAt bs 8 4 = 1 → t.fetchPos = 0 → d.readError (fieldAt bs 0 6) 64 = none →
    x.checkOk = true → x.seq = d.fld ENG_STATUS.EXP_SEQ p → d.staticCheck p x = none → x.opcode ≠ 0x7F →
    (t.issue.filter (fun j => unitOf j.desc.opcode == some ((unitOf x.opcode).getD 6))).length < 16 → dispatchGroup t.groups i = .ok gs →
    exec (.queueEntryFetch p []) s = .next (s.put
      (((((d.setTile p { t with groups := gs, issue := t.issue ++ [i], nextN := t.nextN + 1, fetchPos := 1 }).setFld ENG_STATUS.EXP_SEQ
        (x.seq + 1) p).setFld ENG_CQ_PTR.HEAD (head + 1) p).modTile p (fun t => { t with fetchPos := 0 })).sync p))

/-- SYN (R255), CHK whose value matches (R256) and MRK (R257) complete: SYN once the earlier commands of its units have, signalling a
semaphore of another tile where its descriptor names one; CHK after writing its RESULT; MRK after marking its region. -/
def Obligations.ControlCommandsComplete : Prop :=
  ∀ (p : Tile) (s : State) (i : Issued),
    let e := s.dev.leaveQueue p i
    let x := i.desc
    (s.dev.Starts p 6 (s.dev.synReady p) i →
      exec (.syn p) s = .next (s.put (s.dev.ranUnit p i (fun d =>
        let d := (d.item p 6 x 0 ⟨0, 0, []⟩).finish p i
        let q := d.tileOf (x.f 18 1)
        if bitOf (x.f 17 1) 0 then ((d.semAdd q (x.f 19 1) (x.f 20 2)).liftHold q).sync q else d)))) ∧
    (∀ t, s.dev.Starts p 6 (fun x => x.opcode == 0x78) i → e.tensor p (x.f 17 3) = some t →
      let a := t.base + x.f 20 6
      let len := x.f 26 4
      let poly := crcOfCode (bitsOf (x.f 16 1) 1 0)
      let got := cvuCrc poly (e.bytes a len)
      e.readError a len = none → got = x.f 30 8 % 2 ^ poly.width →
      exec (.chk p) s = .next (s.put (s.dev.ranUnit p i (fun d =>
        ((if x.f 38 3 = 0 then d else d.fabricWrite (unit64 p (x.f 38 3)) (leBytes 8 got ++ [0])).item p 6 x 0 ⟨32 + (len + 63) / 64, 0, []⟩).finish p i)))) ∧
    (s.dev.Starts p 6 (fun x => x.opcode == 0x7F) i → e.readError (unit64 p (x.f 18 3)) (64 * x.f 21 1) = none →
      exec (.mrk p) s = .next (s.put (s.dev.ranUnit p i (fun d =>
        let d := d.raise 0x2010
        let region := d.bytes (unit64 p (x.f 18 3)) (64 * x.f 21 1)
        let d := (d.withMarks (⟨p, x.f 16 2, region⟩ :: d.marks)).tileRecord p 7 6 (descBody x 0 ++ leBytes 2 (x.f 16 2))
        ((d.item p 6 x 0 ⟨0, 0, []⟩).modTile p (fun t => t.holdMarked i.n)).finish p i))))

/-- ENG_SEM_ADD (R270): where it lies and its fields; a write adds INC to semaphore SEM, whose count stays at 65,535 when it would
exceed that, while the queue halts with ENG_SEM_SAT (R237); an INC of 0 has no effect. A hold on the semaphore may end by it (R257). -/
def Obligations.SemaphoreAdditionSaturates : Prop :=
  RegName.ENG_SEM_ADD.place = (.engine, 0x400, 0, 1) ∧
  RegName.ENG_SEM_ADD.fields.map (fun f => (f.hi, f.lo, f.acc, f.rst)) = [(21, 16, .wo, 0), (15, 0, .wo, 0)] ∧
  ∀ (p : Tile) (v : BitVec 32) (s : State),
    let sem := v.toNat / 65536 % 64
    let inc := v.toNat % 65536
    let c := s.dev.fld ENG_SEM.COUNT p sem + inc
    exec (.engSemAdd p v) s = .next (s.put
      (if inc = 0 then s.dev
       else if 65535 < c then (((s.dev.setFld ENG_SEM.COUNT 65535 p sem).halt p 0x200D).liftHold p).sync p
       else ((s.dev.setFld ENG_SEM.COUNT c p sem).liftHold p).sync p))

/-- The writes of an engine's registers that act (R181, R217, R240, R259, R263): a step opens and closes, an expired watchdog halts,
a flush starts and ends, CLEAR empties the slots. -/
def Obligations.EngineWritesAct : Prop :=
  ∀ (p : Tile) (s : State),
    (∀ v : BitVec 64, s.dev.flag ENG_STEP_CTX.OPEN p = true → ENG_STEP_CTX.OPEN.get v.toNat = 0 →
      exec (.engStepCtxWrite p v) s = .next (s.put ((s.dev.setFld ENG_STEP_CTX.OPEN 0 p).openRecord p 9))) ∧
    (∀ v : BitVec 64, s.dev.flag ENG_STEP_CTX.OPEN p = false → ENG_STEP_CTX.OPEN.get v.toNat = 1 →
      exec (.engStepCtxWrite p v) s = .next (s.put (
        let r : RegId := ⟨.ENG_STEP_CTX, p, 0⟩
        let d := ((s.dev.setReg r (writeByAccess r true (s.dev.reg r) v.toNat)).zeroSems p).setFld ENG_STATUS.EXP_SEQ 0 p
        (((d.modTile p (fun t => { t with hold := none, retry := [], confirmed := [] })).openRecord p 8).openTrackers p).sync p))) ∧
    (s.dev.fld ENG_WD.LIMIT p ≠ 0 → s.dev.flag ENG_STATUS.IDLE p = false →
      exec (.engWatchdog p) s = .next (s.put ((s.dev.setFld ENG_STATUS.WD 1 p).halt p 0x200E))) ∧
    (∀ v : BitVec 32, ENG_CQ_CTRL.FLUSH.get v.toNat = 1 → s.dev.flag ENG_STATUS.FLUSHING p = false →
      exec (.engCqFlush p v) s = .next (s.put (s.dev.flushStart p))) ∧
    (s.dev.flag ENG_STATUS.FLUSHING p = true → exec (.engFlushed p) s = .next (s.put (s.dev.flushEnd p))) ∧
    (∀ v : BitVec 32, ACB_CTRL.CLEAR.get v.toNat = 1 → (s.dev.tile p).usesSlot = false →
      exec (.acbCtrlClear p v) s = .next (s.put ((List.range 256).foldl (fun d n => d.setFld ACB_SLOT_STATE.STATE 0 p n) s.dev)))

/-- The pre-load window (R145): where it lies, what it holds after reset, and that a write of SIZE over 64 or BASE + SIZE over 256 is
ignored and any other is taken. -/
def Obligations.PreloadWindowTakesOnlyWhatFits : Prop :=
  RegName.SIV_PRE_WIN.place = (.engine, 0x910, 0, 1) ∧ RegName.SIV_PRE_WIN.fields = [SIV_PRE_WIN.SIZE, SIV_PRE_WIN.BASE] ∧
  ∀ (p : Tile) (v : BitVec 32) (s : State),
    let size := v.toNat / 256 % 256
    let base := v.toNat % 256
    ∃ t, exec (.sivPreWinWrite p v) s = .next t ∧
      t.dev.fld SIV_PRE_WIN.SIZE p = (if 64 < size ∨ 256 < base + size then s.dev.fld SIV_PRE_WIN.SIZE p else size) ∧
      t.dev.fld SIV_PRE_WIN.BASE p = (if 64 < size ∨ 256 < base + size then s.dev.fld SIV_PRE_WIN.BASE p else base) ∧
      exec (.registerWrite ⟨.SIV_PRE_WIN, p, 0⟩ (v.zeroExtend 64)) s = .next t

/-- A slot's geometry (R183): a write is ignored while the slot is not EMPTY and taken whole when it is. -/
def Obligations.SlotGeometryOnlyWhileEmpty : Prop :=
  ∀ (p : Tile) (n : Fin 256) (v : BitVec 64) (s : State),
    ∃ t, exec (.acbSlotGeomWrite p n v) s = .next t ∧
      (∀ f ∈ RegName.ACB_SLOT_GEOM.fields, t.dev.fld f p n =
        if s.dev.fld ACB_SLOT_STATE.STATE p n = 0 then f.get v.toNat else s.dev.fld f p n) ∧
      ∀ f ∈ RegName.ACB_SLOT_STATE.fields, t.dev.fld f p n = s.dev.fld f p n

/-! ### The arrays and the check groups -/

/-- FMM (R244) without a hard fault: its output rows are stored, its item counted, and it ends with its record or its drips (R79); under
PIN a member of a pinned group is skipped and queued for its wide recomputation (R137). -/
def Obligations.ForwardProductCompletes : Prop :=
  ∀ (p : Tile) (faults : List ArrayFault) (s : State) (i : Issued), s.dev.Starts p 0 (fun x => x.opcode == 0x10) i →
    let e := s.dev.leaveQueue p i
    let x := i.desc
    let pinned := x.chkEn && (e.tile p).pinnedGroup i.n
    (pinned = true → exec (.fmm p faults) s = .next (s.put (s.dev.ranUnit p i (fun d =>
      ((d.modTile p (fun t => { t with fbs := t.fbs ++ [i.n] })).finish p i).memberDone p i.n)))) ∧
    (∀ tx tw ty, pinned = false → e.readErrors (e.fmmReads p x) = none → e.tensor p (x.f 16 3) = some tx → e.tensor p (x.f 19 3) = some tw →
      e.tensor p (x.f 22 3) = some ty → (e.arrayFaults p fRegs x x.walk.kb x.walk.blocks (if x.walk.empty then [] else faults)).2 = none →
      exec (.fmm p faults) s = .next (s.put (s.dev.ranUnit p i (fun d =>
        let rows := d.fmmRows p x tx tw (d.tensor p (x.f 25 3)) (d.tensor p (x.f 28 3))
        let d' := (d.arrayFaults p fRegs x x.walk.kb x.walk.blocks (if x.walk.empty then [] else faults)).1
        ((d'.fmmStore p ty x.walk none false rows).item p 0 x 0 (d.fmmCycles p x faults)).fmmEnd p i rows))))

/-- BMM (R246) whose operands, input exponent and slot are good: its walk and its products. -/
def Obligations.BackwardProductCompletes : Prop :=
  ∀ (p : Tile) (faults : List ArrayFault) (rd : ReadOutcome) (s : State) (i : Issued), s.dev.Starts p 1 (fun x => x.opcode == 0x20) i →
    let e := s.dev.leaveQueue p i
    let x := i.desc
    ∀ tg tn g, e.tensor p (x.f 16 3) = some tg → e.tensor p (x.f 19 3) = some tn → e.gIn p x.bGRec = some g →
      e.readErrors (e.bmmReads p x) = none → (e.bmmWalk p faults i tg tn g none).flag ENG_STATUS.HALTED p = false →
      (x.bSlotDest = true → x.walk.empty = false → e.addMisuse p x.bSlot = none ∧ rd = .clean ∧ (e.slotRead p x.bSlot .clean).2 = none) →
      exec (.bmm p faults rd) s = .next (s.put (s.dev.ranUnit p i (fun d => d.bmmWalk p faults i tg tn g none)))

/-- The work a tile owes its check groups (R79, R126, R131, R140, R130, R243, R172, R581) runs when it stands first: each command names that
work and has its effect. -/
def Obligations.GroupWorkCompletes : Prop :=
  ∀ (p : Tile) (s : State),
    (∀ j rest tx tw ty, (s.dev.tile p).drips = j :: rest →
      let d := (s.dev.modTile p (fun t => { t with drips := rest })).workAs p j.recs
      d.tensor p (j.desc.f 16 3) = some tx → d.tensor p (j.desc.f 19 3) = some tw → d.tensor p (j.desc.f 22 3) = some ty →
        exec (.dripCorrection p) s = .next (s.put ((s.dev.dripCorrect p).liftHold p))) ∧
    (∀ faults n k i src cols, (s.dev.tile p).nextShadow = some (n, k) → s.dev.preImage p n = some (src, cols) →
      ((s.dev.tile p).groupOf n).bind (fun g => g.cmds.find? (·.n == n)) = some i →
      let e := s.dev.workAs p i.recs
      let frozen := (e.tensor p (i.desc.f 54 3)).isNone
      let d := e.bWork p 1 (if i.desc.fForm = 3 then 0 else i.desc.fForm) (!frozen)
      let per := if frozen then 128 else 256
      let nb := cdiv (128 * cdiv i.desc.fK 128) 256
      (d.arrayFaults p bRegs i.desc nb nb faults).2 = none →
      exec (.shadowTile p faults) s = .next (s.put (((d.arrayFaults p bRegs i.desc nb nb faults).1.item p 1 i.desc 1
        ⟨24 + 256 + per * nb + 76, 0, repeatStall (per * repeated nb nb faults)⟩).shadowEnd p n k i.desc src cols))) ∧
    (∀ faults n rest g i src cols, (s.dev.tile p).fbs = n :: rest → (s.dev.tile p).groupOf n = some g → s.dev.preImage p n = some (src, cols) →
      g.cmds.find? (·.n == n) = some i →
      let x := i.desc
      let w : Walk := { x.walk with form := if x.fForm = 3 then 0 else x.fForm }
      let e := s.dev.workAs p i.recs
      let frozen := (e.tensor p (x.f 54 3)).isNone
      let d := e.bWork p 2 w.form (!frozen)
      let r := d.arrayFaults p bRegs x w.kb w.blocks (if w.empty then [] else faults)
      r.2 = none →
      exec (.fallbackRecomputation p faults) s = .next (s.put (((r.1.item p 1 x 2
        ⟨fallbackCycles x frozen, 0, repeatStall ((if frozen then 128 else 256) * repeated w.kb w.blocks faults)⟩).modTile p (fun t => { t with fbs := rest })).fallbackEnd p g x src cols))) ∧
    (∀ faults r rest, (s.dev.tile p).fbs = [] → (s.dev.tile p).nextShadow = none → (s.dev.tile p).reruns = r :: rest →
      exec (.gradientRerun p faults) s = .next (s.put ((((s.dev.setTile p { s.dev.tile p with reruns := rest, recs := r.recs }).bmmRun p faults .clean
        ⟨r.n, r.desc, [], r.recs⟩ (some r.g)).sync p).liftHold p))) ∧
    (∀ g, (s.dev.tile p).nextGroup = some g → g.pinned = false →
      let bits := s.dev.groupTests p g
      let n := (g.cmds.headD { n := 0, desc := 0 }).n
      let close := fun (d : Dev) (fell : Bool) => d.modTile p (fun t => t.modGroup n (fun g => { g with evaluated := true, fellBack := fell }))
      let d := s.dev.bump SIV_STEP_COUNTS.CHECKED 1 p
      exec (.checkGroupEvaluation p) s = .next (s.put
        (if bits = 0 then close d false
         else if (s.dev.ltab p g.layer).fbEn && s.dev.flag SIV_CTRL.FB_EN p then
          ((close (((d.raise 0x5001).bump SIV_STEP_COUNTS.FELL_BACK 1 p).groupVerdict p g (bits + 0x20)) true).modTile p
            (fun t => { t with fbs := t.fbs ++ g.cmds.map (·.n) })).sync p
         else close ((d.raise 0x5007).groupVerdict p g bits) false))) ∧
    (∀ k g, (s.dev.tile p).nextSignal = some (k, g) → g.fwd = true →
      exec (.checkSemaphoreSignal p) s = .next (s.put ((((s.dev.setTile p { s.dev.tile p with
        groups := (s.dev.tile p).groups.eraseIdx k
        confirmed := (s.dev.tile p).confirmed ++ g.cmds.filter (fun i => g.fwd && i.desc.f 54 3 % 0x10000 == noOp) }).semAdd p g.sem 1
        (g.cmds.headD { n := 0, desc := 0 }).desc).liftHold p).sync p))) ∧
    (∀ (y ya : BitVec 24) (rnd : BitVec 2) (nsat : Bool) i ta ty, (s.dev.tile p).confirmed.find? (fun i => i.desc.f 22 3 == y.toNat) = some i →
      let e := s.dev.workAs p i.recs
      s.dev.tensor p ya.toNat = some ta → e.tensor p y.toNat = some ty →
      let x := i.desc
      let rm := (Rnd.ofCode rnd.toNat).getD .rne
      let rows := (List.range (x.fBatch * x.fM)).filter (fun r => e.live (e.tensor p (x.f 25 3)) r)
      exec (.adapterAddition p y ya rnd nsat) s = .next (s.put ((((rows.foldl (fun (d : Dev) r => d.putRow ty r 0 ((List.range x.fN).map (fun c =>
        if ty.fmt = .I32 then
          (convert (e.outConv p x .I32 x.fRndBase (r * x.fN + c)) ((e.elem ty r c).add (wdiv (e.elem ta r c) (e.pij p x r c)))).1
        else (convert { dst := ty.fmt, rnd := rm, intWrap := false, fltNsat := nsat
                        rand := e.srBits p x.layer rm (x.fRndBase + r * x.fN + c) } ((e.elem ty r c).add (e.elem ta r c))).1)))
        e).item p 3 x 4 ⟨cdiv (x.fBatch * x.fM * x.fN) 256, 0, []⟩).modTile p
          (fun t => { t with confirmed := t.confirmed.filter (fun j => j.n ≠ i.n) })).sync p)))

/-- The three kinds of CVT (R247, R248, R117) whose checks pass convert their live rows and complete. -/
def Obligations.ConversionsComplete : Prop :=
  ∀ (p : Tile) (s : State) (i : Issued) (src dst : Tensor),
    let e := s.dev.leaveQueue p i
    e.tensor p (i.desc.f 16 3) = some src → e.tensor p (i.desc.f 19 3) = some dst →
    (s.dev.Starts p 2 (isCvt 0) i → e.readErrors (e.cvtReads p i.desc) = none →
      exec (.cvtPlain p) s = .next (s.put (s.dev.ranUnit p i (fun d =>
        let x := i.desc
        let rows := (d.cvtLive p x).map (fun r => (r, (List.range x.cCols).map (d.plainElem p x src dst r)))
        let cnt := rows.foldl (fun (c : RecCnt) r => c.addRow (r.2.map (·.2.2))) {}
        (((rows.foldl (fun (d : Dev) r => d.putCodes dst r.1 (r.2.map (·.1))) d).putRec p x.cStat
          (recBytes x (outDir x 1 false) (fmtByte x.cDstFmt x.cRnd) 0 cnt 0 0 0 0)).item p 2 x 0
            ⟨narrowCycles rows.length x.cCols true, 0, []⟩).finish p i)))) ∧
    (s.dev.Starts p 2 (isCvt 1) i → e.narrowChk p i.desc = none →
      exec (.cvtNarrowing p) s = .next (s.put (s.dev.ranUnit p i (fun d => d.cvtNarrow p i)))) ∧
    (s.dev.Starts p 2 (isCvt 2) i → e.weightChk p i.desc = none →
      exec (.cvtWeightConversion p) s = .next (s.put (s.dev.ranUnit p i (fun d => d.cvtWeight p i))))

/-- The elementwise VECs (R250, R251): the value of each operation on the elements of A, B and C. -/
def Obligations.ElementVecsComplete : Prop :=
  ElementVec .add 0x01 (fun _ a b _ => a.add b) ∧ ElementVec .mul 0x02 (fun _ a b _ => a.mul b) ∧
  ElementVec .fma 0x03 (fun _ a b c => (a.mul b).add c) ∧ ElementVec .scale 0x04 (fun x a _ _ => a.mul (decW32 x.vImm1)) ∧
  ElementVec .max 0x05 (fun _ a b _ => maxX a b) ∧ ElementVec .min 0x06 (fun _ a b _ => minX a b)

/-- The VECs of a function of A (R250, R251). -/
def Obligations.FunctionVecsComplete : Prop :=
  FunctionVec .exp2 0x08 wexp2 ∧ FunctionVec .log2 0x09 wlog2 ∧ FunctionVec .recip 0x0A wrecip ∧ FunctionVec .rsqrt 0x0B wrsqrt ∧
  FunctionVec .silu 0x1C (fun a => wmul a (sigma a))

/-- The VECs over rows (R250, R251, R209): whose operands name tensors complete with their effect; a normalisation's backward pass adds
its scale gradients into a slot that takes additions and whose words read well (R168, R178). -/
def Obligations.RowVecsComplete : Prop :=
  RowVec .rmsnorm 0x10 (fun d p x => d.has p [x.vC, x.vDstRef]) Dev.rmsnorm ∧
  (∀ (p : Tile) (s : State) (i : Issued),
    let e := s.dev.leaveQueue p i
    let x := i.desc
    let e' := e.slotAdd p (x.vImm0 % 256) ((e.gIn p x.vImm1).getD 0) x.mb (e.gammaContrib p x)
    s.dev.VecStarts p 0x11 i → e.slotChk p x = none → e.slotRead p (x.vImm0 % 256) .clean = (e, none) →
      e'.flag ENG_STATUS.HALTED p = false → exec (.rmsnormBwd p .clean) s = .next (s.put (s.dev.ranUnit p i (fun d =>
        ((e'.rmsnormBwd p x).item p 3 x 0 (d.slotAcct p x (d.gammaContrib p x))).finish p i)))) ∧
  RowVec .softmax 0x14 (fun d p x => d.has p [x.vC, x.vDstRef]) Dev.softmax ∧
  RowVec .softmaxBwd 0x15 (fun d p x => d.has p [x.vDstRef]) Dev.softmaxBwd ∧
  RowVec .xent 0x18 (fun d p x => d.has p [x.vB, x.vC, x.vDstRef]) Dev.xent ∧
  RowVec .siluBwd 0x1D (fun d p x => d.has p [x.vDstRef]) Dev.siluBwd ∧
  RowVec .drop 0x20 (fun d p x => d.has p [x.vDstRef]) Dev.dropOut ∧ RowVec .dropBwd 0x21 (fun d p x => d.has p [x.vDstRef]) Dev.dropOut ∧
  RowVec .maxmask 0x30 (fun d p x => d.has p [x.vA, x.vDstRef]) Dev.maxMask ∧
  RowVec .bincount 0x34 (fun d p x => d.has p [x.vA, x.vDstRef]) Dev.binCount

/-- SLOT_ADD and SLOT_IDX_ADD (R168, R170, R251) into a slot that takes additions and whose words read well: every contribution of A is
added, and SLOT_IDX_ADD raises for an index outside the slot's rows. -/
def Obligations.SlotVecsComplete : Prop :=
  ∀ (p : Tile) (s : State) (i : Issued),
    let e := s.dev.leaveQueue p i
    let x := i.desc
    let n := x.vImm0 % 256
    let g := (e.gIn p x.vImm1).getD 0
    e.slotChk p x = none → e.slotRead p n .clean = (e, none) →
    (s.dev.VecStarts p 0x28 i →
      let cs := fun r c => if r < x.vRows ∧ c < x.vCols then [(⟨rw (e.vElem p x.vA r c), false⟩ : Contrib)] else []
      (e.slotAdd p n g x.mb cs).flag ENG_STATUS.HALTED p = false →
      exec (.slotAdd p .clean) s = .next (s.put (s.dev.ranUnit p i (fun d => ((d.slotAdd p n g x.mb cs).item p 3 x 0 (d.slotAcct p x cs)).finish p i)))) ∧
    (s.dev.VecStarts p 0x29 i →
      let cs := fun (r c : Nat) => if c < x.vCols then
          ((List.range x.vRows).zip (e.idxList p x)).filterMap (fun j =>
            if j.2 = (r : Int) then some (⟨rw (e.vElem p x.vA j.1 c), false⟩ : Contrib) else none)
        else []
      let d' := e.slotAdd p n g x.mb cs
      let rows := d'.fld ACB_SLOT_GEOM.ROWS p n
      d'.flag ENG_STATUS.HALTED p = false →
      exec (.slotIdxAdd p .clean) s = .next (s.put (s.dev.ranUnit p i (fun d =>
        ((if (d'.idxList p x).any (fun k => decide (k < 0) || decide ((rows : Int) ≤ k)) then
            (d'.setFld ACB_STATUS.IDX_RANGE 1 p).raise 0x7007 else d').item p 3 x 0 (d.slotAcct p x cs)).finish p i))))

/-- UPD_MOM and UPD_ADA (R189–R202, R252) whose checks pass and whose operands name tensors update their slice and complete. -/
def Obligations.UpdatesComplete : Prop :=
  ∀ (p : Tile) (s : State) (i : Issued) (ada : Bool),
    let e := s.dev.leaveQueue p i
    let x := i.desc
    s.dev.Starts p 3 (isVec (if ada then 0x41 else 0x40)) i → e.updChk p ada x = none → e.has p [x.vA] →
    (∀ o ∈ [x.vB, x.vC, x.vDstRef], (e.committedOp p o).isSome = true) → (∀ o ∈ [x.vB, x.vC, x.vE, x.vDstRef], (e.nextOp p o).isSome = true) →
    exec (if ada then .updAda p else .updMom p) s = .next (s.put (s.dev.ranUnit p i (fun d =>
      ((d.update p ada x).item p 3 x 0 ⟨cdiv (x.vRows * x.vCols) (updRate ada (d.narrowMode p)), 0, []⟩).finish p i)))

/-- The three kinds of SHN (R320–R330) whose sources read well seal their slot and move their elements in the order of the walk and complete. -/
def Obligations.ShuntsComplete : Prop :=
  ∀ (p : Tile) (rd : ReadOutcome) (s : State) (i : Issued) (kind : Fin 3),
    let e := s.dev.leaveQueue p i
    let x := i.desc
    s.dev.Starts p 4 (isShn kind) i → (x.sFromSlot = true → e.readMisuse p x.sSlot = none) → (e.shnSeal p x rd).2 = none →
    e.readErrors (e.shnReads p x (planOf i.plan)) = none →
    exec (match kind with | 0 => .shnPermute p rd | 1 => .shnGather p rd | 2 => .shnPermutePadmat p rd) s =
      .next (s.put (s.dev.ranUnit p i (fun d => (d.shnSeal p x rd).1.shunt p i)))

/-! ## Memory -/

/-- Where a DRAM address lies (R278): its home stack and its stack-local address, which runs to 60 GiB with sparing enabled and to 64 GiB
with sparing disabled; every place below that is the home of one address. -/
def Obligations.DramAddressesHaveAHome : Prop :=
  ∀ d : Dev,
    let limit := (if d.sparing then 60 else 64) * 2 ^ 30
    (∀ a, d.region a = .dram → homeStack a = a / 2048 % 16 ∧ localAddr a = a / 2048 / 16 * 2048 + a % 2048 ∧ homeStack a < 16 ∧
      localAddr a < limit ∧ cellAt (homeStack a) (localAddr a) = a) ∧
    ∀ x l, x < 16 → l < limit → d.region (cellAt x l) = .dram ∧ homeStack (cellAt x l) = x ∧ localAddr (cellAt x l) = l

/-- Once stack f has failed (R291) a chunk of it lies in the spare capacity of another stack, every other address stays, and no two
addresses share a place. -/
def Obligations.SparePlacesStandApart : Prop :=
  ∀ f a b : Nat, f < 16 → a < 960 * 2 ^ 30 → b < 960 * 2 ^ 30 →
    (homeStack a ≠ f → cellOf (some f) a = a) ∧
    (homeStack a = f → homeStack (cellOf (some f) a) = (f + 1 + a / 2048 / 16 % 15) % 16 ∧ homeStack (cellOf (some f) a) ≠ f ∧
      localAddr (cellOf (some f) a) = 60 * 2 ^ 30 + a / 2048 / 16 / 15 * 2048 + a % 2048 ∧
      localAddr (cellOf (some f) a) < 64 * 2 ^ 30) ∧
    (cellOf (some f) a = cellOf (some f) b → a = b)

/-- The banks of a larder (R293): bank and line within it name a line of the larder. -/
def Obligations.LarderBanksHoldEveryLineOnce : Prop :=
  ∀ a : Nat, a < 2 ^ 25 → larBank a = Nat.xor (a / 128 % 64) (a / 128 / 64 % 64) ∧ larBank a < 64 ∧
    ∀ b, b < 2 ^ 25 → larBank a = larBank b → a / 128 / 64 = b / 128 / 64 → a / 128 = b / 128

/-- The writes of memory (R280, R283, R295, R297) store their bytes at the address they compute and leave every other byte of data as it
was, while no line or word is poisoned. -/
def Obligations.MemoryWritesStoreExactly : Prop :=
  ∀ s : State, Memory.wf s.dev.mem = true → s.dev.lineX = [] → s.dev.wordX = [] →
    (∀ (a : BitVec 48) src line, (s.dev.decoded src).region a.toNat = .dram →
      ∃ t, exec (.dramWrite a src line) s = .next t ∧ (s.dev.decoded src).Stores (t.dev.decoded src) (a.toNat / 64 * 64) (padTo 64 line)) ∧
    (∀ (a : BitVec 48) src bs row copies, (s.dev.decoded src).region a.toNat = .dram →
      ∃ t, exec (.dramPartialWrite a src bs .clean copies row) s = .next t ∧
        (s.dev.decoded src).Stores (t.dev.decoded src) a.toNat (bs.take (64 - a.toNat % 64))) ∧
    (∀ (p : Tile) req (a : BitVec 25) bs copies,
      ∃ t, exec (.larderPartialWrite p req a bs .clean copies) s = .next t ∧ s.dev.Stores t.dev (larderAddr p a.toNat) (bs.take (32 - a.toNat % 32))) ∧
    (∀ (p : Tile) (a : BitVec 23) bs, s.dev.flag ENG_STEP_CTX.OPEN p = false →
      ∃ t, exec (.acbFabricWrite p a bs) s = .next t ∧ s.dev.Stores t.dev (acbAddr p a.toNat) (bs.take (0x800000 - a.toNat)))

/-- The commands of the memory controllers and the larders (R281–R290, R293–R296) whose reads are clean answer the bytes that stand there
and count the access; the patrol moves on by one line; a larder grants every bank one request. -/
def Obligations.MemoryAccessesComplete : Prop :=
  ∀ s : State,
    (∀ (a : BitVec 48) src row copies,
      let line := a.toNat / 64 * 64
      let e := s.dev.decoded src
      let d := e.countBase (homeStack (cellOf e.failed line)) 0 1
      e.region a.toNat = .dram → tget 0 e.lineX (cellOf e.failed line / 64) = 0 →
      exec (.dramRead a src .clean copies row) s = .next (s.put ((d.reply (d.bytes line 64) false).withVia none))) ∧
    (∀ (x : Die) row copies, s.dev.fld MEM_SCRUB.GAP x ≠ 0 → tget 0 s.dev.scrubPos x + 1 < 2 ^ 30 →
      tget 0 s.dev.lineX (cellAt x (64 * tget 0 s.dev.scrubPos x) / 64) = 0 →
      exec (.patrolScrub x .clean copies row) s = .next (s.put (s.dev.withScrubPos (tset 0 s.dev.scrubPos x (tget 0 s.dev.scrubPos x + 1))))) ∧
    (∀ (p : Tile) (a : BitVec 25) (req : Fin 7) widen copies, (∀ i ∈ List.range 4, tget 0 s.dev.wordX (larderAddr p (a.toNat / 128 * 128) / 32 + i) = 0) →
      ∃ t, exec (.larderAccess p [⟨req, widen, a, none⟩] .clean copies) s = .next t ∧ t.dev.answer = s.dev.bytes (larderAddr p (a.toNat / 128 * 128)) 128 ∧
        t.dev.answerBad = false ∧ t.dev.regs = s.dev.regs ∧ tget 0 t.dev.larWait (waitKey p (larBank a.toNat) req) = 0)

/-! ## The coupler ports -/

/-- Training, retraining, lane failure and lane swap (R337–R341, R371): each where its port stands so that it acts. SER_WINDOW_EXPIRY
(R340) counts the window's uncorrectable codewords and begins a new window; no lane whose corrected symbols stay within SER_MAX is
replaced; a lane beyond it is, and with more than 64 uncorrectable codewords the ACTIVE lane that counts most, the lowest of them. The
counts are those given and those of the flits received in the window (log 109). -/
def Obligations.LanesTrainAndSwap : Prop :=
  ∀ (c : Die) (s : State),
    (∀ r, s.dev.flag CPL_CTRL.ENABLE c = true → s.dev.fld CPL_PORT_STATUS.STATE c < 2 → s.dev.flag SEC_STATUS.BSCAN = false →
      8 ≤ (trainOrder r).length → exec (.portTraining c r) s = .next (s.put ((s.dev.trainLanes c r).portUp c))) ∧
    (∀ v : BitVec 32, CPL_CTRL.ENABLE.get v.toNat = 1 → CPL_CTRL.RETRAIN.get v.toNat = 1 →
      exec (.cplCtrlRetrain c v) s = .next (s.put
        ((s.dev.setReg ⟨.CPL_CTRL, c, 0⟩ (writeByAccess ⟨.CPL_CTRL, c, 0⟩ true (s.dev.reg ⟨.CPL_CTRL, c, 0⟩) v.toNat)).startTraining c))) ∧
    (∀ v : BitVec 32, s.dev.flag CPL_CTRL.ENABLE c = true → CPL_CTRL.ENABLE.get v.toNat = 0 →
      exec (.cplCtrlEnable c v) s = .next (s.put
        ((((s.dev.setReg ⟨.CPL_CTRL, c, 0⟩ (writeByAccess ⟨.CPL_CTRL, c, 0⟩ true (s.dev.reg ⟨.CPL_CTRL, c, 0⟩) v.toNat)).setLanes c 0).setFld
          CPL_PORT_STATUS.STATE 0 c).laneSync c))) ∧
    (∀ lane : Fin 9, s.dev.lane c lane = 2 → s.dev.fld CPL_PORT_STATUS.STATE c = 2 → (s.dev.standby c).isSome = true →
      (s.dev.port c).agreed = [] → ((s.dev.port c).swap = none ∨ (s.dev.port c).swap = some lane.val) →
      exec (.laneLossOfLock c lane) s = .next (s.put (s.dev.setPort c { s.dev.port c with
        swap := some lane.val, ctl := (s.dev.port c).ctl ++ [.swapRequest (Fin.ofNat 8 ((s.dev.logicalOf c lane).getD 0))] }))) ∧
    (∀ e k, (s.dev.port c).agreed.find? (s.dev.port c).reached = some e → s.dev.standby c = some k →
      let t := s.dev.port c
      let j := s.dev.physOf c e.lane
      let map := s.dev.fld CPL_LANE_MAP.PHYS c
      let d := s.dev.setFld CPL_LANE_MAP.PHYS (map - j * 16 ^ e.lane + k * 16 ^ e.lane) c
      let t' := { t with swap := if t.swap = some j then none else t.swap, agreed := t.agreed.filter (fun x => x.lane != e.lane) }
      let d := (((d.setLane c k 2).setLane c j 4).setPort c t').laneSync c
      exec (.laneSwap c) s = .next (s.put ((d.setFld CPL_PORT_STATUS.SWAPPED 1 c).raise 0xB001))) ∧
    (∀ lane : Fin 9, s.dev.lane c lane = 4 → exec (.laneRetrain c lane true) s = .next (s.put
      (((s.dev.setLane c lane 3).setPort c { s.dev.port c with attempts := tset 0 (s.dev.port c).attempts lane 0 }).laneSync c))) ∧
    (∀ (counts : List (Nat × Nat)) (n : Nat),
      let t := s.dev.port c
      let cnt := fun j : Nat => ((counts.find? (fun e => e.1 = j)).map (·.2)).getD 0 + tget 0 t.corrected j
      let active := (List.range 9).filter (fun j => s.dev.lane c j == 2)
      let bad := active.filter (fun j => decide (s.dev.fld CPL_CTRL.SER_MAX c < cnt j))
      let e := (s.dev.bump CPL_LINK_COUNTS.FEC_UNCORR n c).setPort c { t with corrected := [], uncorr := 0 }
      (bad = [] → n + t.uncorr ≤ 64 → exec (.serWindowExpiry c counts n) s = .next (s.put e)) ∧
      (∀ j, bad = [j] → n + t.uncorr ≤ 64 → exec (.serWindowExpiry c counts n) s = .next (s.put (e.replaceLane c j))) ∧
      (∀ j, bad = [] → 64 < n + t.uncorr → j ∈ active → (∀ k ∈ active, cnt k ≤ cnt j ∧ (cnt k = cnt j → j ≤ k)) →
        exec (.serWindowExpiry c counts n) s = .next (s.put (e.replaceLane c j))))

/-- Flits on a port that is up (R335, R342–R345): an alignment codeword that is due carries the lane map; the flits that wait to be sent again go
first; acknowledgements and credits leave when they are owed; a flit that overlaps an
uncorrectable codeword, or whose FCRC is wrong, asks for a NAK; a good data flit in sequence is taken up. -/
def Obligations.FlitsMove : Prop :=
  ∀ (c : Die) (s : State), s.dev.fld CPL_PORT_STATUS.STATE c = 2 →
    let t := s.dev.port c
    (t.alignDue = true → exec (.alignmentCodeword c) s = .next (s.put (s.dev.setPort c { t with
      aligned := t.aligned + 1, lines := .align (s.dev.fld CPL_LANE_MAP.PHYS c) :: t.lines }))) ∧
    (∀ f fs, s.dev.mgmtPacked = s.dev.mgmtOut.length → t.again = f :: fs → exec (.flitTransmit c) s = .next (s.put ((s.dev.setPort c { t with again := fs }).putFlit c f))) ∧
    (s.dev.mgmtPacked = s.dev.mgmtOut.length → t.again = [] → t.ctl = [] → t.replay.length < 512 → t.choose = none →
      exec (.flitTransmit c) s = .next (s.put (s.dev.putFlit c (plainFlit 1 none)))) ∧
    (t.sinceAck ≠ 0 ∨ t.nak = true → exec (.flitAck c) s = .next (s.put (s.dev.putFlit c (plainFlit 1 none)))) ∧
    (s.dev.flag RDU_STATUS.HOLD_FULL c = false →
      let owed := (List.range 8).foldl (fun (r : Tbl Nat) ch => tset 0 r ch (tget 0 t.freed ch)) []
      owed ≠ t.returned → exec (.creditReturn c) s = .next (s.put ((s.dev.setPort c { t with returned := owed }).putFlit c
        (plainFlit 2 (some (.credits ((List.range 8).map (fun ch => tget 0 owed ch)))))))) ∧
    (∀ f cw, let e := (s.dev.countBase c 0x148 1).takeWord c cw
      (e.2 = true ∨ f.fcrc.toNat ≠ crc32c (flitBytes f)) →
      exec (.flitReceive c f cw) s = .next (s.put (e.1.setPort c { e.1.port c with nak := true }))) ∧
    (∀ f cw, ((s.dev.countBase c 0x148 1).takeWord c cw).2 = false → f.fcrc.toNat = crc32c (flitBytes f) → f.kind = 0 → f.ctl = none → f.nak = false → f.fseq.toNat = t.expSeq →
      ∃ u, exec (.flitReceive c f cw) s = .next u ∧ (u.dev.port c).expSeq = (t.expSeq + 1) % 1024 ∧ (u.dev.port c).nak = false ∧
        (u.dev.port c).sinceAck = t.sinceAck + 1 ∧ ∃ new, (u.dev.port c).rx = t.rx ++ new)

/-! ## Exchanges and packets -/

/-- A SEND waits for its CTS or transmits on one held for it, a RECV-INTO answers with its CTS, a REDUCE-INTO starts its first chunk
(R353, R355, R359), once the head of the exchange port's queue passes its checks. -/
def Obligations.ExchangesStart : Prop :=
  ∀ (p : Tile) (s : State) (i : Issued),
    let cts := (((s.dev.leaveQueue p i).openXch p i).2.tile p).cts.find? (fun c => c.isFor i.desc)
    (∀ rd, s.dev.XchStarts p 0 i → cts = none → exec (.send p rd) s = .next (s.put (s.dev.ranXch p i (fun _ d => d)))) ∧
    (∀ rd c, s.dev.XchStarts p 0 i → cts = some c → exec (.send p rd) s = .next (s.put (s.dev.ranXch p i (fun x d =>
      (d.modTile p (fun t => { t with cts := t.cts.filter (fun e => !e.isFor x.desc) })).transmit p x c.total rd)))) ∧
    (s.dev.XchStarts p 1 i → exec (.recvInto p) s = .next (s.put (s.dev.ranXch p i (fun x d =>
      let d := (d.newStream true ((d.engOf p).getD 0) x.desc.xGroup x.desc.xTag (some x.desc.xPeer)).sendCts p x
      if x.total = 0 then (d.xchRecord p x 0).doneXch p x else d)))) ∧
    (∀ rd, let o := (s.dev.leaveQueue p i).openXch p i
      s.dev.XchStarts p 2 i → o.2.SlotGood p o.1 rd →
      exec (.reduceInto p rd) s = .next (s.put (s.dev.ranXch p i (fun x d => (d.slotRed p x rd).redStart p x))))

/-- The packets of an exchange (R349, R355, R357, R359, R360, R363, R365) and of the tender (R409) that pass the checks and match are
taken: delivered, held, summed and passed on, or released; each accepted one is acknowledged as R363 says. -/
def Obligations.PacketsAreTaken : Prop :=
  ∀ (c : Die) (pk : Packet) (rd : ReadOutcome) (s : State),
    (let pk := { pk with ptype := 1 }
     let d := s.dev.took c pk
     ∀ p x, s.dev.Takes c pk (some true) → ¬(pk.group = 0 ∧ pk.tag = 0xFFFF) → d.findXch pk [1] = some (p, x) →
      pk.offset.toNat + pk.nelem.toNat ≤ pk.total.toNat → pk.total.toNat = x.total →
      let e := d.workAs p x.recs
      let r := (e.slotRed p x rd).deliverData p x pk
      e.SlotGood p x rd → r.2.Lands p r.1 →
      exec (.data c pk rd) s = .next (s.put (
        let f := (r.2.afterLanding p r.1).accept c pk true false
        if r.1.delivered ≥ r.1.total then (f.xchRecord p r.1 r.1.sgR).doneXch p r.1 else f.settle p))) ∧
    (let pk := { pk with ptype := 1, group := 0, tag := 0xFFFF }
     let d := s.dev.took c pk
     let kind := pk.sg.toNat
     s.dev.Takes c pk (some true) → d.flag SVC_TENDER_CFG.VALID = true → pk.src.toNat = d.ward → kind ≠ 3 → pk.isLast = false →
      pk.offset.toNat + pk.payload.length ≤ (if kind = 2 then d.wardProgram else d.wardBytes) →
      exec (.tenderStream c pk) s = .next (s.put (
        let b := if kind = 2 then 2 else if kind = 1 ∨ (kind = 6 ∧ d.committed % 2 ^ 32 = pk.total.toNat) then d.fld SVC_TENDER_CFG.TBUF
          else 1 - d.fld SVC_TENDER_CFG.TBUF
        ((d.fabricWrite (d.tenderAddr b pk.offset.toNat) pk.payload).settleFor 3).accept c pk true true))) ∧
    (let pk := { pk with ptype := 2 }
     let d := s.dev.took c pk
     let p := d.tileOf pk.dstL.toNat
     s.dev.Takes c pk (some false) →
      (d.findXch pk [0] = none → (d.tile p).cts.length < 64 →
        exec (.cts c pk rd) s = .next (s.put ((d.accept c pk false false).modTile p (fun t =>
          { t with cts := t.cts ++ [⟨pk.src.toNat, pk.group.toNat, pk.tag.toNat, pk.total.toNat, 0⟩] })))) ∧
      (∀ q x, d.findXch pk [0] = some (q, x) → x.started = false → exec (.cts c pk rd) s = .next (s.put
        ((((d.accept c pk false false).workAs q x.recs).transmit q x pk.total.toNat rd).settle q)))) ∧
    (let pk := { pk with ptype := 4 }
     let d := s.dev.took c pk
     let off := pk.offset.toNat
     let n := pk.nelem.toNat
     ∀ p x, s.dev.Takes c pk (some true) → d.findXch pk [2] = some (p, x) → off + n ≤ pk.total.toNat → redDiffers x pk = false →
      let e := (d.useRecs p x.recs).slotRed p x rd
      (d.useRecs p x.recs).SlotGood p x rd → e.xReadError p x.desc off (off + n) = none →
      let m := e.member p x.desc.xGroup
      let eOut := min pk.exponent x.sg
      let ps := ((List.range n).zip (unwire pk)).map (fun v =>
        (wpow2 v.2.2 (eOut - pk.exponent), wpow2 (e.xValue p x.desc (off + v.1)) (eOut - x.sg)))
      let sums := ps.map (fun v => wadd v.1 v.2)
      let r := e.redFlags p c x ((ps.zip sums).any (fun v => v.1.1.isFin && v.1.2.isFin && !v.2.isFin)) (sums.any (·.isNan))
      let q := redChunk m.size x.total off
      let r := r.2.redRelease p (r.1.noteRead q n)
      let r := r.2.redPass p c r.1 (q = m.pos) off n sums eOut (pk.hop.toNat + 1)
      r.2.Lands p r.1 →
      exec (.partialSum c pk rd) s = .next (s.put (((r.2.afterLanding p r.1).accept c pk true false).redDone p r.1))) ∧
    (let pk := { pk with ptype := 5 }
     let d := s.dev.took c pk
     let off := pk.offset.toNat
     ∀ p x, s.dev.Takes c pk (some true) → d.findXch pk [2] = some (p, x) → off + pk.nelem.toNat ≤ pk.total.toNat → redDiffers x pk = false →
      let e := d.useRecs p x.recs
      let m := e.member p x.desc.xGroup
      let q := redChunk m.size x.total off
      let vs := (unwire pk).map (·.2)
      let r := e.redFlags p c x false (vs.any (·.isNan))
      let r := if m.pos = (q + m.size - 1) % m.size then r
        else r.2.redSend p c r.1 false 5 off pk.nelem.toNat pk.payload pk.exponent pk.hop.toNat
      let r := r.2.redDeliver p r.1 off vs pk.exponent
      r.2.Lands p r.1 →
      exec (.result c pk) s = .next (s.put (((r.2.afterLanding p r.1).accept c pk true false).redDone p r.1))) ∧
    (let pk := { pk with ptype := 3 }
     let d := s.dev.took c pk
     ∀ p x, s.dev.Takes c pk none → ¬(pk.group = 0 ∧ pk.tag = 0xFFFF) → d.findXch pk [0, 2] = some (p, x) → x.prim = 0 → x.started = true →
      x.unacked ≠ [] → afterAck pk.pseq.toNat x.unacked = [] →
      let y := { x with unacked := [], held := x.held.filter (fun h => pk.pseq.toNat < h.2.pseq.toNat) }
      let inBuffer := fun (y : Xch) (c : Nat) => (y.held.filter (fun h => h.1 == c)).length
      let y := { y with
        resends := 0, rduResends := (List.range 16).foldl (fun m c => if inBuffer y c < inBuffer x c then tset 0 m c 0 else m) x.rduResends }
      exec (.e2eAck c pk) s = .next (s.put ((d.putXch p y).doneXch p y))) ∧
    (let pk := { pk with ptype := 6 }
     let d := s.dev.took c pk
     ∀ p x, s.dev.Takes c pk none → d.findXch pk [0, 1, 2] = some (p, x) →
      exec (.abort c pk) s = .next (s.put (d.failXch p x 0xB00C false))) ∧
    (pk.dst.toNat ≠ (s.dev.fetched c pk).rank → (s.dev.fetched c pk).isolated = false →
      exec (.packetForward c pk rd) s = .next (s.put ((s.dev.fetched c pk).forwardPacket c pk)))

/-- The timers of an exchange (R355, R363, R365): unacknowledged packets are sent again while resends remain; a stalled exchange fails; a
RECV-INTO without DATA sends its CTS again. -/
def Obligations.ExchangeTimersAct : Prop :=
  ∀ s : State,
    (∀ (p : Tile) k x, s.dev.kthXch p k = some x →
      (x.unacked ≠ [] → x.resends < s.dev.fld CPL_XCH_CTRL.RETRIES p →
        exec (.e2eTimeout p k) s = .next (s.put ((s.dev.putXch p { x with resends := x.resends + 1 }).sendPackets (p / 5) x.unacked))) ∧
      (s.dev.fld CPL_XCH_CTRL.STALL p ≠ 0 → exec (.cplXchStall p k) s = .next (s.put (s.dev.failXch p x 0xB008 true))) ∧
      (x.prim = 1 → x.started = false → exec (.ctsResend p k) s = .next (s.put (s.dev.sendCts p x)))) ∧
    (∀ (c : Die) k p x, (s.dev.tiles.flatMap (fun e => (e.2.xchs.filter (fun x => x.held.any (fun h => h.1 == c.val))).map
        (fun x => (e.1, x))))[k]? = some (p, x) → tget 0 x.rduResends c < s.dev.fld CPL_XCH_CTRL.RETRIES p →
      exec (.rduTimeout c k) s = .next (s.put ((s.dev.putXch p { x with
          rduResends := tset 0 x.rduResends c (tget 0 x.rduResends c + 1) }).sendPackets c
        ((x.held.filter (fun h => h.1 == c.val)).map (·.2)))))

/-- The chunks of a reduction (R358): P chunks of C elements, C a multiple of 128, hold every position of the stream once. -/
def Obligations.ReductionChunksPartitionTheStream : Prop :=
  ∀ size total : Nat, 0 < size →
    chunkSize size total = 128 * ((total + (128 * size - 1)) / (128 * size)) ∧
    (∀ q, chunkRange size total q = (Nat.min (q * chunkSize size total) total, Nat.min ((q + 1) * chunkSize size total) total)) ∧
    ∀ i, i < total → i / chunkSize size total < size ∧
      ∀ q, ((chunkRange size total q).1 ≤ i ∧ i < (chunkRange size total q).2) ↔ q = i / chunkSize size total

/-- The judgement of an alive counter (R514). -/
def Obligations.AliveCountersAreJudged : Prop :=
  (∀ a : Nat, aliveJudge none a = (false, false, (a + 1) % 256)) ∧
  ∀ e a : Nat, e < 256 → a < 256 →
    (a = e → aliveJudge (some e) a = (false, false, (a + 1) % 256)) ∧
    (a = (e + 255) % 256 → aliveJudge (some e) a = (true, false, e)) ∧
    (a ≠ e → a ≠ (e + 255) % 256 → aliveJudge (some e) a = (false, true, (a + 1) % 256))

/-! ## The pod: messages, timers, repairs -/

/-- The messages of a step (R390–R392, R411), each taken by the rank that its type is for, where it acts: READY noted and, the last one,
answered by COMMIT to the standby first; COMMIT applied and answered; COMMITTED noted; START opening the armed step; ABORT_STEP undoing
the open one; a power FAULT failing its rank, a repairable one aborting the step for a repetition. -/
def Obligations.StepMessagesAreTaken : Prop :=
  ∀ (m : Mgmt) (s : State), s.dev.Hears m →
    let d := s.dev.heardNew m
    let n := m.step.toNat
    let r := m.src.toNat
    (∀ a b x y, m.body = .ready a b x y → d.isManager = true →
      let d := d.settled (fun w => isStart w.body && w.dst.toNat == r)
      d.stepOpen = true → n = d.committed + 1 → d.pod.aborting = none → d.pod.committing = none → d.stepRanks.contains r = true →
      let d' := d.modPod (fun p => { p with
        ready := p.ready.filter (fun e => e.1 ≠ r) ++ [(r, (a.toNat, b.toNat, x.toNat, y.toNat))] })
      let c := (n, d'.decision.1, d'.decision.2)
      let d'' := d'.modPod (fun p => { p with committing := some c })
      exec (.ready m) s = .next (s.put (if d'.stepRanks.all (fun q => d'.pod.ready.any (fun e => e.1 == q)) then
          (match d''.standbyRank with | some q => d''.sendCommit [q] c | none => d''.sendCommit d''.stepRanks c)
        else d'))) ∧
    (∀ dec k, m.body = .commit dec k → d.fromManager m = true → d.committed < n → d.openStep = some n →
      exec (.commit m) s = .next (s.put (((((d.settled (fun w => isFault w.body)).settled (fun w => isReady w.body)).applyCommit n dec.toNat
        k.toNat).releasePublish).sendMgmt r n .committed))) ∧
    (m.body = .committed → d.isManager = true → exec (.committed m) s = .next (s.put (d.onCommitted m))) ∧
    (m.body = .start → r = d.manager → n = d.committed + 1 → d.openStep = none → (d.pod.armed.map (·.step)) = some n →
      d.svc.activating = none → d.state ≠ 2 →
      exec (.start m) s = .next (s.put ((d.settled (fun w => isFault w.body)).openStepNow n))) ∧
    (∀ code again copies, m.body = .abortStep code again → d.fromManager m = true → n = d.committed + 1 →
      exec (.abortStepMessage m copies) s = .next (s.put (d.onAbortStep m code.toNat again copies))) ∧
    (∀ code eng seq, m.body = .fault code eng seq → d.isManager = true →
      let d := d.settled (fun w => isStart w.body && w.dst.toNat == r)
      (powerCodes.contains code.toNat = true → exec (.fault m) s = .next (s.put ((d.declareFailed r code.toNat).advance))) ∧
      (repairCodes.contains code.toNat = true → d.stepOpen = true → d.pod.committing = none →
        exec (.fault m) s = .next (s.put ((d.modPod (fun p => { p with
          repairing := p.repairing.filter (· ≠ r) ++ [r] })).abortPod code.toNat r true))))

/-- The messages of membership, of the takeover, of triggers and of forwarded commands (R387, R388, R393, R400, R465–R467, R494). -/
def Obligations.PodMessagesAreTaken : Prop :=
  ∀ (m : Mgmt) (s : State), s.dev.Hears m →
    let d := s.dev.heardNew m
    let r := m.src.toNat
    (∀ role c o, m.body = .heartbeat role c o → ¬(s.dev.isManager = true ∧ s.dev.rankState r = 5) →
      let d := if o then d else d.settled (fun w => isAbort w.body && w.dst.toNat == r)
      exec (.heartbeat m) s = .next (s.put ((d.withPeers (tset (0, 0, false) d.peers r (role.toNat, c.toNat, o))).advance))) ∧
    (∀ c, m.body = .publish c →
      let d := d.settled (fun w => isFault w.body)
      c.epoch.toNat ≠ d.podEpoch →
      exec (.publish m) s = .next (s.put (if d.openStep.isSome then d.modPod (fun p => { p with heldPublish := some m })
        else (d.modPod (fun p => { p with staged := some c })).sendMgmt r d.stepNow (.staged c.epoch)))) ∧
    (∀ e, m.body = .staged e → d.isManager = true → e.toNat ≠ d.podEpoch →
      exec (.staged m) s = .next (s.put ((d.stagedPublish r).advance))) ∧
    (∀ e c, m.body = .activate e → d.pod.staged = some c → c.epoch = e →
      exec (.activate m) s = .next (s.put ((d.modPod (fun p => { p with staged := none })).applyChange c))) ∧
    (∀ ports, m.body = .fencePort ports → exec (.fencePort m) s = .next (s.put
      ((d.disablePorts ports.toNat).sendMgmt r d.stepNow (.staged (BitVec.ofNat 16 d.podEpoch))))) ∧
    (∀ silent, m.body = .takeoverQuery → exec (.takeoverQuery m silent) s = .next (s.put
      ((if silent then d.modPod (fun p => { p with unheeded := some d.manager }) else d).sendMgmt r d.stepNow (.takeoverVote silent)))) ∧
    (∀ yes, m.body = .takeoverVote yes → exec (.takeoverVote m) s = .next (s.put
      (let d := d.settled (fun w => isQuery w.body && w.dst.toNat == r)
       if yes ∧ d.pod.voting then d.modPod (fun p => { p with voters := p.voters.filter (· ≠ r) ++ [r] }) else d))) ∧
    (∀ rank num capture src, m.body = .trigger rank num capture src → bitOf (d.fld SNP_TRIG_CFG.EN) 6 = true → d.trig.busy = false →
      exec (.triggerMessage m) s = .next (s.put (d.deliver 64 capture (some (rank.toNat, num.toNat)) false))) ∧
    (∀ h bs alive, m.body = .hostCmd h bs → r = d.manager → h.kind = 1 → checkHead (padTo 128 bs) d.pod.takenAlive 96 = (none, alive) →
      exec (.hostCmd m) s = .next (s.put
        (let d := (d.headCheck none (padTo 128 bs)).modPod (fun p => { p with takenAlive := alive })
         d.modPod (fun p => { p with taken := p.taken ++ [(h.rank.toNat, h.qp.toNat, padTo 128 bs)] })))) ∧
    (∀ h bs, m.body = .hostCpl h bs → d.isManager = true → h.kind = 3 →
      exec (.hostCpl m) s = .next (s.put (d.qps.foldl (fun d e =>
        d.putEvent e.1 (fieldAt bs 0 2) (fieldAt bs 4 2 % 4096) (fieldAt bs 6 6) (padTo 16 ((bs.drop 12).take 16))) d)))

/-- The timers and boundaries of a pod (R136, R186, R388, R389, R393, R394, R386, R400, R420, R466), each where its condition holds. -/
def Obligations.PodTimersAct : Prop :=
  ∀ s : State,
    let d := s.dev
    (∀ n, d.openStep = some n → d.pod.readySent = false → d.activeTiles.all d.tileIdle = true → d.hasTender = false → d.tenderDone = true →
      exec .stepClose s = .next (s.put ((d.modPod (fun p => { p with readySent := true })).sendMgmt d.manager n
        (.ready (sat32 d.stepSums.1) (sat32 d.stepSums.2.1) (sat32 d.stepSums.2.2.1) (sat32 d.stepSums.2.2.2))))) ∧
    (d.openStep.isSome = true → d.stepSums.2.1 * 100 > d.pod.stormPct * d.stepSums.1 →
      exec .fallbackStorm s = .next (s.put ((d.raise 0x5002).fire 3))) ∧
    (d.inPod = true → d.isManager = true → exec .heartbeatSend s = .next (s.put (d.podPeers.foldl (fun d r => d.sendMgmt r d.stepNow
      (.heartbeat (BitVec.ofNat 2 (d.fld SVC_ROLE.ROLE)) (BitVec.ofNat 48 d.committed) d.openStep.isSome)) d))) ∧
    (∀ r : Rank, d.isManager = true → r.toNat ≠ d.rank → d.rankState r.toNat ≠ 0 → d.rankState r.toNat ≠ 5 →
      exec (.heartbeatTimeout r) s = .next (s.put (((d.raise 0x1101).declareFailed r.toNat 0x1101).advance))) ∧
    (∀ r : Rank, d.isManager = true → r.toNat ≠ d.rank → d.stepRanks.contains r.toNat = true → d.stepOpen = true → d.pod.aborting = none →
      d.pod.committing = none → d.pod.ready.any (fun e => e.1 == r.toNat) = false →
      exec (.readyWaitExpiry r) s = .next (s.put ((d.raise 0x1109).declareFailed r.toNat 0x1109))) ∧
    (∀ r : Rank, exec (.fencePublishTimeout r) s = .next (s.put ((d.modPod (fun p => { p with
      fencing := p.fencing.map (fun f => if f.rank = r.toNat then { f with due := true } else f) })).advance))) ∧
    (d.isolated = false → exec .messageResend s = .next (s.put (d.withMgmtOut ((d.awaiting.map d.again).reverse ++ d.mgmtOut)))) ∧
    (d.inPod = true → d.isolated = false → exec .isolationTimeout s = .next (s.put ((d.localAbort.setFld SVC_ROLE.STATE 6).raise 0x1108))) ∧
    (d.fld SVC_ROLE.ROLE = 2 → d.pod.voting = false →
      let t := d.modPod (fun p => { p with voting := true, voters := [d.rank], unheeded := some d.manager })
      let asked := t.podPeers.foldl (fun d r => d.sendMgmt r d.stepNow .takeoverQuery) t
      exec .standbyTimeout s = .next (s.put asked) ∧ exec .takeoverRetry s = .next (s.put asked)) ∧
    (d.pod.voting = true → exec .takeoverVoteWindow s = .next (s.put (if d.majority then (d.takeOver d.manager).advance
      else ((d.modPod (fun p => { p with voting := false })).settled (fun w => isQuery w.body)).raise 0x1106))) ∧
    (∀ tag : BitVec 32, (∃ f ∈ d.pod.forwarded, f.tag = tag.toNat) → exec (.forwardTimeout tag) s = .next (s.put (d.forwardTimeout tag.toNat))) ∧
    (∀ failing, (d.spareTest failing).isManager = true → (d.spareTest failing).pod.holdStart = false → (d.spareTest failing).atBoundary = true →
      exec (.flashInterval failing) s = .next (s.put ((d.spareTest failing).startGen))) ∧
    (d.isManager = true → d.fld SVC_CKPT_CFG.STORE_MIN ≠ 0 →
      let t := d.modPod (fun p => { p with pinNext := true })
      exec .storeInterval s = .next (s.put (if t.pod.holdStart then t
        else if t.atBoundary then t.startGen else t.modPod (fun p => { p with ckptDue := true }))))

/-- The repairs of a device (R20, R274, R292, R415–R419, R423): a replaced tile, a module refilled, a stack failed over, a service complex
switched, a flash channel marked; and the liveness count. -/
def Obligations.RepairsComplete : Prop :=
  ∀ s : State,
    let d := s.dev
    (∀ (l : Eng) copies new, d.pod.replace.contains l.val = true → d.openStep = none →
      let t := (d.markBad (d.tileOf l.val)).modPod (fun p => { p with replace := p.replace.filter (· ≠ l.val) })
      t.spareTile (d.tileOf l.val / 5) = some new →
      exec (.tileReplacement l copies) s = .next (s.put (((t.moveEngine l.val (d.tileOf l.val) new copies).raise 0x1112).tellRepaired))) ∧
    (∀ (r : Rank) x, d.fld SVC_ROLE.STATE = 2 → exec (.moduleRefill r x) s = .next (s.put
      (let d := (d.bindRefill x).withCommitted x.step.toNat
       let d := (d.putState d.cbuf x.state).modPod (fun p => { p with pins := x.pins.toNat, stateWritten := true })
       let d := d.write (d.tenderAddr (d.fld SVC_TENDER_CFG.TBUF) 0) (x.wardState.take d.wardBytes)
       let d := (d.write (d.tenderAddr 2 0) (x.wardProgram.take d.wardProgram)).setFld SVC_TENDER_CFG.VALID 1
       (((d.raise 0x111B).raise 0x1113).saveRecord).sendMgmt d.manager x.step.toNat .committed))) ∧
    (∀ (f : Die) reported copies, (reported = true ∨ d.stackDue = some f.val) →
      let e := d.report 0xA006
      exec (.stackFailover f copies reported) s = .next (s.put ((if e.openStep.isSome then e.localAbort else e).remapStack f copies))) ∧
    exec .livenessWrite s = .next (s.put (d.withSvc { d.svc with liveness := d.svc.liveness + 1 })) ∧
    (d.svc.switched = false → exec .svcComplexSwitch s = .next (s.put d.complexSwitch)) ∧
    (∀ (x : Die) (ch : Fin 8), flashDies.contains x.val = true → bitOf (d.fld MEM_FLASH_STATUS.CH_FAIL x) ch = false →
      let t := (d.setFld MEM_FLASH_STATUS.CH_FAIL (d.fld MEM_FLASH_STATUS.CH_FAIL x + 2 ^ ch.val) x).raise 0xA012
      exec (.flashChannelFailure x ch) s = .next (s.put (if t.channels < 8 then t.disableFlash else t)))

/-! ## The commands of Dammel: where each completes, and with what effect (R447, R452, R456–R460) -/

/-- DEVICE_INFO, QP_CREATE, QP_DESTROY, GET_STATE and SET_CONFIG (R450, R456) complete with status 0: the device's identity, a queue
pair made or ended, the role and the committed step, a key's value taken and its earlier one answered. -/
def Obligations.SetupCommandsComplete : Prop :=
  ∀ (who : Issuer) (tag : BitVec 32) (b : List Byte) (s : State),
    let d := s.dev
    (∀ out, d.Runs who tag 0x01 b → d.CanSend who out d.deviceInfo.1.length →
      exec (.deviceInfo who tag out) s = .next (s.put
        (((d.withFree (d.free + 1)).emit who tag.toNat d.deviceInfo.1).complete who tag.toNat 0 d.deviceInfo.2.1 d.deviceInfo.2.2))) ∧
    (let q := fieldAt b 0 1
     d.Runs who tag 0x02 b → 0 < q → q < 64 → (∀ i, 1 ≤ i → i ≤ 3 → 4 ≤ fieldAt b i 1 ∧ fieldAt b i 1 ≤ 12) → fieldAt b 1 1 ≤ fieldAt b 2 1 →
      2 ≤ fieldAt b 4 1 → 2 ≤ fieldAt b 5 1 → fieldAt b 6 1 ≠ 0 → fieldAt b 8 8 % 4096 = 0 → fieldAt b 16 8 % 4096 = 0 → fieldAt b 24 8 % 4096 = 0 →
      fieldAt b 34 2 = 0 → d.qp q = none →
      exec (.qpCreate who tag) s = .next (s.put ((d.setQp q
        { logCmd := fieldAt b 1 1, logCpl := fieldAt b 2 1, logEvt := fieldAt b 3 1, cplVec := fieldAt b 4 1, evtVec := fieldAt b 5 1
          coalCount := fieldAt b 6 1, coalTime := fieldAt b 7 1, cmdBase := fieldAt b 8 8, cplBase := fieldAt b 16 8
          evtBase := fieldAt b 24 8, evtMask := fieldAt b 32 2 }).complete who tag.toNat 0 0 0))) ∧
    (d.Runs who tag 0x03 b → fieldAt b 0 1 < 64 → d.qp (fieldAt b 0 1) ≠ none →
      exec (.qpDestroy who tag) s = .next (s.put ((d.destroyQp (fieldAt b 0 1)).complete who tag.toNat 0 0 0))) ∧
    (d.Runs who tag 0x04 b → exec (.getState who tag) s = .next (s.put (d.complete who tag.toNat 0 (d.readReg ⟨.SVC_ROLE, 0, 0⟩)
      (d.committed + (if d.openStep.isSome then 2 ^ 63 else 0) + (if d.pod.armed.isSome then 2 ^ 62 else 0))))) ∧
    (let key := fieldAt b 0 2
     let v := fieldAt b 8 8
     d.Runs who tag 0x05 b → fieldAt b 2 6 = 0 → d.cfgOk key v = true →
      exec (.setConfig who tag) s = .next (s.put (((d.setCfg key v).saveRecord).complete who tag.toNat 0 (d.cfg key) 0)))

/-- POD_FORM, POD_ADMIT, POD_REMOVE and GROUP_PLAN (R379, R382, R395, R397, R533) run: the pod is formed; a device found genuine is to join
at the lowest free rank, its neighbours' ports first; a spare rank leaves at once, an ACTIVE one when a spare can take its seat; the plan is published. -/
def Obligations.PodCommandsComplete : Prop :=
  ∀ (who : Issuer) (tag : BitVec 32) (b : List Byte) (s : State),
    let d := s.dev
    (∀ x : PodIn, d.Runs who tag 0x10 b → x.failed = none → d.badPod x = false →
      (d.seatIn x = x.manager.toNat → (d.admissions x).all (fun e => admitOk e.1.2.deviceId.toNat e.2) = true) →
      exec (.podForm who tag x) s = .next (s.put ((d.formPod x).complete who tag.toNat 0 (d.seatIn x) 0))) ∧
    (∀ (a : AdmitIn) (r : Nat), let dev := fieldAt b 0 8
      d.Runs who tag 0x11 b → d.publishBusy = false → dev ≠ 0 → d.ranks.any (fun e => e.2.deviceId.toNat == dev && e.2.state ≠ 5) = false →
      d.pod.joining.any (fun j => j.entry.deviceId.toNat == dev) = false → admitOk dev a = true →
      (List.range 4096).find? (fun r => d.rankState r == 0 && !d.pod.joining.any (fun j => j.rank == r)) = some r →
      exec (.podAdmit who tag a) s = .next (s.put (
        let e : RankEntry := { deviceId := BitVec.ofNat 64 dev, state := 3, x := a.x, y := a.y }
        let far := ((neighbours (tset {} d.ranks r e) e r).map (·.1)).filter (· ≠ d.rank)
        (((d.addAdmitted dev a).modPod (fun p => { p with
          fence := p.fence.filter (· ≠ dev)
          joining := p.joining ++ [{ rank := r, entry := e, waiting := far, cmd := some (who, tag.toNat) }] })).greetPorts r e).advance))) ∧
    (let r := fieldAt b 0 2
     let how := fieldAt b 2 1
     d.Runs who tag 0x12 b → d.publishBusy = false → r < 4096 → how ≤ 1 → r ≠ d.rank → d.pod.draining.any (fun x => x.1 == r) = false →
      (d.rankState r = 2 → how = 1 → exec (.podRemove who tag) s = .next (s.put (
        let e := d.dropStandby r
        e.publishPod { e.newPod with ranks := withRoles (tset {} e.ranks r {}) e.rank e.standbyRank } [(r, r)] [] (some (who, tag.toNat, 0))))) ∧
      (d.rankState r = 1 → (d.spareFor r).isSome = true → exec (.podRemove who tag) s = .next (s.put
        ((d.modPod (fun p => { p with draining := p.draining ++ [(r, how == 1, some (who, tag.toNat))] })).advance)))) ∧
    (∀ (x : DmaIn) (l : List (Nat × Nat × List Nat)), d.Runs who tag 0x13 b → d.publishBusy = false → x.failed = none →
      parsePlan 256 x.bytes = some l → (l.map (·.1)).Nodup → l.any (fun g => g.2.2.any (fun r => d.rankState r == 0)) = false →
      exec (.groupPlan who tag x) s = .next (s.put (d.takePlan who tag.toNat x.bytes l)))

/-- PROGRAM_LOAD, TENSOR_BIND, TENSOR_WRITE, TENSOR_READ and STATE_INIT (R216, R285, R297, R406, R408, R410, R456, R459, R460): the program
is taken up with its seed; a binding without a conflict is bound and streamed; the bytes of a range are written or read; the state
is written, and streamed where there is a tender. -/
def Obligations.ProgramAndDataCommandsComplete : Prop :=
  ∀ (who : Issuer) (tag : BitVec 32) (b : List Byte) (s : State),
    let d := s.dev
    (∀ x : ProgramIn, d.Runs who tag 0x20 b → x.failed = none → badProgram d x = false →
      let e := ((d.loadProgram x).setSeed (fieldAt b 16 16)).saveRecord
      exec (.programLoad who tag x) s = .next (s.put (e.complete who tag.toNat 0 (low64 e.programHash) 0))) ∧
    (∀ x : BindIn, d.Runs who tag 0x21 b → x.failed = none → d.pod.loaded = true → badRegions x = false →
      x.tables.any (fun e => !d.rangeData e.1 e.2.length) = false → slotConflict x.slots = false → regionsOverlap x = false →
      d.overBudget x = false →
      let e := (d.bind x).streamProgram.saveRecord
      exec (.tensorBind who tag x) s = .next (s.put (e.complete who tag.toNat 0 e.stateBytes e.programBytes))) ∧
    (let a := fieldAt b 16 6
     let n := fieldAt b 22 8
     ∀ x : DmaIn, d.Runs who tag 0x22 b → x.failed = none → n ≤ x.bytes.length → d.protectedRange a n = false → d.writeRun a n = n →
      exec (.tensorWrite who tag x) s = .next (s.put ((d.hostWrite a (x.bytes.take n)).complete who tag.toNat 0 n 0))) ∧
    (let a := fieldAt b 16 6
     let n := fieldAt b 22 8
     let e := (d.sourceRead 2 a n).1
     ∀ out, d.Runs who tag 0x23 b → d.goodRun a n = n → e.CanSend who out n →
      exec (.tensorRead who tag out) s = .next (s.put ((e.emit who tag.toNat (e.bytes a n)).complete who tag.toNat 0 n 0))) ∧
    (∀ x : DmaIn, d.Runs who tag 0x24 b → d.pod.sending = none → d.pod.bound = true → d.committed = 0 → d.armedStep = false →
      d.pod.restoring = none → x.failed = none → d.stateBytes ≤ x.bytes.length →
      let e := d.writeState (x.bytes.take d.stateBytes) 0
      exec (.stateInit who tag x) s = .next (s.put (if e.hasTender then e.modPod (fun p => { p with sending := some (who, tag.toNat) })
        else e.complete who tag.toNat 0 d.stateBytes 0)))

/-- RUN_STEP, ABORT_STEP and INPUT_CONFIRM (R216, R412, R457, R458): a step that may be armed is; an open or armed step whose COMMIT has
not gone out is aborted; lost input counts as written again. -/
def Obligations.StepCommandsComplete : Prop :=
  ∀ (who : Issuer) (tag : BitVec 32) (b : List Byte) (s : State),
    let d := s.dev
    (let n := fieldAt b 0 6
     let micro := fieldAt b 6 2
     let lr := fieldAt b 8 4
     d.Runs who tag 0x30 b → d.armedStep = false → 1 ≤ micro → micro ≤ 256 → 0 < lr → lr < 0x7F800000 → fieldAt b 12 4 = 0 →
      n = d.committed + 1 → d.committed ≠ 2 ^ 48 - 1 → d.pod.loaded = true → d.pod.bound = true → (n = 1 → d.pod.stateWritten = true) →
      exec (.runStep who tag) s = .next (s.put (d.arm who tag.toNat n micro lr))) ∧
    (let n := fieldAt b 0 6
     d.Runs who tag 0x31 b → n = d.committed + 1 → d.pod.committing.map (·.1) ≠ some n → (d.armedStep || d.stepOpen) = true →
      exec (.abortStep who tag) s = .next (s.put ((d.abortPod 0 d.rank false).complete who tag.toNat 0 0 0))) ∧
    (d.Runs who tag 0x32 b → fieldAt b 0 6 = d.committed + 1 →
      exec (.inputConfirm who tag) s = .next (s.put
        ((if d.lostInput.isEmpty then d.withLostInput [] else (d.withLostInput []).tellRepaired).complete who tag.toNat 0 0 0)))

/-- CHECKPOINT, RESTORE, STORE_BLOCKS, EXPORT and EXPORT_RELEASE (R420–R424, R427, R430, R431): the manager's host starts a generation or
a restore; a rank writes its part, pins it, checks it, or takes it up; blocks come from and go to the host. -/
def Obligations.GenerationCommandsComplete : Prop :=
  ∀ (tag : BitVec 32) (b : List Byte) (s : State),
    let d := s.dev
    (∀ q g, d.Runs (.qp q) tag 0x40 b → d.pod.ckptCmd = none → fieldAt b 0 6 = d.committed → fieldAt b 6 4 = d.pod.genNext → d.openStep = none →
      d.pod.holdStart = false → d.atBoundary = true →
      exec (.checkpoint (.qp q) tag g) s = .next (s.put ((d.modPod (fun p => { p with ckptCmd := some (.qp q, tag.toNat) })).startGen))) ∧
    (∀ r q gs,
     let num := fieldAt b 6 4
     d.Runs (.forwarded r q) tag 0x40 b → fieldAt b 0 6 = d.committed → d.openStep = none →
      (d.pod.gens.any (fun g => g.num == num && g.rank == d.rank) = true →
        ∀ good, exec (.checkpoint (.forwarded r q) tag good) s = .next (s.put ((d.pinGen num).complete (.forwarded r q) tag.toNat 0 num 0))) ∧
      (let o := d.sourceReads 4 (d.stateRanges d.cbuf)
      let e := (o.1.withStackHard []).modPod (fun p => { p with hung := [] })
      let state := e.stateOf e.cbuf
      let w := e.wear state.length
      let m := w.manifest num (fieldAt b 0 6) state false
      d.pod.gens.any (fun g => g.num == num && g.rank == d.rank) = false → o.2 = true → e.flashDisabled = false →
        e.makeRoom e.rank state.length = some gs →
        exec (.checkpoint (.forwarded r q) tag true) s = .next (s.put (((w.modPod (fun p => { p with
          gens := gs ++ [{ num := num, step := fieldAt b 0 6, rank := w.rank, state := state, manifest := m }] })).emit (.forwarded r q) tag.toNat
            (hashReport w.fuses.deviceId false m)).complete (.forwarded r q) tag.toNat 0 num 0)))) ∧
    (∀ q f pm, let num := fieldAt b 0 4
     let source := fieldAt b 4 1
     d.Runs (.qp q) tag 0x41 b → source ≤ 1 → d.pod.restoring = none → d.openStep = none →
      d.pod.podManifests.find? (fun m => m.1 == num) = some (num, pm) → fieldAt pm 8 4 = num → d.manifestSigned (fieldAt pm 20 8) pm = true →
      exec (.restore (.qp q) tag f) s = .next (s.put ((((d.setFld SVC_RECOVERY_STATUS.OUTCOME (1 + source)).phase 5).sendRestore
        { cmd := some (.qp q, tag.toNat), num := num, source := source, step := fieldAt pm 12 6, waiting := [] })))) ∧
    (∀ r q f m state,
     let num := fieldAt b 0 4
     d.Runs (.forwarded r q) tag 0x41 b → d.pod.sending = none → d.genSource num (fieldAt b 4 1 % 2) f = some (m, state) →
      d.restoreRow num m state = none → exec (.restore (.forwarded r q) tag f) s = .next (s.put (
        if 2 ≤ fieldAt b 4 1 then (d.emit (.forwarded r q) tag.toNat (sha256 m)).complete (.forwarded r q) tag.toNat 0 num (fieldAt m 12 6)
        else
          let e := (d.activeTiles.foldl (fun d p => d.flush p) d).writeState state (fieldAt m 12 6)
          if e.hasTender then e.modPod (fun p => { p with sending := some (.forwarded r q, tag.toNat) })
          else e.complete (.forwarded r q) tag.toNat 0 num e.committed))) ∧
    (∀ who (x : DmaIn), let num := fieldAt b 16 4
     let block := fieldAt b 20 4
     let n := d.stateBytes
     let need := if block = 0xFFFFFFFF then manifestLen n else Nat.min blockSize (n - block * blockSize)
     d.Runs who tag 0x42 b → (block = 0xFFFFFFFF ∨ block < (n + blockSize - 1) / blockSize) → x.failed = none → need ≤ x.bytes.length →
      exec (.storeBlocks who tag x) s = .next (s.put
        ((d.modPod (fun p => { p with store := keepBlock p.store num block (x.bytes.take need) })).complete who tag.toNat 0 need 0))) ∧
    (∀ who out bs, d.Runs who tag 0x43 b → d.exportItem (fieldAt b 16 4) (fieldAt b 20 4) = .inr bs → d.CanSend who out bs.length →
      exec (.exportGen who tag out) s = .next (s.put ((d.emit who tag.toNat bs).complete who tag.toNat 0 bs.length (crc64 bs)))) ∧
    (∀ who, let num := fieldAt b 0 4
     let e := (d.modPod (fun p => { p with gens := p.gens.map (fun g => if g.num = num then { g with pinned := false } else g) })).setFld
       SVC_CKPT_STATUS.EXPORTING 0
     d.Runs who tag 0x44 b → d.pod.gens.any (fun g => g.num == num && g.pinned) = true →
      exec (.exportRelease who tag) s = .next (s.put ((if byHost who then (e.stepRanks.filter (· ≠ e.rank)).foldl (fun d r =>
        d.forwardCmd innerQp (2 ^ 29 + num) r (innerEntry 0x44 (2 ^ 29 + num) (leBytes 4 num))) e else e).complete who tag.toNat 0 0 0)))

/-- COUNTER_READ, TRACE_READ, SNAPSHOT_READ and TRIGGER (R482–R484, R489, R497, R499): the bytes asked for are sent with their length or
count; a trace is frozen before and rearmed after where the flags say so; a snapshot is released; a trigger fires. -/
def Obligations.ObservationCommandsComplete : Prop :=
  ∀ (who : Issuer) (tag : BitVec 32) (b : List Byte) (s : State),
    let d := s.dev
    (∀ out, let p := fieldAt b 16 1
     let sel := fieldAt b 17 1
     let bs := (if p = 0xFF then (List.range 80).filter d.ungated else [p]).flatMap (fun t => d.cntRegions t sel)
     d.Runs who tag 0x50 b → (p ≤ 79 ∨ p = 0xFF) → sel ≤ 15 → d.CanSend who out bs.length →
      exec (.counterRead who tag out) s = .next (s.put ((d.emit who tag.toNat bs).complete who tag.toNat 0 bs.length 0))) ∧
    (∀ out, let x := fieldAt b 16 1
     let flags := fieldAt b 17 1
     let e := if bitOf flags 0 then d.freezeTrace x else d
     d.Runs who tag 0x51 b → x ≤ 15 → flags ≤ 3 → (d.traceBytes x).length ≤ out.space → e.CanSend who out (e.traceBytes x).length →
      exec (.traceRead who tag out) s = .next (s.put ((if bitOf flags 1 then (e.emit who tag.toNat (e.traceBytes x)).armTrace x
        else e.emit who tag.toNat (e.traceBytes x)).complete who tag.toNat 0 (tget {} e.traces x).recs.length 0))) ∧
    (∀ out, let flags := fieldAt b 16 1
     let e := d.emit who tag.toNat d.snapImage
     d.Runs who tag 0x52 b → flags ≤ 1 → d.CanSend who out d.snapImage.length →
      exec (.snapshotRead who tag out) s = .next (s.put ((if flags = 1 then
        ((e.withTrig { e.trig with image := [] }).setFld SNP_STATUS.HELD 0).setFld SNP_STATUS.HELD_NUM 0 else e).complete who tag.toNat 0
          (if d.flag SNP_STATUS.HELD then d.fld SNP_STATUS.HELD_NUM else 0) 86336))) ∧
    (let capture := fieldAt b 0 1 == 1
     let flags := fieldAt b 1 1
     let e := d.deliver 1 capture none (bitOf flags 1)
     d.Runs who tag 0x53 b → fieldAt b 0 1 ≤ 1 → flags ≤ 3 → fieldAt b 2 6 = 0 → bitOf (d.fld SNP_TRIG_CFG.EN) 0 = true →
      exec (.trigger who tag) s = .next (s.put ((if bitOf flags 0 ∨ e.flag SNP_TRIG_CFG.SEND_POD then e.sendTrigger capture 1 else e).complete
        who tag.toNat 0 (e.fld SNP_STATUS.TRIG_NUM) 0)))

/-- FW_UPDATE, FW_ACTIVATE, ATTEST, CERT_READ, OWNER_ENROL and DEBUG_UNLOCK (R527, R530–R532, R535, R536, R538, R556): an image found valid
is written, or activated at the next boundary; the report is signed over the nonce; an owner is enrolled once; a challenge is drawn,
and a right answer opens the port. The challenge and the certificates are values of the device, which the spec leaves open. -/
def Obligations.SecurityCommandsComplete : Prop :=
  ∀ (who : Issuer) (tag : BitVec 32) (b : List Byte) (s : State),
    let d := s.dev
    (∀ x : DmaIn, let target := fieldAt b 16 1
     let img := x.bytes.take (512 + fieldAt x.bytes 16 4)
     let e := (d.withFree (d.free + 1)).setImage (target == 1) img
     d.Runs who tag 0x60 b → target ≤ 1 → target ≠ d.fld SEC_STATUS.IMAGE → x.failed = none → 512 + fieldAt x.bytes 16 4 ≤ x.bytes.length →
      d.checkImage img = 0 →
      exec (.fwUpdate who tag x true) s = .next (s.put ((if e.svc.svnDeferred then e.svnRule else e).complete who tag.toNat 0 (imgVersion img) 0))) ∧
    (d.Runs who tag 0x61 b → fieldAt b 0 1 ≤ 1 → fieldAt b 0 1 ≠ d.fld SEC_STATUS.IMAGE → d.checkImage (d.bootImage (fieldAt b 0 1 == 1)) = 0 →
      exec (.fwActivate who tag) s = .next (s.put (d.withSvc { d.svc with activating := some (fieldAt b 0 1 == 1, who, tag.toNat) }))) ∧
    (∀ out, let report := d.attestReport (slice b 16 32)
     d.Runs who tag 0x70 b → d.CanSend who out report.length →
      exec (.attest who tag out) s = .next (s.put ((d.emit who tag.toNat report).complete who tag.toNat 0 256 0))) ∧
    (∀ out, let c := Config.certificate (fieldAt b 16 1)
     d.Runs who tag 0x71 b → fieldAt b 16 1 ≤ 2 → d.CanSend who out c.length →
      exec (.certRead who tag out) s = .next (s.put ((d.emit who tag.toNat c).complete who tag.toNat 0 c.length 0))) ∧
    (∀ body, let key := body.take 64
     let h := beNat (sha256 key)
     d.Runs who tag 0x72 b → 128 ≤ body.length → d.fuses.ownerHash = 0 →
      ecdsaVerify (keyOf key) (enrolMsg d.fuses.deviceId key) (slice body 64 64) = true → ownerOk h d.flash.imageA = true →
      ownerOk h d.flash.imageB = true →
      exec (.ownerEnrol who tag body) s = .next (s.put ((((d.withFuses { d.fuses with ownerHash := h }).setFld SEC_STATUS.OWNER_ENROLLED 1).raise
        0xF805).complete who tag.toNat 0 0 0))) ∧
    (let c := (Config.trngChallenge d.free).toNat
     d.Runs who tag 0x73 b → d.fuses.ownerHash ≠ 0 → fieldAt b 0 1 = 0 → fieldAt b 1 1 ≤ 3 → 1 ≤ fieldAt b 2 2 → fieldAt b 2 2 ≤ 1440 →
      (slice b 4 76).all (· == 0) = true →
      ∀ late, exec (.debugUnlock who tag late) s = .next (s.put (((d.withFree (d.free + 1)).withSvc { d.svc with
        challenge := some (c, fieldAt b 1 1, fieldAt b 2 2) }).complete who tag.toNat 0 (c % 2 ^ 64) (c / 2 ^ 64)))) ∧
    (∀ c scope duration, let key := imgOwner d.svc.resident
     d.Runs who tag 0x73 b → d.fuses.ownerHash ≠ 0 → fieldAt b 0 1 = 1 → (slice b 1 15).all (· == 0) = true →
      d.svc.challenge = some (c, scope, duration) → beNat (sha256 key) = d.fuses.ownerHash →
      ecdsaVerify (keyOf key) (unlockMsg d.fuses.deviceId c scope duration) (slice b 16 64) = true →
      exec (.debugUnlock who tag false) s = .next (s.put ((((((d.withSvc { d.svc with challenge := none }).setFld SEC_STATUS.DEBUG_OPEN 1).setFld
        SEC_DEBUG.SCOPE scope).setFld SEC_DEBUG.REMAIN (60 * duration)).raise 0xF806).complete who tag.toNat 0 0 0)))

/-! ## Security, the host link, resets, power and observation: where each command completes, and with what effect -/

/-- The handover, the debug port and boundary scan (R537–R539, R556–R559): an activation whose boundary has come turns to HANDOVER with its
record; the new image resumes, or the old one; an open debug port closes by the end of its time or by CLOSE; EXTEST takes the ports and
the host link off. -/
def Obligations.SecurityEventsAct : Prop :=
  ∀ (s : State),
    let d := s.dev
    (∀ b who tag ok, d.svc.activating = some (b, who, tag) → d.state = 1 → d.handoverDue = true →
      exec (.handover ok) s = .next (s.put (((d.setFld MBX_STATE.STATE 2).fireMsi 0).saveRecord))) ∧
    (∀ b who tag, d.svc.activating = some (b, who, tag) → d.state = 2 →
      exec (.handover true) s = .next (s.put (d.handoverDone b who tag)) ∧
      ∀ c ∈ [Instr.handover false, Instr.pwrHandoverReverted], exec c s = .next (s.put (
        ((((((d.withSvc { d.svc with activating := none }).setMbxState 1).raise 0xF00C).setFld PWR_RESET_CAUSE.REVERTED 1).complete who tag 7
          0xF00C 0).openHeld).advance))) ∧
    (∀ v : BitVec 64, d.flag SEC_STATUS.DEBUG_OPEN = true → SEC_DEBUG.CLOSE.get v.toNat = 1 → ∀ c ∈ [Instr.secDebugClosed, .secDebugClose v],
      exec c s = .next (s.put ((((d.setFld SEC_STATUS.DEBUG_OPEN 0).setFld SEC_DEBUG.SCOPE 0).setFld SEC_DEBUG.REMAIN 0).raise 0xF807))) ∧
    (let e := (List.range 16).foldl Dev.portOff ((d.setFld SEC_STATUS.BSCAN 1).raise 0xF80A)
     exec .extest s = .next (s.put (e.withSvc { e.svc with linkUp := false })))

/-- The host's doorbells and its mailbox (R443–R445, R448, R451, R455, R464, R470, R471): with the link up and the device ready, tails and
heads are taken, a ring of at least its count fires its vector, an unmasked vector fires, a bootstrap command executes, the aperture
reads what it carries, and configuration requests answer; the watchdog restarts. What a configuration register holds is open (log 4). -/
def Obligations.HostLinkCompletes : Prop :=
  ∀ (s : State) (q : Fin 64) (x : QP),
    let d := s.dev
    (∀ (tail : BitVec 32) es, d.hostOff = false → d.qp q = some x → tail.toNat < 2 ^ x.logCmd → d.state = 1 → x.error = false →
      exec (.cmdTail q tail es true) s = .next (s.put ((d.setQp q { x with cmdTail := tail.toNat }).readRing q es))) ∧
    (∀ head : BitVec 32, d.hostOff = false → d.qp q = some x → head.toNat < 2 ^ x.logCpl →
      exec (.cplHead q head) s = .next (s.put (d.setQp q { x with cplRd := freedTo x.cplRd x.cplWr (2 ^ x.logCpl) head.toNat }))) ∧
    (∀ head : BitVec 32, d.hostOff = false → d.qp q = some x → head.toNat < 2 ^ x.logEvt →
      exec (.evtHead q head) s = .next (s.put (d.setQp q { x with evtRd := freedTo x.evtRd x.evtWr (2 ^ x.logEvt) head.toNat }))) ∧
    (d.qp q = some x → x.coalTime ≠ 0 →
      (x.evtUnsig ≠ 0 → exec (.msixCoalesceTimeout q true) s = .next (s.put ((d.setQp q { x with evtUnsig := 0 }).fireMsi x.evtVec))) ∧
      (x.cplUnsig ≠ 0 → exec (.msixCoalesceTimeout q false) s = .next (s.put ((d.setQp q { x with cplUnsig := 0 }).fireMsi x.cplVec)))) ∧
    (∀ v : Fin 256, d.hostOff = false → v.val ∈ d.msixPending → ∃ t, exec (.msixUnmask v) s = .next t ∧
      v.val ∈ t.dev.msixOpen ∧ v.val ∉ t.dev.msixPending ∧ t.dev.msi = v.val :: d.msi) ∧
    (∀ (v : BitVec 32) bs out, d.hostOff = false → d.state = 1 → MBX_BOOT.DOORBELL.get v.toNat = 1 →
      let r : RegId := ⟨.MBX_BOOT, 0, 0⟩
      exec (.mbxBootDoorbell v bs out) s = .next (s.put (((d.setReg r (writeByAccess r true (d.reg r) v.toNat)).withSvc
        { d.svc with inbound := padTo 256 bs }).bootExecute out))) ∧
    (∀ v : BitVec 64, d.hostOff = false → d.state ≠ 0 → ∃ t, exec (.mbxApertureWrite v) s = .next t ∧
      t.dev.fld MBX_APERTURE.BASE = MBX_APERTURE.BASE.get v.toNat) ∧
    (∀ v : BitVec 32, d.hostOff = false → d.state ≠ 0 →
      exec (.mbxHostAliveWrite v) s = .next (s.put (d.withSvc { d.svc with hostAlive := d.svc.hostAlive + 1 }))) ∧
    (∀ (off : BitVec 36) n, let a := d.fld MBX_APERTURE.BASE * 2 ^ 30 + off.toNat
      d.hostOff = false → d.state ≠ 0 → d.lineX = [] → d.wordX = [] → ∃ t, exec (.bar2Read off n) s = .next t ∧
        t.dev.answer = (List.range n).map (fun i => if d.carried (a + i) then d.byte (a + i) else 0)) ∧
    (∀ (off : BitVec 36) (bs : List Byte), let a := d.fld MBX_APERTURE.BASE * 2 ^ 30 + off.toNat
      d.hostOff = false → d.state ≠ 0 → (∀ i, i < bs.length → d.carried (a + i) = true) →
      exec (.bar2Write off bs) s = .next (s.put (((cut64 a bs).foldl Dev.barPiece d).settleHost))) ∧
    (∀ (reg : BitVec 12) w, d.flag SEC_STATUS.BSCAN = false → ∃ t, exec (.configurationRequest reg w) s = .next t ∧ t.dev.svc.linkUp = true ∧
      (w = none → reg.toNat < 4 → t.dev.answer = leBytes 4 0x32001F7E))

/-- Resets and losses of the host link (R441, R465, R552–R555): a function-level reset ends every queue pair and clears the mailbox, the
aperture and the vectors; D3hot and a link down are noted; a host link lost is reported once; a fundamental reset restarts Dammel from
the resident image when that is valid; power-on boots from what a loss of power leaves, and brings the tiles and the ports up; a tile's
reset empties its queue and its unit registers, and then ends. Only power-on clears memory. -/
def Obligations.ResetsAct : Prop :=
  ∀ (s : State),
    let d := s.dev
    (exec .mbxFlr s = .next (s.put ((((d.resetMailbox).closeDebug).setFld PWR_RESET_CAUSE.FLR 1).raise 0xE004)) ∧
      (∀ q, d.resetMailbox.qp q = none) ∧ d.resetMailbox.msixOpen = [] ∧ d.resetMailbox.msixPending = [] ∧
      d.resetMailbox.fld MBX_APERTURE.BASE = 0 ∧ d.resetMailbox.svc.inbound = [] ∧
      ∀ t, exec .mbxFlr s = .next t → t.dev.mem = Memory.canon d.mem ∧ t.dev.committed = d.committed) ∧
    exec .d3hotEntry s = .next (s.put (d.withSvc { d.svc with d3hot := true })) ∧
    exec .pcieLinkDown s = .next (s.put (d.withSvc { d.svc with linkUp := false })) ∧
    (d.flag MBX_STATE.HOST_LOST = false → (d.hostOff = true ∨ d.fld MBX_CTRL.HWD ≠ 0) →
      exec .mbxHostLost s = .next (s.put ((d.raise 0xE001).setFld MBX_STATE.HOST_LOST 1))) ∧
    (d.fundCleared.checkImage d.fundCleared.svc.resident = 0 →
      exec .pwrFundReset s = .next (s.put ((d.fundCleared.setMbxState 1).raise 0xF00D)) ∧
      ∀ t, exec .pwrFundReset s = .next t → t.dev.mem = Memory.canon d.mem) ∧
    (∀ failing, d.power.on = false → d.booted.state ≠ 3 → exec (.powerOn failing) s = .next (s.put (d.booted.broughtUp failing)) ∧
      d.afterPower.mem = [] ∧ d.afterPower.qps = [] ∧ d.afterPower.tiles = [] ∧ d.afterPower.flash = d.flash ∧ d.afterPower.fuses = d.fuses ∧
      d.booted.mem = [] ∧ d.booted.power.on = true) ∧
    (∀ (x : Die) (v : BitVec 32) (k : Fin 5), v.toNat % 32 = 2 ^ k.val → d.tileIdle (5 * x.val + k.val) = true →
      ∃ t, exec (.pwrTileCtrlReset x v) s = .next t ∧ (t.dev.tile (5 * x.val + k.val)).resetting = true ∧
        (t.dev.tile (5 * x.val + k.val)).issue = [] ∧ t.dev.mem = Memory.canon d.mem ∧
        ∀ n ∈ engineRegs, ∀ idx, idx < 4096 → t.dev.reg ⟨n, 5 * x.val + k.val, idx⟩ = n.resetValue (5 * x.val + k.val)) ∧
    (∀ (p : Tile) pass, (d.tile p).resetting = true →
      exec (.pwrTileReset p pass) s = .next (s.put (
        let e := (d.modTile p (fun t => { t with resetting := false })).raise 0xF00A
        (if e.flag PWR_TILE_CTRL.SELFTEST (p / 5) ∧ pass = false then e.markBad p else e).joinTested)))

/-- The power, thermal, input and coolant rules (R543, R545–R548, R551, R560, R568–R571): a cap in range is taken; a sample moves the cap's
step by one where its averages say so, and no source's step is undercut; heat, a low input, coolant and PLLs act as their rules say; a
trip, a leak and a failing input take the rails or the power off. -/
def Obligations.PowerRulesAct : Prop :=
  ∀ (s : State),
    let d := s.dev
    let p := d.power
    (∀ v : BitVec 32, (PWR_CAP.CAP_W.get v.toNat = 0 ∨ (1600 ≤ PWR_CAP.CAP_W.get v.toNat ∧ PWR_CAP.CAP_W.get v.toNat ≤ 3600)) →
      ∃ t, exec (.pwrCapWrite v) s = .next t ∧ t.dev.fld PWR_CAP.CAP_W = PWR_CAP.CAP_W.get v.toNat) ∧
    (∀ watts dv, let all := (watts :: p.watts).take 1000
      let ms := all.take 10
      let ovr := d.powerLimit * ms.length < sumNat ms
      let under := sumNat all * 100 < 95 * d.powerLimit * all.length
      ∃ t, exec (.powerSample watts dv) s = .next t ∧ t.dev.power.watts = all ∧
        t.dev.power.capStep = (if ovr ∧ p.capStep < 4 ∧ 20 ≤ p.since + 1 then p.capStep + 1
          else if ¬ovr ∧ under ∧ 1000 ≤ p.since + 1 ∧ 0 < p.capStep then p.capStep - 1 else p.capStep) ∧
        t.dev.fld PWR_STATUS.STEP = t.dev.power.step) ∧
    (∀ temps, let hot := temps.foldl Nat.max 0
      (temps.take 16).any (fun t => decide (t ≥ 115)) = false →
      ∃ t, exec (.thermalSample temps) s = .next t ∧
        t.dev.power.thermStep = (if 100 ≤ hot then (if p.thermStep < 4 ∧ 20 ≤ p.thermSince + 1 then p.thermStep + 1 else p.thermStep)
          else if hot ≤ 92 ∧ 1000 ≤ p.cool + 1 ∧ 0 < p.thermStep then p.thermStep - 1 else p.thermStep) ∧
        t.dev.fld PWR_STATUS.STEP = t.dev.power.step) ∧
    (p.on = true → ∀ c ∈ [Instr.pwrInputFail, .presentOpen], exec c s = .next (s.put (((d.raise 0xF005).tellManager 0xF005).afterPower))) ∧
    (∀ dv, dv < 460 → p.inputHold = false → exec (.pwrInputLow dv) s = .next (s.put
      ((((d.setFld PWR_STATUS.INPUT_DV dv).modPower (fun p => { p with inputHold := true })).applySteps).raise 0xF003))) ∧
    (∀ dv, 470 < dv → exec (.inputLowRelease dv) s = .next (s.put
      (((d.setFld PWR_STATUS.INPUT_DV (Nat.min dv 65535)).modPower (fun p => { p with inputHold := false })).applySteps))) ∧
    (∀ dv, 600 < dv → p.highSaid = false → exec (.pwrInputHigh dv) s = .next (s.put
      ((((d.setFld PWR_STATUS.INPUT_DV (Nat.min dv 65535)).setFld PWR_STATUS.INPUT_HIGH 1).modPower (fun p => { p with highSaid := true })).raise
        0xF004))) ∧
    (∀ dv, 660 < dv → dv ≤ 800 → exec (.inputOverVoltage dv) s = .next (s.put (d.afterPower.modPower (fun p => { p with cut := true })))) ∧
    (∀ dv, dv ≤ 800 → exec (.inputReversed dv) s = .next (s.put (d.afterPower.modPower (fun p => { p with reversed := true })))) ∧
    (∀ w, exec (.pwrPllUnlock w) s = .next (s.put (match w with
      | .engine x => d.enginePll x
      | .memory f copies => (d.raise 0xF009).stackFails f true copies
      | .service => (d.raise 0xF009).complexSwitch))) ∧
    (∀ x : Coolant, tempOk x.outlet = true → flowOk x.flow = true → ∃ t, exec (.coolantSample x) s = .next t ∧
      t.dev.power.hotFloor = (if 650 ≤ x.outlet ∧ 100 ≤ p.hot65 + 1 then 4 else if 600 ≤ x.outlet ∧ 100 ≤ p.hot60 + 1 then Nat.max p.hotFloor 2
        else if x.outlet ≤ 550 ∧ 1000 ≤ p.hotClear + 1 then 0 else p.hotFloor) ∧
      t.dev.power.flowFloor = (if x.flow < 6400 ∧ 1000 ≤ p.low15 + 1 then 4 else if x.flow < 8800 ∧ 10000 ≤ p.low30 + 1 then Nat.max p.flowFloor 2
        else if 9600 ≤ x.flow ∧ 1000 ≤ p.lowClear + 1 then 0 else p.flowFloor) ∧
      t.dev.fld PWR_STATUS.STEP = t.dev.power.step) ∧
    (p.leakSaid = true → p.rails = true → exec (.pwrLeakOff true) s = .next (s.put (((d.raise 0xF014).tellManager 0xF014).railsOff)))

/-- The trigger's pins, the beacon, the counters' clears, the trace's rearming and the management bus (R480, R485, R489, R492, R495, R576,
R577). -/
def Obligations.ObserversAct : Prop :=
  ∀ (s : State),
    let d := s.dev
    (∀ n : Option Nat, d.flag SNP_STATUS.IN_STUCK = false → d.trig.outDriven = false → (∀ k, n = some k → 2000 < k) →
      exec (.trigInEdge n) s = .next (s.put (d.fire 5))) ∧
    (d.flag SNP_STATUS.IN_STUCK = false → exec .snpTrigInStuck s = .next (s.put ((d.setFld SNP_STATUS.IN_STUCK 1).raise 0xD803))) ∧
    exec .trigInRelease s = .next (s.put (d.setFld SNP_STATUS.IN_STUCK 0)) ∧
    exec .trigOutPulseEnd s = .next (s.put (d.withTrig { d.trig with outDriven := false })) ∧
    (d.flag SNP_STATUS.OUT_FAULT = false → exec .snpTrigOutFault s = .next (s.put
      ((((d.withTrig { d.trig with outDriven := false }).withSvc { d.svc with outEnLow := false }).setFld SNP_STATUS.OUT_FAULT 1).raise 0xD804))) ∧
    (d.fld SNP_TRIG_CFG.BEACON_MS ≠ 0 → exec .beacon s = .next (s.put (d.fire 7))) ∧
    (∀ (x : Die) (v : BitVec 32) (k : Fin 5), bitOf v.toNat k = true → ∃ t, exec (.cntCtrlClear x v) s = .next t ∧
      (t.dev.tile (5 * x.val + k.val)).layers = [] ∧
      ∀ b, b < 6 → (t.dev.block (5 * x.val + k.val) b).cum = {} ∧ (t.dev.block (5 * x.val + k.val) b).cur = (d.block (5 * x.val + k.val) b).cur) ∧
    (∀ (x : Die) (v : BitVec 32), bitOf v.toNat 0 = true → exec (.cntBaseClear x v) s = .next (s.put
      (d.withBaseCnt (d.baseCnt.filter (fun (e : Nat × Nat) => e.1 / 512 ≠ x.val))))) ∧
    (∀ (x : Die) (v : BitVec 32), TRC_CTRL.ARM.get v.toNat = 1 → ∃ t, exec (.trcCtrlArm x v) s = .next t ∧
      tget {} t.dev.traces x = {} ∧ t.dev.fld TRC_STATUS.COUNT x = 0 ∧ t.dev.fld TRC_STATUS.FROZEN x = 0 ∧
      t.dev.fld TRC_STATUS.TRIGGERED x = 0 ∧ t.dev.fld TRC_RSEQ.NEXT x = d.fld TRC_RSEQ.NEXT x ∧
      t.dev.fld TRC_CTRL.MODE x = TRC_CTRL.MODE.get v.toNat) ∧
    (∀ sda scl, (sda || scl) = true → d.svc.smbTries < 3 → exec (.smbusStuck sda scl true) s = .next (s.put (d.smbAttempt sda scl true))) ∧
    (∀ freed, let sda := d.flag SVC_MGMT_STATUS.SDA_STUCK
      let scl := d.flag SVC_MGMT_STATUS.SCL_STUCK
      (sda || scl) = true → exec (.smbusRetry freed) s = .next (s.put (d.smbAttempt sda scl freed)))

/-! ## Rules stated whole -/

/-- Two registers refuse values out of range: PWR_CAP (R560) takes 0, for no cap, and 1,600–3,600 W; SVC_CKPT_CFG keeps its value when
FLASH_MIN would leave 2–60 or KEEP 2–15 (R434). Their places, fields, accesses and reset values are stated with them. -/
def Obligations.ConfigurationWritesOutOfRangeAreIgnored : Prop :=
  RegName.PWR_CAP.place = (.service, 0x1500, 0, 1) ∧ RegName.SVC_CKPT_CFG.place = (.service, 0x1110, 0, 1) ∧
  RegName.PWR_CAP.fields.map (fun f => (f.hi, f.lo, f.acc, f.rst)) = [(15, 0, .rw, 0)] ∧
  RegName.SVC_CKPT_CFG.fields.map (fun f => (f.hi, f.lo, f.acc, f.rst)) = [(31, 24, .rw, 3), (23, 16, .rw, 3), (15, 8, .rw, 60), (7, 0, .rw, 10)] ∧
  (∀ d : Dev, d.powerLimit = if d.fld PWR_CAP.CAP_W = 0 then 3600 else d.fld PWR_CAP.CAP_W) ∧
  ∀ (s : State) (v : BitVec 64),
    let f := v.toNat % 256
    let k := v.toNat / 65536 % 256
    let c := v.toNat % 65536
    (∃ t, exec (.registerWrite ⟨.PWR_CAP, 0, 0⟩ v) s = .next t ∧ exec (.pwrCapWrite (v.truncate 32)) s = .next t ∧
      t.dev.reg ⟨.PWR_CAP, 0, 0⟩ % 65536 = (if c = 0 ∨ (1600 ≤ c ∧ c ≤ 3600) then c else s.dev.reg ⟨.PWR_CAP, 0, 0⟩ % 65536)) ∧
    (∃ t, exec (.registerWrite ⟨.SVC_CKPT_CFG, 0, 0⟩ v) s = .next t ∧ ∀ g ∈ RegName.SVC_CKPT_CFG.fields, t.dev.fld g =
      if f < 2 ∨ 60 < f ∨ k < 2 ∨ 15 < k then s.dev.fld g else g.get v.toNat)

/-- Trace records that are not selected (R490): a record of a KIND whose KINDS bit is 0, or of a tile whose TILES bit is 0, is not
produced, is not counted, and takes no RSEQ value. -/
def Obligations.UnselectedRecordsAreNotProduced : Prop :=
  ∀ (d : Dev) (x kind src : Nat) (tile : Option Nat) (body : List Byte), 1 ≤ kind → kind ≤ TRC_CTRL.KINDS.width →
    (bitOf (d.fld TRC_CTRL.KINDS x) (kind - 1) = false ∨ ∃ t, tile = some t ∧ bitOf (d.fld TRC_CTRL.TILES x) t = false) →
    d.trace x kind tile src body = (d, [])

/-- The vector unit's elementwise operations and functions write nothing but the rows of their result (R250): every cell of memory
outside the cells of DST's rows keeps its byte. -/
def Obligations.VectorResultsStayInTheirRows : Prop :=
  ∀ (p : Tile) (s t : State) (i : Issued) (x : Tensor),
    ∀ c ∈ [((0x01 : Nat), Instr.add p), (0x02, .mul p), (0x03, .fma p), (0x04, .scale p), (0x05, .max p), (0x06, .min p), (0x08, .exp2 p), (0x09, .log2 p),
      (0x0A, .recip p), (0x0B, .rsqrt p), (0x1C, .silu p)],
    s.dev.VecStarts p c.1 i → (s.dev.leaveQueue p i).tensor p i.desc.vDstRef = some x → Memory.wf s.dev.mem = true → exec c.2 s = .next t →
    let e := if x.layout = 3 then 4 else x.fmt.bytes
    ∀ a, (∀ r k, r < i.desc.vRows → k < e * i.desc.vCols → a ≠ cellOf s.dev.failed (x.addr r 0 + k)) →
      Memory.read t.dev.mem a = Memory.read s.dev.mem a
end

