-- ==== Sys2Proof/Laws/State.lean ====
section
/-! SUPPORT. One lemma per field of the device for each named update: an update writes its own field, and what it does not write is
unchanged. `Dev.rest` is what raising an event leaves alone, `Dev.fixed` what hardly any command writes. The proofs are `id rfl`, so that
simp cites the lemma and the kernel need not compare whole devices. -/

namespace Sys2Proof.Machine

/-- The device without what raising an event may write. -/
def Dev.rest (d : Dev) : Dev :=
  { d with regs := [], free := 0, qps := [], hostOut := [], msi := [], msixPending := [], events := [], traces := [], trig := {}
           mgmtOut := [], awaiting := [], mgmtSeq := [] }

/-- The fuses and the map of logical engines. -/
def Dev.fixed (d : Dev) : Fuses × Tbl Nat := (d.fuses, d.engMap)

@[simp] theorem Dev.withRegs_regs (d : Dev) (x : Tbl Nat) : (d.withRegs x).regs = x := id rfl
@[simp] theorem Dev.withMem_mem (d : Dev) (x : List Host.Cell) : (d.withMem x).mem = x := id rfl
@[simp] theorem Dev.withLineX_lineX (d : Dev) (x : Tbl Nat) : (d.withLineX x).lineX = x := id rfl
@[simp] theorem Dev.withWordX_wordX (d : Dev) (x : Tbl Nat) : (d.withWordX x).wordX = x := id rfl
@[simp] theorem Dev.withTiles_tiles (d : Dev) (x : Tbl TileSt) : (d.withTiles x).tiles = x := id rfl
@[simp] theorem Dev.withEngMap_engMap (d : Dev) (x : Tbl Nat) : (d.withEngMap x).engMap = x := id rfl
@[simp] theorem Dev.withFree_free (d : Dev) (x : Nat) : (d.withFree x).free = x := id rfl
@[simp] theorem Dev.withQps_qps (d : Dev) (x : Tbl (Option QP)) : (d.withQps x).qps = x := id rfl
@[simp] theorem Dev.withHostOut_hostOut (d : Dev) (x : List HostWrite) : (d.withHostOut x).hostOut = x := id rfl
@[simp] theorem Dev.withMsi_msi (d : Dev) (x : List Nat) : (d.withMsi x).msi = x := id rfl
@[simp] theorem Dev.withMsixOpen_msixOpen (d : Dev) (x : List Nat) : (d.withMsixOpen x).msixOpen = x := id rfl
@[simp] theorem Dev.withMsixPending_msixPending (d : Dev) (x : List Nat) : (d.withMsixPending x).msixPending = x := id rfl
@[simp] theorem Dev.withEvents_events (d : Dev) (x : List Event) : (d.withEvents x).events = x := id rfl
@[simp] theorem Dev.withTraces_traces (d : Dev) (x : Tbl Trace) : (d.withTraces x).traces = x := id rfl
@[simp] theorem Dev.withTrig_trig (d : Dev) (x : Trig) : (d.withTrig x).trig = x := id rfl
@[simp] theorem Dev.withCommitted_committed (d : Dev) (x : Nat) : (d.withCommitted x).committed = x := id rfl
@[simp] theorem Dev.withOpenStep_openStep (d : Dev) (x : Option Nat) : (d.withOpenStep x).openStep = x := id rfl
@[simp] theorem Dev.withMgmtOut_mgmtOut (d : Dev) (x : List Mgmt) : (d.withMgmtOut x).mgmtOut = x := id rfl
@[simp] theorem Dev.withAwaiting_awaiting (d : Dev) (x : List Mgmt) : (d.withAwaiting x).awaiting = x := id rfl
@[simp] theorem Dev.withMgmtSeq_mgmtSeq (d : Dev) (x : Tbl Nat) : (d.withMgmtSeq x).mgmtSeq = x := id rfl
@[simp] theorem Dev.withRanks_ranks (d : Dev) (x : Tbl RankEntry) : (d.withRanks x).ranks = x := id rfl
@[simp] theorem Dev.withMarks_marks (d : Dev) (x : List Mark) : (d.withMarks x).marks = x := id rfl
@[simp] theorem Dev.withPorts_ports (d : Dev) (x : Tbl Port) : (d.withPorts x).ports = x := id rfl
@[simp] theorem Dev.withStreams_streams (d : Dev) (x : List RxStream) : (d.withStreams x).streams = x := id rfl
@[simp] theorem Dev.withTenderTx_tenderTx (d : Dev) (x : Tbl TenderTx) : (d.withTenderTx x).tenderTx = x := id rfl
@[simp] theorem Dev.withTxAlive_txAlive (d : Dev) (x : Tbl Nat) : (d.withTxAlive x).txAlive = x := id rfl
@[simp] theorem Dev.withRxAlive_rxAlive (d : Dev) (x : Tbl (Option Nat)) : (d.withRxAlive x).rxAlive = x := id rfl
@[simp] theorem Dev.withStaleSaid_staleSaid (d : Dev) (x : List Nat) : (d.withStaleSaid x).staleSaid = x := id rfl
@[simp] theorem Dev.withNoRouteSaid_noRouteSaid (d : Dev) (x : List Nat) : (d.withNoRouteSaid x).noRouteSaid = x := id rfl
@[simp] theorem Dev.withMembers_members (d : Dev) (x : Tbl (List Nat)) : (d.withMembers x).members = x := id rfl
@[simp] theorem Dev.withRegions_regions (d : Dev) (x : List RegionEnt) : (d.withRegions x).regions = x := id rfl
@[simp] theorem Dev.withWardBytes_wardBytes (d : Dev) (x : Nat) : (d.withWardBytes x).wardBytes = x := id rfl
@[simp] theorem Dev.withWardProgram_wardProgram (d : Dev) (x : Nat) : (d.withWardProgram x).wardProgram = x := id rfl
@[simp] theorem Dev.withWardTrailer_wardTrailer (d : Dev) (x : Nat × Nat) : (d.withWardTrailer x).wardTrailer = x := id rfl
@[simp] theorem Dev.withVia_via (d : Dev) (x : Option Nat) : (d.withVia x).via = x := id rfl
@[simp] theorem Dev.withSlips_slips (d : Dev) (x : List Nat) : (d.withSlips x).slips = x := id rfl
@[simp] theorem Dev.withStackDue_stackDue (d : Dev) (x : Option Nat) : (d.withStackDue x).stackDue = x := id rfl
@[simp] theorem Dev.withRowMap_rowMap (d : Dev) (x : Tbl Nat) : (d.withRowMap x).rowMap = x := id rfl
@[simp] theorem Dev.withDivLayer_divLayer (d : Dev) (x : Nat) : (d.withDivLayer x).divLayer = x := id rfl
@[simp] theorem Dev.withMgmtPacked_mgmtPacked (d : Dev) (x : Nat) : (d.withMgmtPacked x).mgmtPacked = x := id rfl
@[simp] theorem Dev.withRowSoft_rowSoft (d : Dev) (x : Tbl Nat) : (d.withRowSoft x).rowSoft = x := id rfl
@[simp] theorem Dev.withBankUsed_bankUsed (d : Dev) (x : Tbl Nat) : (d.withBankUsed x).bankUsed = x := id rfl
@[simp] theorem Dev.withStackHard_stackHard (d : Dev) (x : Tbl Nat) : (d.withStackHard x).stackHard = x := id rfl
@[simp] theorem Dev.withScrubPos_scrubPos (d : Dev) (x : Tbl Nat) : (d.withScrubPos x).scrubPos = x := id rfl
@[simp] theorem Dev.withLost_lost (d : Dev) (x : List Nat) : (d.withLost x).lost = x := id rfl
@[simp] theorem Dev.withLostInput_lostInput (d : Dev) (x : List Nat) : (d.withLostInput x).lostInput = x := id rfl
@[simp] theorem Dev.withProgramCopy_programCopy (d : Dev) (x : List Byte) : (d.withProgramCopy x).programCopy = x := id rfl
@[simp] theorem Dev.withLarWait_larWait (d : Dev) (x : Tbl Nat) : (d.withLarWait x).larWait = x := id rfl
@[simp] theorem Dev.withAnswer_answer (d : Dev) (x : List Byte) : (d.withAnswer x).answer = x := id rfl
@[simp] theorem Dev.withAnswerBad_answerBad (d : Dev) (x : Bool) : (d.withAnswerBad x).answerBad = x := id rfl
@[simp] theorem Dev.withBaseCnt_baseCnt (d : Dev) (x : Tbl Nat) : (d.withBaseCnt x).baseCnt = x := id rfl
@[simp] theorem Dev.withFuses_fuses (d : Dev) (x : Fuses) : (d.withFuses x).fuses = x := id rfl
@[simp] theorem Dev.withFlash_flash (d : Dev) (x : BootFlash) : (d.withFlash x).flash = x := id rfl
@[simp] theorem Dev.withPod_pod (d : Dev) (x : Pod) : (d.withPod x).pod = x := id rfl
@[simp] theorem Dev.withPower_power (d : Dev) (x : Power) : (d.withPower x).power = x := id rfl
@[simp] theorem Dev.withSvc_svc (d : Dev) (x : Service) : (d.withSvc x).svc = x := id rfl
@[simp] theorem Dev.withHandover_handover (d : Dev) (x : Record) : (d.withHandover x).handover = x := id rfl
@[simp] theorem Dev.withMgmtSeen_mgmtSeen (d : Dev) (x : Tbl (List Nat)) : (d.withMgmtSeen x).mgmtSeen = x := id rfl
@[simp] theorem Dev.withPeers_peers (d : Dev) (x : Tbl (Nat × Nat × Bool)) : (d.withPeers x).peers = x := id rfl
@[simp] theorem Dev.withFlashBytes_flashBytes (d : Dev) (x : Nat) : (d.withFlashBytes x).flashBytes = x := id rfl

@[simp] theorem Dev.withRegs_fixed (d : Dev) (x : Tbl Nat) : (d.withRegs x).fixed = d.fixed := id rfl
@[simp] theorem Dev.withMem_fixed (d : Dev) (x : List Host.Cell) : (d.withMem x).fixed = d.fixed := id rfl
@[simp] theorem Dev.withLineX_fixed (d : Dev) (x : Tbl Nat) : (d.withLineX x).fixed = d.fixed := id rfl
@[simp] theorem Dev.withWordX_fixed (d : Dev) (x : Tbl Nat) : (d.withWordX x).fixed = d.fixed := id rfl
@[simp] theorem Dev.withTiles_fixed (d : Dev) (x : Tbl TileSt) : (d.withTiles x).fixed = d.fixed := id rfl
@[simp] theorem Dev.withFree_fixed (d : Dev) (x : Nat) : (d.withFree x).fixed = d.fixed := id rfl
@[simp] theorem Dev.withQps_fixed (d : Dev) (x : Tbl (Option QP)) : (d.withQps x).fixed = d.fixed := id rfl
@[simp] theorem Dev.withHostOut_fixed (d : Dev) (x : List HostWrite) : (d.withHostOut x).fixed = d.fixed := id rfl
@[simp] theorem Dev.withMsi_fixed (d : Dev) (x : List Nat) : (d.withMsi x).fixed = d.fixed := id rfl
@[simp] theorem Dev.withMsixOpen_fixed (d : Dev) (x : List Nat) : (d.withMsixOpen x).fixed = d.fixed := id rfl
@[simp] theorem Dev.withMsixPending_fixed (d : Dev) (x : List Nat) : (d.withMsixPending x).fixed = d.fixed := id rfl
@[simp] theorem Dev.withEvents_fixed (d : Dev) (x : List Event) : (d.withEvents x).fixed = d.fixed := id rfl
@[simp] theorem Dev.withTraces_fixed (d : Dev) (x : Tbl Trace) : (d.withTraces x).fixed = d.fixed := id rfl
@[simp] theorem Dev.withTrig_fixed (d : Dev) (x : Trig) : (d.withTrig x).fixed = d.fixed := id rfl
@[simp] theorem Dev.withCommitted_fixed (d : Dev) (x : Nat) : (d.withCommitted x).fixed = d.fixed := id rfl
@[simp] theorem Dev.withOpenStep_fixed (d : Dev) (x : Option Nat) : (d.withOpenStep x).fixed = d.fixed := id rfl
@[simp] theorem Dev.withMgmtOut_fixed (d : Dev) (x : List Mgmt) : (d.withMgmtOut x).fixed = d.fixed := id rfl
@[simp] theorem Dev.withAwaiting_fixed (d : Dev) (x : List Mgmt) : (d.withAwaiting x).fixed = d.fixed := id rfl
@[simp] theorem Dev.withMgmtSeq_fixed (d : Dev) (x : Tbl Nat) : (d.withMgmtSeq x).fixed = d.fixed := id rfl
@[simp] theorem Dev.withRanks_fixed (d : Dev) (x : Tbl RankEntry) : (d.withRanks x).fixed = d.fixed := id rfl
@[simp] theorem Dev.withMarks_fixed (d : Dev) (x : List Mark) : (d.withMarks x).fixed = d.fixed := id rfl
@[simp] theorem Dev.withPorts_fixed (d : Dev) (x : Tbl Port) : (d.withPorts x).fixed = d.fixed := id rfl
@[simp] theorem Dev.withStreams_fixed (d : Dev) (x : List RxStream) : (d.withStreams x).fixed = d.fixed := id rfl
@[simp] theorem Dev.withTenderTx_fixed (d : Dev) (x : Tbl TenderTx) : (d.withTenderTx x).fixed = d.fixed := id rfl
@[simp] theorem Dev.withTxAlive_fixed (d : Dev) (x : Tbl Nat) : (d.withTxAlive x).fixed = d.fixed := id rfl
@[simp] theorem Dev.withRxAlive_fixed (d : Dev) (x : Tbl (Option Nat)) : (d.withRxAlive x).fixed = d.fixed := id rfl
@[simp] theorem Dev.withStaleSaid_fixed (d : Dev) (x : List Nat) : (d.withStaleSaid x).fixed = d.fixed := id rfl
@[simp] theorem Dev.withNoRouteSaid_fixed (d : Dev) (x : List Nat) : (d.withNoRouteSaid x).fixed = d.fixed := id rfl
@[simp] theorem Dev.withMembers_fixed (d : Dev) (x : Tbl (List Nat)) : (d.withMembers x).fixed = d.fixed := id rfl
@[simp] theorem Dev.withRegions_fixed (d : Dev) (x : List RegionEnt) : (d.withRegions x).fixed = d.fixed := id rfl
@[simp] theorem Dev.withWardBytes_fixed (d : Dev) (x : Nat) : (d.withWardBytes x).fixed = d.fixed := id rfl
@[simp] theorem Dev.withWardProgram_fixed (d : Dev) (x : Nat) : (d.withWardProgram x).fixed = d.fixed := id rfl
@[simp] theorem Dev.withWardTrailer_fixed (d : Dev) (x : Nat × Nat) : (d.withWardTrailer x).fixed = d.fixed := id rfl
@[simp] theorem Dev.withVia_fixed (d : Dev) (x : Option Nat) : (d.withVia x).fixed = d.fixed := id rfl
@[simp] theorem Dev.withSlips_fixed (d : Dev) (x : List Nat) : (d.withSlips x).fixed = d.fixed := id rfl
@[simp] theorem Dev.withStackDue_fixed (d : Dev) (x : Option Nat) : (d.withStackDue x).fixed = d.fixed := id rfl
@[simp] theorem Dev.withRowMap_fixed (d : Dev) (x : Tbl Nat) : (d.withRowMap x).fixed = d.fixed := id rfl
@[simp] theorem Dev.withDivLayer_fixed (d : Dev) (x : Nat) : (d.withDivLayer x).fixed = d.fixed := id rfl
@[simp] theorem Dev.withMgmtPacked_fixed (d : Dev) (x : Nat) : (d.withMgmtPacked x).fixed = d.fixed := id rfl
@[simp] theorem Dev.withRowSoft_fixed (d : Dev) (x : Tbl Nat) : (d.withRowSoft x).fixed = d.fixed := id rfl
@[simp] theorem Dev.withBankUsed_fixed (d : Dev) (x : Tbl Nat) : (d.withBankUsed x).fixed = d.fixed := id rfl
@[simp] theorem Dev.withStackHard_fixed (d : Dev) (x : Tbl Nat) : (d.withStackHard x).fixed = d.fixed := id rfl
@[simp] theorem Dev.withScrubPos_fixed (d : Dev) (x : Tbl Nat) : (d.withScrubPos x).fixed = d.fixed := id rfl
@[simp] theorem Dev.withLost_fixed (d : Dev) (x : List Nat) : (d.withLost x).fixed = d.fixed := id rfl
@[simp] theorem Dev.withLostInput_fixed (d : Dev) (x : List Nat) : (d.withLostInput x).fixed = d.fixed := id rfl
@[simp] theorem Dev.withProgramCopy_fixed (d : Dev) (x : List Byte) : (d.withProgramCopy x).fixed = d.fixed := id rfl
@[simp] theorem Dev.withLarWait_fixed (d : Dev) (x : Tbl Nat) : (d.withLarWait x).fixed = d.fixed := id rfl
@[simp] theorem Dev.withAnswer_fixed (d : Dev) (x : List Byte) : (d.withAnswer x).fixed = d.fixed := id rfl
@[simp] theorem Dev.withAnswerBad_fixed (d : Dev) (x : Bool) : (d.withAnswerBad x).fixed = d.fixed := id rfl
@[simp] theorem Dev.withBaseCnt_fixed (d : Dev) (x : Tbl Nat) : (d.withBaseCnt x).fixed = d.fixed := id rfl
@[simp] theorem Dev.withFlash_fixed (d : Dev) (x : BootFlash) : (d.withFlash x).fixed = d.fixed := id rfl
@[simp] theorem Dev.withPod_fixed (d : Dev) (x : Pod) : (d.withPod x).fixed = d.fixed := id rfl
@[simp] theorem Dev.withPower_fixed (d : Dev) (x : Power) : (d.withPower x).fixed = d.fixed := id rfl
@[simp] theorem Dev.withSvc_fixed (d : Dev) (x : Service) : (d.withSvc x).fixed = d.fixed := id rfl
@[simp] theorem Dev.withHandover_fixed (d : Dev) (x : Record) : (d.withHandover x).fixed = d.fixed := id rfl
@[simp] theorem Dev.withMgmtSeen_fixed (d : Dev) (x : Tbl (List Nat)) : (d.withMgmtSeen x).fixed = d.fixed := id rfl
@[simp] theorem Dev.withPeers_fixed (d : Dev) (x : Tbl (Nat × Nat × Bool)) : (d.withPeers x).fixed = d.fixed := id rfl
@[simp] theorem Dev.withFlashBytes_fixed (d : Dev) (x : Nat) : (d.withFlashBytes x).fixed = d.fixed := id rfl

@[simp] theorem Dev.withRegs_mem (d : Dev) (x : Tbl Nat) : (d.withRegs x).mem = d.mem := id rfl
@[simp] theorem Dev.withLineX_mem (d : Dev) (x : Tbl Nat) : (d.withLineX x).mem = d.mem := id rfl
@[simp] theorem Dev.withWordX_mem (d : Dev) (x : Tbl Nat) : (d.withWordX x).mem = d.mem := id rfl
@[simp] theorem Dev.withTiles_mem (d : Dev) (x : Tbl TileSt) : (d.withTiles x).mem = d.mem := id rfl
@[simp] theorem Dev.withEngMap_mem (d : Dev) (x : Tbl Nat) : (d.withEngMap x).mem = d.mem := id rfl
@[simp] theorem Dev.withFree_mem (d : Dev) (x : Nat) : (d.withFree x).mem = d.mem := id rfl
@[simp] theorem Dev.withQps_mem (d : Dev) (x : Tbl (Option QP)) : (d.withQps x).mem = d.mem := id rfl
@[simp] theorem Dev.withHostOut_mem (d : Dev) (x : List HostWrite) : (d.withHostOut x).mem = d.mem := id rfl
@[simp] theorem Dev.withMsi_mem (d : Dev) (x : List Nat) : (d.withMsi x).mem = d.mem := id rfl
@[simp] theorem Dev.withMsixOpen_mem (d : Dev) (x : List Nat) : (d.withMsixOpen x).mem = d.mem := id rfl
@[simp] theorem Dev.withMsixPending_mem (d : Dev) (x : List Nat) : (d.withMsixPending x).mem = d.mem := id rfl
@[simp] theorem Dev.withEvents_mem (d : Dev) (x : List Event) : (d.withEvents x).mem = d.mem := id rfl
@[simp] theorem Dev.withTraces_mem (d : Dev) (x : Tbl Trace) : (d.withTraces x).mem = d.mem := id rfl
@[simp] theorem Dev.withTrig_mem (d : Dev) (x : Trig) : (d.withTrig x).mem = d.mem := id rfl
@[simp] theorem Dev.withCommitted_mem (d : Dev) (x : Nat) : (d.withCommitted x).mem = d.mem := id rfl
@[simp] theorem Dev.withOpenStep_mem (d : Dev) (x : Option Nat) : (d.withOpenStep x).mem = d.mem := id rfl
@[simp] theorem Dev.withMgmtOut_mem (d : Dev) (x : List Mgmt) : (d.withMgmtOut x).mem = d.mem := id rfl
@[simp] theorem Dev.withAwaiting_mem (d : Dev) (x : List Mgmt) : (d.withAwaiting x).mem = d.mem := id rfl
@[simp] theorem Dev.withMgmtSeq_mem (d : Dev) (x : Tbl Nat) : (d.withMgmtSeq x).mem = d.mem := id rfl
@[simp] theorem Dev.withRanks_mem (d : Dev) (x : Tbl RankEntry) : (d.withRanks x).mem = d.mem := id rfl
@[simp] theorem Dev.withMarks_mem (d : Dev) (x : List Mark) : (d.withMarks x).mem = d.mem := id rfl
@[simp] theorem Dev.withPorts_mem (d : Dev) (x : Tbl Port) : (d.withPorts x).mem = d.mem := id rfl
@[simp] theorem Dev.withStreams_mem (d : Dev) (x : List RxStream) : (d.withStreams x).mem = d.mem := id rfl
@[simp] theorem Dev.withTenderTx_mem (d : Dev) (x : Tbl TenderTx) : (d.withTenderTx x).mem = d.mem := id rfl
@[simp] theorem Dev.withTxAlive_mem (d : Dev) (x : Tbl Nat) : (d.withTxAlive x).mem = d.mem := id rfl
@[simp] theorem Dev.withRxAlive_mem (d : Dev) (x : Tbl (Option Nat)) : (d.withRxAlive x).mem = d.mem := id rfl
@[simp] theorem Dev.withStaleSaid_mem (d : Dev) (x : List Nat) : (d.withStaleSaid x).mem = d.mem := id rfl
@[simp] theorem Dev.withNoRouteSaid_mem (d : Dev) (x : List Nat) : (d.withNoRouteSaid x).mem = d.mem := id rfl
@[simp] theorem Dev.withMembers_mem (d : Dev) (x : Tbl (List Nat)) : (d.withMembers x).mem = d.mem := id rfl
@[simp] theorem Dev.withRegions_mem (d : Dev) (x : List RegionEnt) : (d.withRegions x).mem = d.mem := id rfl
@[simp] theorem Dev.withWardBytes_mem (d : Dev) (x : Nat) : (d.withWardBytes x).mem = d.mem := id rfl
@[simp] theorem Dev.withWardProgram_mem (d : Dev) (x : Nat) : (d.withWardProgram x).mem = d.mem := id rfl
@[simp] theorem Dev.withWardTrailer_mem (d : Dev) (x : Nat × Nat) : (d.withWardTrailer x).mem = d.mem := id rfl
@[simp] theorem Dev.withVia_mem (d : Dev) (x : Option Nat) : (d.withVia x).mem = d.mem := id rfl
@[simp] theorem Dev.withSlips_mem (d : Dev) (x : List Nat) : (d.withSlips x).mem = d.mem := id rfl
@[simp] theorem Dev.withStackDue_mem (d : Dev) (x : Option Nat) : (d.withStackDue x).mem = d.mem := id rfl
@[simp] theorem Dev.withRowMap_mem (d : Dev) (x : Tbl Nat) : (d.withRowMap x).mem = d.mem := id rfl
@[simp] theorem Dev.withDivLayer_mem (d : Dev) (x : Nat) : (d.withDivLayer x).mem = d.mem := id rfl
@[simp] theorem Dev.withMgmtPacked_mem (d : Dev) (x : Nat) : (d.withMgmtPacked x).mem = d.mem := id rfl
@[simp] theorem Dev.withRowSoft_mem (d : Dev) (x : Tbl Nat) : (d.withRowSoft x).mem = d.mem := id rfl
@[simp] theorem Dev.withBankUsed_mem (d : Dev) (x : Tbl Nat) : (d.withBankUsed x).mem = d.mem := id rfl
@[simp] theorem Dev.withStackHard_mem (d : Dev) (x : Tbl Nat) : (d.withStackHard x).mem = d.mem := id rfl
@[simp] theorem Dev.withScrubPos_mem (d : Dev) (x : Tbl Nat) : (d.withScrubPos x).mem = d.mem := id rfl
@[simp] theorem Dev.withLost_mem (d : Dev) (x : List Nat) : (d.withLost x).mem = d.mem := id rfl
@[simp] theorem Dev.withLostInput_mem (d : Dev) (x : List Nat) : (d.withLostInput x).mem = d.mem := id rfl
@[simp] theorem Dev.withProgramCopy_mem (d : Dev) (x : List Byte) : (d.withProgramCopy x).mem = d.mem := id rfl
@[simp] theorem Dev.withLarWait_mem (d : Dev) (x : Tbl Nat) : (d.withLarWait x).mem = d.mem := id rfl
@[simp] theorem Dev.withAnswer_mem (d : Dev) (x : List Byte) : (d.withAnswer x).mem = d.mem := id rfl
@[simp] theorem Dev.withAnswerBad_mem (d : Dev) (x : Bool) : (d.withAnswerBad x).mem = d.mem := id rfl
@[simp] theorem Dev.withBaseCnt_mem (d : Dev) (x : Tbl Nat) : (d.withBaseCnt x).mem = d.mem := id rfl
@[simp] theorem Dev.withFuses_mem (d : Dev) (x : Fuses) : (d.withFuses x).mem = d.mem := id rfl
@[simp] theorem Dev.withFlash_mem (d : Dev) (x : BootFlash) : (d.withFlash x).mem = d.mem := id rfl
@[simp] theorem Dev.withPod_mem (d : Dev) (x : Pod) : (d.withPod x).mem = d.mem := id rfl
@[simp] theorem Dev.withPower_mem (d : Dev) (x : Power) : (d.withPower x).mem = d.mem := id rfl
@[simp] theorem Dev.withSvc_mem (d : Dev) (x : Service) : (d.withSvc x).mem = d.mem := id rfl
@[simp] theorem Dev.withHandover_mem (d : Dev) (x : Record) : (d.withHandover x).mem = d.mem := id rfl
@[simp] theorem Dev.withMgmtSeen_mem (d : Dev) (x : Tbl (List Nat)) : (d.withMgmtSeen x).mem = d.mem := id rfl
@[simp] theorem Dev.withPeers_mem (d : Dev) (x : Tbl (Nat × Nat × Bool)) : (d.withPeers x).mem = d.mem := id rfl
@[simp] theorem Dev.withFlashBytes_mem (d : Dev) (x : Nat) : (d.withFlashBytes x).mem = d.mem := id rfl

@[simp] theorem Dev.withRegs_rest (d : Dev) (x : Tbl Nat) : (d.withRegs x).rest = d.rest := id rfl
@[simp] theorem Dev.withFree_rest (d : Dev) (x : Nat) : (d.withFree x).rest = d.rest := id rfl
@[simp] theorem Dev.withQps_rest (d : Dev) (x : Tbl (Option QP)) : (d.withQps x).rest = d.rest := id rfl
@[simp] theorem Dev.withHostOut_rest (d : Dev) (x : List HostWrite) : (d.withHostOut x).rest = d.rest := id rfl
@[simp] theorem Dev.withMsi_rest (d : Dev) (x : List Nat) : (d.withMsi x).rest = d.rest := id rfl
@[simp] theorem Dev.withMsixPending_rest (d : Dev) (x : List Nat) : (d.withMsixPending x).rest = d.rest := id rfl
@[simp] theorem Dev.withEvents_rest (d : Dev) (x : List Event) : (d.withEvents x).rest = d.rest := id rfl
@[simp] theorem Dev.withTraces_rest (d : Dev) (x : Tbl Trace) : (d.withTraces x).rest = d.rest := id rfl
@[simp] theorem Dev.withTrig_rest (d : Dev) (x : Trig) : (d.withTrig x).rest = d.rest := id rfl
@[simp] theorem Dev.withMgmtOut_rest (d : Dev) (x : List Mgmt) : (d.withMgmtOut x).rest = d.rest := id rfl
@[simp] theorem Dev.withAwaiting_rest (d : Dev) (x : List Mgmt) : (d.withAwaiting x).rest = d.rest := id rfl
@[simp] theorem Dev.withMgmtSeq_rest (d : Dev) (x : Tbl Nat) : (d.withMgmtSeq x).rest = d.rest := id rfl

@[simp] theorem Dev.setReg_fixed (d : Dev) (r : RegId) (v : Nat) : (d.setReg r v).fixed = d.fixed := id rfl
@[simp] theorem Dev.setReg_rest (d : Dev) (r : RegId) (v : Nat) : (d.setReg r v).rest = d.rest := id rfl
@[simp] theorem Dev.setReg_mem (d : Dev) (r : RegId) (v : Nat) : (d.setReg r v).mem = d.mem := id rfl
@[simp] theorem Dev.setReg_lineX (d : Dev) (r : RegId) (v : Nat) : (d.setReg r v).lineX = d.lineX := id rfl
@[simp] theorem Dev.setReg_wordX (d : Dev) (r : RegId) (v : Nat) : (d.setReg r v).wordX = d.wordX := id rfl
@[simp] theorem Dev.setReg_tiles (d : Dev) (r : RegId) (v : Nat) : (d.setReg r v).tiles = d.tiles := id rfl
@[simp] theorem Dev.setReg_engMap (d : Dev) (r : RegId) (v : Nat) : (d.setReg r v).engMap = d.engMap := id rfl
@[simp] theorem Dev.setReg_free (d : Dev) (r : RegId) (v : Nat) : (d.setReg r v).free = d.free := id rfl
@[simp] theorem Dev.setReg_qps (d : Dev) (r : RegId) (v : Nat) : (d.setReg r v).qps = d.qps := id rfl
@[simp] theorem Dev.setReg_hostOut (d : Dev) (r : RegId) (v : Nat) : (d.setReg r v).hostOut = d.hostOut := id rfl
@[simp] theorem Dev.setReg_msi (d : Dev) (r : RegId) (v : Nat) : (d.setReg r v).msi = d.msi := id rfl
@[simp] theorem Dev.setReg_msixOpen (d : Dev) (r : RegId) (v : Nat) : (d.setReg r v).msixOpen = d.msixOpen := id rfl
@[simp] theorem Dev.setReg_msixPending (d : Dev) (r : RegId) (v : Nat) : (d.setReg r v).msixPending = d.msixPending := id rfl
@[simp] theorem Dev.setReg_events (d : Dev) (r : RegId) (v : Nat) : (d.setReg r v).events = d.events := id rfl
@[simp] theorem Dev.setReg_traces (d : Dev) (r : RegId) (v : Nat) : (d.setReg r v).traces = d.traces := id rfl
@[simp] theorem Dev.setReg_trig (d : Dev) (r : RegId) (v : Nat) : (d.setReg r v).trig = d.trig := id rfl
@[simp] theorem Dev.setReg_committed (d : Dev) (r : RegId) (v : Nat) : (d.setReg r v).committed = d.committed := id rfl
@[simp] theorem Dev.setReg_openStep (d : Dev) (r : RegId) (v : Nat) : (d.setReg r v).openStep = d.openStep := id rfl
@[simp] theorem Dev.setReg_mgmtOut (d : Dev) (r : RegId) (v : Nat) : (d.setReg r v).mgmtOut = d.mgmtOut := id rfl
@[simp] theorem Dev.setReg_awaiting (d : Dev) (r : RegId) (v : Nat) : (d.setReg r v).awaiting = d.awaiting := id rfl
@[simp] theorem Dev.setReg_mgmtSeq (d : Dev) (r : RegId) (v : Nat) : (d.setReg r v).mgmtSeq = d.mgmtSeq := id rfl
@[simp] theorem Dev.setReg_ranks (d : Dev) (r : RegId) (v : Nat) : (d.setReg r v).ranks = d.ranks := id rfl
@[simp] theorem Dev.setReg_marks (d : Dev) (r : RegId) (v : Nat) : (d.setReg r v).marks = d.marks := id rfl
@[simp] theorem Dev.setReg_ports (d : Dev) (r : RegId) (v : Nat) : (d.setReg r v).ports = d.ports := id rfl
@[simp] theorem Dev.setReg_streams (d : Dev) (r : RegId) (v : Nat) : (d.setReg r v).streams = d.streams := id rfl
@[simp] theorem Dev.setReg_tenderTx (d : Dev) (r : RegId) (v : Nat) : (d.setReg r v).tenderTx = d.tenderTx := id rfl
@[simp] theorem Dev.setReg_txAlive (d : Dev) (r : RegId) (v : Nat) : (d.setReg r v).txAlive = d.txAlive := id rfl
@[simp] theorem Dev.setReg_rxAlive (d : Dev) (r : RegId) (v : Nat) : (d.setReg r v).rxAlive = d.rxAlive := id rfl
@[simp] theorem Dev.setReg_staleSaid (d : Dev) (r : RegId) (v : Nat) : (d.setReg r v).staleSaid = d.staleSaid := id rfl
@[simp] theorem Dev.setReg_noRouteSaid (d : Dev) (r : RegId) (v : Nat) : (d.setReg r v).noRouteSaid = d.noRouteSaid := id rfl
@[simp] theorem Dev.setReg_members (d : Dev) (r : RegId) (v : Nat) : (d.setReg r v).members = d.members := id rfl
@[simp] theorem Dev.setReg_regions (d : Dev) (r : RegId) (v : Nat) : (d.setReg r v).regions = d.regions := id rfl
@[simp] theorem Dev.setReg_wardBytes (d : Dev) (r : RegId) (v : Nat) : (d.setReg r v).wardBytes = d.wardBytes := id rfl
@[simp] theorem Dev.setReg_wardProgram (d : Dev) (r : RegId) (v : Nat) : (d.setReg r v).wardProgram = d.wardProgram := id rfl
@[simp] theorem Dev.setReg_wardTrailer (d : Dev) (r : RegId) (v : Nat) : (d.setReg r v).wardTrailer = d.wardTrailer := id rfl
@[simp] theorem Dev.setReg_via (d : Dev) (r : RegId) (v : Nat) : (d.setReg r v).via = d.via := id rfl
@[simp] theorem Dev.setReg_slips (d : Dev) (r : RegId) (v : Nat) : (d.setReg r v).slips = d.slips := id rfl
@[simp] theorem Dev.setReg_stackDue (d : Dev) (r : RegId) (v : Nat) : (d.setReg r v).stackDue = d.stackDue := id rfl
@[simp] theorem Dev.setReg_rowMap (d : Dev) (r : RegId) (v : Nat) : (d.setReg r v).rowMap = d.rowMap := id rfl
@[simp] theorem Dev.setReg_divLayer (d : Dev) (r : RegId) (v : Nat) : (d.setReg r v).divLayer = d.divLayer := id rfl
@[simp] theorem Dev.setReg_mgmtPacked (d : Dev) (r : RegId) (v : Nat) : (d.setReg r v).mgmtPacked = d.mgmtPacked := id rfl
@[simp] theorem Dev.setReg_rowSoft (d : Dev) (r : RegId) (v : Nat) : (d.setReg r v).rowSoft = d.rowSoft := id rfl
@[simp] theorem Dev.setReg_bankUsed (d : Dev) (r : RegId) (v : Nat) : (d.setReg r v).bankUsed = d.bankUsed := id rfl
@[simp] theorem Dev.setReg_stackHard (d : Dev) (r : RegId) (v : Nat) : (d.setReg r v).stackHard = d.stackHard := id rfl
@[simp] theorem Dev.setReg_scrubPos (d : Dev) (r : RegId) (v : Nat) : (d.setReg r v).scrubPos = d.scrubPos := id rfl
@[simp] theorem Dev.setReg_lost (d : Dev) (r : RegId) (v : Nat) : (d.setReg r v).lost = d.lost := id rfl
@[simp] theorem Dev.setReg_lostInput (d : Dev) (r : RegId) (v : Nat) : (d.setReg r v).lostInput = d.lostInput := id rfl
@[simp] theorem Dev.setReg_programCopy (d : Dev) (r : RegId) (v : Nat) : (d.setReg r v).programCopy = d.programCopy := id rfl
@[simp] theorem Dev.setReg_larWait (d : Dev) (r : RegId) (v : Nat) : (d.setReg r v).larWait = d.larWait := id rfl
@[simp] theorem Dev.setReg_answer (d : Dev) (r : RegId) (v : Nat) : (d.setReg r v).answer = d.answer := id rfl
@[simp] theorem Dev.setReg_answerBad (d : Dev) (r : RegId) (v : Nat) : (d.setReg r v).answerBad = d.answerBad := id rfl
@[simp] theorem Dev.setReg_baseCnt (d : Dev) (r : RegId) (v : Nat) : (d.setReg r v).baseCnt = d.baseCnt := id rfl
@[simp] theorem Dev.setReg_fuses (d : Dev) (r : RegId) (v : Nat) : (d.setReg r v).fuses = d.fuses := id rfl
@[simp] theorem Dev.setReg_flash (d : Dev) (r : RegId) (v : Nat) : (d.setReg r v).flash = d.flash := id rfl
@[simp] theorem Dev.setReg_pod (d : Dev) (r : RegId) (v : Nat) : (d.setReg r v).pod = d.pod := id rfl
@[simp] theorem Dev.setReg_power (d : Dev) (r : RegId) (v : Nat) : (d.setReg r v).power = d.power := id rfl
@[simp] theorem Dev.setReg_svc (d : Dev) (r : RegId) (v : Nat) : (d.setReg r v).svc = d.svc := id rfl
@[simp] theorem Dev.setReg_handover (d : Dev) (r : RegId) (v : Nat) : (d.setReg r v).handover = d.handover := id rfl
@[simp] theorem Dev.setReg_mgmtSeen (d : Dev) (r : RegId) (v : Nat) : (d.setReg r v).mgmtSeen = d.mgmtSeen := id rfl
@[simp] theorem Dev.setReg_peers (d : Dev) (r : RegId) (v : Nat) : (d.setReg r v).peers = d.peers := id rfl
@[simp] theorem Dev.setReg_flashBytes (d : Dev) (r : RegId) (v : Nat) : (d.setReg r v).flashBytes = d.flashBytes := id rfl

@[simp] theorem Dev.setFld_fixed (d : Dev) (f : Fld) (v i j : Nat) : (d.setFld f v i j).fixed = d.fixed := id rfl
@[simp] theorem Dev.setFld_rest (d : Dev) (f : Fld) (v i j : Nat) : (d.setFld f v i j).rest = d.rest := id rfl
@[simp] theorem Dev.setFld_mem (d : Dev) (f : Fld) (v i j : Nat) : (d.setFld f v i j).mem = d.mem := id rfl
@[simp] theorem Dev.setFld_lineX (d : Dev) (f : Fld) (v i j : Nat) : (d.setFld f v i j).lineX = d.lineX := id rfl
@[simp] theorem Dev.setFld_wordX (d : Dev) (f : Fld) (v i j : Nat) : (d.setFld f v i j).wordX = d.wordX := id rfl
@[simp] theorem Dev.setFld_tiles (d : Dev) (f : Fld) (v i j : Nat) : (d.setFld f v i j).tiles = d.tiles := id rfl
@[simp] theorem Dev.setFld_engMap (d : Dev) (f : Fld) (v i j : Nat) : (d.setFld f v i j).engMap = d.engMap := id rfl
@[simp] theorem Dev.setFld_free (d : Dev) (f : Fld) (v i j : Nat) : (d.setFld f v i j).free = d.free := id rfl
@[simp] theorem Dev.setFld_qps (d : Dev) (f : Fld) (v i j : Nat) : (d.setFld f v i j).qps = d.qps := id rfl
@[simp] theorem Dev.setFld_hostOut (d : Dev) (f : Fld) (v i j : Nat) : (d.setFld f v i j).hostOut = d.hostOut := id rfl
@[simp] theorem Dev.setFld_msi (d : Dev) (f : Fld) (v i j : Nat) : (d.setFld f v i j).msi = d.msi := id rfl
@[simp] theorem Dev.setFld_msixOpen (d : Dev) (f : Fld) (v i j : Nat) : (d.setFld f v i j).msixOpen = d.msixOpen := id rfl
@[simp] theorem Dev.setFld_msixPending (d : Dev) (f : Fld) (v i j : Nat) : (d.setFld f v i j).msixPending = d.msixPending := id rfl
@[simp] theorem Dev.setFld_events (d : Dev) (f : Fld) (v i j : Nat) : (d.setFld f v i j).events = d.events := id rfl
@[simp] theorem Dev.setFld_traces (d : Dev) (f : Fld) (v i j : Nat) : (d.setFld f v i j).traces = d.traces := id rfl
@[simp] theorem Dev.setFld_trig (d : Dev) (f : Fld) (v i j : Nat) : (d.setFld f v i j).trig = d.trig := id rfl
@[simp] theorem Dev.setFld_committed (d : Dev) (f : Fld) (v i j : Nat) : (d.setFld f v i j).committed = d.committed := id rfl
@[simp] theorem Dev.setFld_openStep (d : Dev) (f : Fld) (v i j : Nat) : (d.setFld f v i j).openStep = d.openStep := id rfl
@[simp] theorem Dev.setFld_mgmtOut (d : Dev) (f : Fld) (v i j : Nat) : (d.setFld f v i j).mgmtOut = d.mgmtOut := id rfl
@[simp] theorem Dev.setFld_awaiting (d : Dev) (f : Fld) (v i j : Nat) : (d.setFld f v i j).awaiting = d.awaiting := id rfl
@[simp] theorem Dev.setFld_mgmtSeq (d : Dev) (f : Fld) (v i j : Nat) : (d.setFld f v i j).mgmtSeq = d.mgmtSeq := id rfl
@[simp] theorem Dev.setFld_ranks (d : Dev) (f : Fld) (v i j : Nat) : (d.setFld f v i j).ranks = d.ranks := id rfl
@[simp] theorem Dev.setFld_marks (d : Dev) (f : Fld) (v i j : Nat) : (d.setFld f v i j).marks = d.marks := id rfl
@[simp] theorem Dev.setFld_ports (d : Dev) (f : Fld) (v i j : Nat) : (d.setFld f v i j).ports = d.ports := id rfl
@[simp] theorem Dev.setFld_streams (d : Dev) (f : Fld) (v i j : Nat) : (d.setFld f v i j).streams = d.streams := id rfl
@[simp] theorem Dev.setFld_tenderTx (d : Dev) (f : Fld) (v i j : Nat) : (d.setFld f v i j).tenderTx = d.tenderTx := id rfl
@[simp] theorem Dev.setFld_txAlive (d : Dev) (f : Fld) (v i j : Nat) : (d.setFld f v i j).txAlive = d.txAlive := id rfl
@[simp] theorem Dev.setFld_rxAlive (d : Dev) (f : Fld) (v i j : Nat) : (d.setFld f v i j).rxAlive = d.rxAlive := id rfl
@[simp] theorem Dev.setFld_staleSaid (d : Dev) (f : Fld) (v i j : Nat) : (d.setFld f v i j).staleSaid = d.staleSaid := id rfl
@[simp] theorem Dev.setFld_noRouteSaid (d : Dev) (f : Fld) (v i j : Nat) : (d.setFld f v i j).noRouteSaid = d.noRouteSaid := id rfl
@[simp] theorem Dev.setFld_members (d : Dev) (f : Fld) (v i j : Nat) : (d.setFld f v i j).members = d.members := id rfl
@[simp] theorem Dev.setFld_regions (d : Dev) (f : Fld) (v i j : Nat) : (d.setFld f v i j).regions = d.regions := id rfl
@[simp] theorem Dev.setFld_wardBytes (d : Dev) (f : Fld) (v i j : Nat) : (d.setFld f v i j).wardBytes = d.wardBytes := id rfl
@[simp] theorem Dev.setFld_wardProgram (d : Dev) (f : Fld) (v i j : Nat) : (d.setFld f v i j).wardProgram = d.wardProgram := id rfl
@[simp] theorem Dev.setFld_wardTrailer (d : Dev) (f : Fld) (v i j : Nat) : (d.setFld f v i j).wardTrailer = d.wardTrailer := id rfl
@[simp] theorem Dev.setFld_via (d : Dev) (f : Fld) (v i j : Nat) : (d.setFld f v i j).via = d.via := id rfl
@[simp] theorem Dev.setFld_slips (d : Dev) (f : Fld) (v i j : Nat) : (d.setFld f v i j).slips = d.slips := id rfl
@[simp] theorem Dev.setFld_stackDue (d : Dev) (f : Fld) (v i j : Nat) : (d.setFld f v i j).stackDue = d.stackDue := id rfl
@[simp] theorem Dev.setFld_rowMap (d : Dev) (f : Fld) (v i j : Nat) : (d.setFld f v i j).rowMap = d.rowMap := id rfl
@[simp] theorem Dev.setFld_divLayer (d : Dev) (f : Fld) (v i j : Nat) : (d.setFld f v i j).divLayer = d.divLayer := id rfl
@[simp] theorem Dev.setFld_mgmtPacked (d : Dev) (f : Fld) (v i j : Nat) : (d.setFld f v i j).mgmtPacked = d.mgmtPacked := id rfl
@[simp] theorem Dev.setFld_rowSoft (d : Dev) (f : Fld) (v i j : Nat) : (d.setFld f v i j).rowSoft = d.rowSoft := id rfl
@[simp] theorem Dev.setFld_bankUsed (d : Dev) (f : Fld) (v i j : Nat) : (d.setFld f v i j).bankUsed = d.bankUsed := id rfl
@[simp] theorem Dev.setFld_stackHard (d : Dev) (f : Fld) (v i j : Nat) : (d.setFld f v i j).stackHard = d.stackHard := id rfl
@[simp] theorem Dev.setFld_scrubPos (d : Dev) (f : Fld) (v i j : Nat) : (d.setFld f v i j).scrubPos = d.scrubPos := id rfl
@[simp] theorem Dev.setFld_lost (d : Dev) (f : Fld) (v i j : Nat) : (d.setFld f v i j).lost = d.lost := id rfl
@[simp] theorem Dev.setFld_lostInput (d : Dev) (f : Fld) (v i j : Nat) : (d.setFld f v i j).lostInput = d.lostInput := id rfl
@[simp] theorem Dev.setFld_programCopy (d : Dev) (f : Fld) (v i j : Nat) : (d.setFld f v i j).programCopy = d.programCopy := id rfl
@[simp] theorem Dev.setFld_larWait (d : Dev) (f : Fld) (v i j : Nat) : (d.setFld f v i j).larWait = d.larWait := id rfl
@[simp] theorem Dev.setFld_answer (d : Dev) (f : Fld) (v i j : Nat) : (d.setFld f v i j).answer = d.answer := id rfl
@[simp] theorem Dev.setFld_answerBad (d : Dev) (f : Fld) (v i j : Nat) : (d.setFld f v i j).answerBad = d.answerBad := id rfl
@[simp] theorem Dev.setFld_baseCnt (d : Dev) (f : Fld) (v i j : Nat) : (d.setFld f v i j).baseCnt = d.baseCnt := id rfl
@[simp] theorem Dev.setFld_fuses (d : Dev) (f : Fld) (v i j : Nat) : (d.setFld f v i j).fuses = d.fuses := id rfl
@[simp] theorem Dev.setFld_flash (d : Dev) (f : Fld) (v i j : Nat) : (d.setFld f v i j).flash = d.flash := id rfl
@[simp] theorem Dev.setFld_pod (d : Dev) (f : Fld) (v i j : Nat) : (d.setFld f v i j).pod = d.pod := id rfl
@[simp] theorem Dev.setFld_power (d : Dev) (f : Fld) (v i j : Nat) : (d.setFld f v i j).power = d.power := id rfl
@[simp] theorem Dev.setFld_svc (d : Dev) (f : Fld) (v i j : Nat) : (d.setFld f v i j).svc = d.svc := id rfl
@[simp] theorem Dev.setFld_handover (d : Dev) (f : Fld) (v i j : Nat) : (d.setFld f v i j).handover = d.handover := id rfl
@[simp] theorem Dev.setFld_mgmtSeen (d : Dev) (f : Fld) (v i j : Nat) : (d.setFld f v i j).mgmtSeen = d.mgmtSeen := id rfl
@[simp] theorem Dev.setFld_peers (d : Dev) (f : Fld) (v i j : Nat) : (d.setFld f v i j).peers = d.peers := id rfl
@[simp] theorem Dev.setFld_flashBytes (d : Dev) (f : Fld) (v i j : Nat) : (d.setFld f v i j).flashBytes = d.flashBytes := id rfl

@[simp] theorem Dev.bump_fixed (d : Dev) (f : Fld) (k i j : Nat) : (d.bump f k i j).fixed = d.fixed := id rfl
@[simp] theorem Dev.bump_rest (d : Dev) (f : Fld) (k i j : Nat) : (d.bump f k i j).rest = d.rest := id rfl
@[simp] theorem Dev.bump_mem (d : Dev) (f : Fld) (k i j : Nat) : (d.bump f k i j).mem = d.mem := id rfl
@[simp] theorem Dev.bump_lineX (d : Dev) (f : Fld) (k i j : Nat) : (d.bump f k i j).lineX = d.lineX := id rfl
@[simp] theorem Dev.bump_wordX (d : Dev) (f : Fld) (k i j : Nat) : (d.bump f k i j).wordX = d.wordX := id rfl
@[simp] theorem Dev.bump_tiles (d : Dev) (f : Fld) (k i j : Nat) : (d.bump f k i j).tiles = d.tiles := id rfl
@[simp] theorem Dev.bump_engMap (d : Dev) (f : Fld) (k i j : Nat) : (d.bump f k i j).engMap = d.engMap := id rfl
@[simp] theorem Dev.bump_free (d : Dev) (f : Fld) (k i j : Nat) : (d.bump f k i j).free = d.free := id rfl
@[simp] theorem Dev.bump_qps (d : Dev) (f : Fld) (k i j : Nat) : (d.bump f k i j).qps = d.qps := id rfl
@[simp] theorem Dev.bump_hostOut (d : Dev) (f : Fld) (k i j : Nat) : (d.bump f k i j).hostOut = d.hostOut := id rfl
@[simp] theorem Dev.bump_msi (d : Dev) (f : Fld) (k i j : Nat) : (d.bump f k i j).msi = d.msi := id rfl
@[simp] theorem Dev.bump_msixOpen (d : Dev) (f : Fld) (k i j : Nat) : (d.bump f k i j).msixOpen = d.msixOpen := id rfl
@[simp] theorem Dev.bump_msixPending (d : Dev) (f : Fld) (k i j : Nat) : (d.bump f k i j).msixPending = d.msixPending := id rfl
@[simp] theorem Dev.bump_events (d : Dev) (f : Fld) (k i j : Nat) : (d.bump f k i j).events = d.events := id rfl
@[simp] theorem Dev.bump_traces (d : Dev) (f : Fld) (k i j : Nat) : (d.bump f k i j).traces = d.traces := id rfl
@[simp] theorem Dev.bump_trig (d : Dev) (f : Fld) (k i j : Nat) : (d.bump f k i j).trig = d.trig := id rfl
@[simp] theorem Dev.bump_committed (d : Dev) (f : Fld) (k i j : Nat) : (d.bump f k i j).committed = d.committed := id rfl
@[simp] theorem Dev.bump_openStep (d : Dev) (f : Fld) (k i j : Nat) : (d.bump f k i j).openStep = d.openStep := id rfl
@[simp] theorem Dev.bump_mgmtOut (d : Dev) (f : Fld) (k i j : Nat) : (d.bump f k i j).mgmtOut = d.mgmtOut := id rfl
@[simp] theorem Dev.bump_awaiting (d : Dev) (f : Fld) (k i j : Nat) : (d.bump f k i j).awaiting = d.awaiting := id rfl
@[simp] theorem Dev.bump_mgmtSeq (d : Dev) (f : Fld) (k i j : Nat) : (d.bump f k i j).mgmtSeq = d.mgmtSeq := id rfl
@[simp] theorem Dev.bump_ranks (d : Dev) (f : Fld) (k i j : Nat) : (d.bump f k i j).ranks = d.ranks := id rfl
@[simp] theorem Dev.bump_marks (d : Dev) (f : Fld) (k i j : Nat) : (d.bump f k i j).marks = d.marks := id rfl
@[simp] theorem Dev.bump_ports (d : Dev) (f : Fld) (k i j : Nat) : (d.bump f k i j).ports = d.ports := id rfl
@[simp] theorem Dev.bump_streams (d : Dev) (f : Fld) (k i j : Nat) : (d.bump f k i j).streams = d.streams := id rfl
@[simp] theorem Dev.bump_tenderTx (d : Dev) (f : Fld) (k i j : Nat) : (d.bump f k i j).tenderTx = d.tenderTx := id rfl
@[simp] theorem Dev.bump_txAlive (d : Dev) (f : Fld) (k i j : Nat) : (d.bump f k i j).txAlive = d.txAlive := id rfl
@[simp] theorem Dev.bump_rxAlive (d : Dev) (f : Fld) (k i j : Nat) : (d.bump f k i j).rxAlive = d.rxAlive := id rfl
@[simp] theorem Dev.bump_staleSaid (d : Dev) (f : Fld) (k i j : Nat) : (d.bump f k i j).staleSaid = d.staleSaid := id rfl
@[simp] theorem Dev.bump_noRouteSaid (d : Dev) (f : Fld) (k i j : Nat) : (d.bump f k i j).noRouteSaid = d.noRouteSaid := id rfl
@[simp] theorem Dev.bump_members (d : Dev) (f : Fld) (k i j : Nat) : (d.bump f k i j).members = d.members := id rfl
@[simp] theorem Dev.bump_regions (d : Dev) (f : Fld) (k i j : Nat) : (d.bump f k i j).regions = d.regions := id rfl
@[simp] theorem Dev.bump_wardBytes (d : Dev) (f : Fld) (k i j : Nat) : (d.bump f k i j).wardBytes = d.wardBytes := id rfl
@[simp] theorem Dev.bump_wardProgram (d : Dev) (f : Fld) (k i j : Nat) : (d.bump f k i j).wardProgram = d.wardProgram := id rfl
@[simp] theorem Dev.bump_wardTrailer (d : Dev) (f : Fld) (k i j : Nat) : (d.bump f k i j).wardTrailer = d.wardTrailer := id rfl
@[simp] theorem Dev.bump_via (d : Dev) (f : Fld) (k i j : Nat) : (d.bump f k i j).via = d.via := id rfl
@[simp] theorem Dev.bump_slips (d : Dev) (f : Fld) (k i j : Nat) : (d.bump f k i j).slips = d.slips := id rfl
@[simp] theorem Dev.bump_stackDue (d : Dev) (f : Fld) (k i j : Nat) : (d.bump f k i j).stackDue = d.stackDue := id rfl
@[simp] theorem Dev.bump_rowMap (d : Dev) (f : Fld) (k i j : Nat) : (d.bump f k i j).rowMap = d.rowMap := id rfl
@[simp] theorem Dev.bump_divLayer (d : Dev) (f : Fld) (k i j : Nat) : (d.bump f k i j).divLayer = d.divLayer := id rfl
@[simp] theorem Dev.bump_mgmtPacked (d : Dev) (f : Fld) (k i j : Nat) : (d.bump f k i j).mgmtPacked = d.mgmtPacked := id rfl
@[simp] theorem Dev.bump_rowSoft (d : Dev) (f : Fld) (k i j : Nat) : (d.bump f k i j).rowSoft = d.rowSoft := id rfl
@[simp] theorem Dev.bump_bankUsed (d : Dev) (f : Fld) (k i j : Nat) : (d.bump f k i j).bankUsed = d.bankUsed := id rfl
@[simp] theorem Dev.bump_stackHard (d : Dev) (f : Fld) (k i j : Nat) : (d.bump f k i j).stackHard = d.stackHard := id rfl
@[simp] theorem Dev.bump_scrubPos (d : Dev) (f : Fld) (k i j : Nat) : (d.bump f k i j).scrubPos = d.scrubPos := id rfl
@[simp] theorem Dev.bump_lost (d : Dev) (f : Fld) (k i j : Nat) : (d.bump f k i j).lost = d.lost := id rfl
@[simp] theorem Dev.bump_lostInput (d : Dev) (f : Fld) (k i j : Nat) : (d.bump f k i j).lostInput = d.lostInput := id rfl
@[simp] theorem Dev.bump_programCopy (d : Dev) (f : Fld) (k i j : Nat) : (d.bump f k i j).programCopy = d.programCopy := id rfl
@[simp] theorem Dev.bump_larWait (d : Dev) (f : Fld) (k i j : Nat) : (d.bump f k i j).larWait = d.larWait := id rfl
@[simp] theorem Dev.bump_answer (d : Dev) (f : Fld) (k i j : Nat) : (d.bump f k i j).answer = d.answer := id rfl
@[simp] theorem Dev.bump_answerBad (d : Dev) (f : Fld) (k i j : Nat) : (d.bump f k i j).answerBad = d.answerBad := id rfl
@[simp] theorem Dev.bump_baseCnt (d : Dev) (f : Fld) (k i j : Nat) : (d.bump f k i j).baseCnt = d.baseCnt := id rfl
@[simp] theorem Dev.bump_fuses (d : Dev) (f : Fld) (k i j : Nat) : (d.bump f k i j).fuses = d.fuses := id rfl
@[simp] theorem Dev.bump_flash (d : Dev) (f : Fld) (k i j : Nat) : (d.bump f k i j).flash = d.flash := id rfl
@[simp] theorem Dev.bump_pod (d : Dev) (f : Fld) (k i j : Nat) : (d.bump f k i j).pod = d.pod := id rfl
@[simp] theorem Dev.bump_power (d : Dev) (f : Fld) (k i j : Nat) : (d.bump f k i j).power = d.power := id rfl
@[simp] theorem Dev.bump_svc (d : Dev) (f : Fld) (k i j : Nat) : (d.bump f k i j).svc = d.svc := id rfl
@[simp] theorem Dev.bump_handover (d : Dev) (f : Fld) (k i j : Nat) : (d.bump f k i j).handover = d.handover := id rfl
@[simp] theorem Dev.bump_mgmtSeen (d : Dev) (f : Fld) (k i j : Nat) : (d.bump f k i j).mgmtSeen = d.mgmtSeen := id rfl
@[simp] theorem Dev.bump_peers (d : Dev) (f : Fld) (k i j : Nat) : (d.bump f k i j).peers = d.peers := id rfl
@[simp] theorem Dev.bump_flashBytes (d : Dev) (f : Fld) (k i j : Nat) : (d.bump f k i j).flashBytes = d.flashBytes := id rfl

@[simp] theorem Dev.setTile_fixed (d : Dev) (p : Nat) (t : TileSt) : (d.setTile p t).fixed = d.fixed := id rfl
@[simp] theorem Dev.setTile_regs (d : Dev) (p : Nat) (t : TileSt) : (d.setTile p t).regs = d.regs := id rfl
@[simp] theorem Dev.setTile_mem (d : Dev) (p : Nat) (t : TileSt) : (d.setTile p t).mem = d.mem := id rfl
@[simp] theorem Dev.setTile_lineX (d : Dev) (p : Nat) (t : TileSt) : (d.setTile p t).lineX = d.lineX := id rfl
@[simp] theorem Dev.setTile_wordX (d : Dev) (p : Nat) (t : TileSt) : (d.setTile p t).wordX = d.wordX := id rfl
@[simp] theorem Dev.setTile_engMap (d : Dev) (p : Nat) (t : TileSt) : (d.setTile p t).engMap = d.engMap := id rfl
@[simp] theorem Dev.setTile_free (d : Dev) (p : Nat) (t : TileSt) : (d.setTile p t).free = d.free := id rfl
@[simp] theorem Dev.setTile_qps (d : Dev) (p : Nat) (t : TileSt) : (d.setTile p t).qps = d.qps := id rfl
@[simp] theorem Dev.setTile_hostOut (d : Dev) (p : Nat) (t : TileSt) : (d.setTile p t).hostOut = d.hostOut := id rfl
@[simp] theorem Dev.setTile_msi (d : Dev) (p : Nat) (t : TileSt) : (d.setTile p t).msi = d.msi := id rfl
@[simp] theorem Dev.setTile_msixOpen (d : Dev) (p : Nat) (t : TileSt) : (d.setTile p t).msixOpen = d.msixOpen := id rfl
@[simp] theorem Dev.setTile_msixPending (d : Dev) (p : Nat) (t : TileSt) : (d.setTile p t).msixPending = d.msixPending := id rfl
@[simp] theorem Dev.setTile_events (d : Dev) (p : Nat) (t : TileSt) : (d.setTile p t).events = d.events := id rfl
@[simp] theorem Dev.setTile_traces (d : Dev) (p : Nat) (t : TileSt) : (d.setTile p t).traces = d.traces := id rfl
@[simp] theorem Dev.setTile_trig (d : Dev) (p : Nat) (t : TileSt) : (d.setTile p t).trig = d.trig := id rfl
@[simp] theorem Dev.setTile_committed (d : Dev) (p : Nat) (t : TileSt) : (d.setTile p t).committed = d.committed := id rfl
@[simp] theorem Dev.setTile_openStep (d : Dev) (p : Nat) (t : TileSt) : (d.setTile p t).openStep = d.openStep := id rfl
@[simp] theorem Dev.setTile_mgmtOut (d : Dev) (p : Nat) (t : TileSt) : (d.setTile p t).mgmtOut = d.mgmtOut := id rfl
@[simp] theorem Dev.setTile_awaiting (d : Dev) (p : Nat) (t : TileSt) : (d.setTile p t).awaiting = d.awaiting := id rfl
@[simp] theorem Dev.setTile_mgmtSeq (d : Dev) (p : Nat) (t : TileSt) : (d.setTile p t).mgmtSeq = d.mgmtSeq := id rfl
@[simp] theorem Dev.setTile_ranks (d : Dev) (p : Nat) (t : TileSt) : (d.setTile p t).ranks = d.ranks := id rfl
@[simp] theorem Dev.setTile_marks (d : Dev) (p : Nat) (t : TileSt) : (d.setTile p t).marks = d.marks := id rfl
@[simp] theorem Dev.setTile_ports (d : Dev) (p : Nat) (t : TileSt) : (d.setTile p t).ports = d.ports := id rfl
@[simp] theorem Dev.setTile_streams (d : Dev) (p : Nat) (t : TileSt) : (d.setTile p t).streams = d.streams := id rfl
@[simp] theorem Dev.setTile_tenderTx (d : Dev) (p : Nat) (t : TileSt) : (d.setTile p t).tenderTx = d.tenderTx := id rfl
@[simp] theorem Dev.setTile_txAlive (d : Dev) (p : Nat) (t : TileSt) : (d.setTile p t).txAlive = d.txAlive := id rfl
@[simp] theorem Dev.setTile_rxAlive (d : Dev) (p : Nat) (t : TileSt) : (d.setTile p t).rxAlive = d.rxAlive := id rfl
@[simp] theorem Dev.setTile_staleSaid (d : Dev) (p : Nat) (t : TileSt) : (d.setTile p t).staleSaid = d.staleSaid := id rfl
@[simp] theorem Dev.setTile_noRouteSaid (d : Dev) (p : Nat) (t : TileSt) : (d.setTile p t).noRouteSaid = d.noRouteSaid := id rfl
@[simp] theorem Dev.setTile_members (d : Dev) (p : Nat) (t : TileSt) : (d.setTile p t).members = d.members := id rfl
@[simp] theorem Dev.setTile_regions (d : Dev) (p : Nat) (t : TileSt) : (d.setTile p t).regions = d.regions := id rfl
@[simp] theorem Dev.setTile_wardBytes (d : Dev) (p : Nat) (t : TileSt) : (d.setTile p t).wardBytes = d.wardBytes := id rfl
@[simp] theorem Dev.setTile_wardProgram (d : Dev) (p : Nat) (t : TileSt) : (d.setTile p t).wardProgram = d.wardProgram := id rfl
@[simp] theorem Dev.setTile_wardTrailer (d : Dev) (p : Nat) (t : TileSt) : (d.setTile p t).wardTrailer = d.wardTrailer := id rfl
@[simp] theorem Dev.setTile_via (d : Dev) (p : Nat) (t : TileSt) : (d.setTile p t).via = d.via := id rfl
@[simp] theorem Dev.setTile_slips (d : Dev) (p : Nat) (t : TileSt) : (d.setTile p t).slips = d.slips := id rfl
@[simp] theorem Dev.setTile_stackDue (d : Dev) (p : Nat) (t : TileSt) : (d.setTile p t).stackDue = d.stackDue := id rfl
@[simp] theorem Dev.setTile_rowMap (d : Dev) (p : Nat) (t : TileSt) : (d.setTile p t).rowMap = d.rowMap := id rfl
@[simp] theorem Dev.setTile_divLayer (d : Dev) (p : Nat) (t : TileSt) : (d.setTile p t).divLayer = d.divLayer := id rfl
@[simp] theorem Dev.setTile_mgmtPacked (d : Dev) (p : Nat) (t : TileSt) : (d.setTile p t).mgmtPacked = d.mgmtPacked := id rfl
@[simp] theorem Dev.setTile_rowSoft (d : Dev) (p : Nat) (t : TileSt) : (d.setTile p t).rowSoft = d.rowSoft := id rfl
@[simp] theorem Dev.setTile_bankUsed (d : Dev) (p : Nat) (t : TileSt) : (d.setTile p t).bankUsed = d.bankUsed := id rfl
@[simp] theorem Dev.setTile_stackHard (d : Dev) (p : Nat) (t : TileSt) : (d.setTile p t).stackHard = d.stackHard := id rfl
@[simp] theorem Dev.setTile_scrubPos (d : Dev) (p : Nat) (t : TileSt) : (d.setTile p t).scrubPos = d.scrubPos := id rfl
@[simp] theorem Dev.setTile_lost (d : Dev) (p : Nat) (t : TileSt) : (d.setTile p t).lost = d.lost := id rfl
@[simp] theorem Dev.setTile_lostInput (d : Dev) (p : Nat) (t : TileSt) : (d.setTile p t).lostInput = d.lostInput := id rfl
@[simp] theorem Dev.setTile_programCopy (d : Dev) (p : Nat) (t : TileSt) : (d.setTile p t).programCopy = d.programCopy := id rfl
@[simp] theorem Dev.setTile_larWait (d : Dev) (p : Nat) (t : TileSt) : (d.setTile p t).larWait = d.larWait := id rfl
@[simp] theorem Dev.setTile_answer (d : Dev) (p : Nat) (t : TileSt) : (d.setTile p t).answer = d.answer := id rfl
@[simp] theorem Dev.setTile_answerBad (d : Dev) (p : Nat) (t : TileSt) : (d.setTile p t).answerBad = d.answerBad := id rfl
@[simp] theorem Dev.setTile_baseCnt (d : Dev) (p : Nat) (t : TileSt) : (d.setTile p t).baseCnt = d.baseCnt := id rfl
@[simp] theorem Dev.setTile_fuses (d : Dev) (p : Nat) (t : TileSt) : (d.setTile p t).fuses = d.fuses := id rfl
@[simp] theorem Dev.setTile_flash (d : Dev) (p : Nat) (t : TileSt) : (d.setTile p t).flash = d.flash := id rfl
@[simp] theorem Dev.setTile_pod (d : Dev) (p : Nat) (t : TileSt) : (d.setTile p t).pod = d.pod := id rfl
@[simp] theorem Dev.setTile_power (d : Dev) (p : Nat) (t : TileSt) : (d.setTile p t).power = d.power := id rfl
@[simp] theorem Dev.setTile_svc (d : Dev) (p : Nat) (t : TileSt) : (d.setTile p t).svc = d.svc := id rfl
@[simp] theorem Dev.setTile_handover (d : Dev) (p : Nat) (t : TileSt) : (d.setTile p t).handover = d.handover := id rfl
@[simp] theorem Dev.setTile_mgmtSeen (d : Dev) (p : Nat) (t : TileSt) : (d.setTile p t).mgmtSeen = d.mgmtSeen := id rfl
@[simp] theorem Dev.setTile_peers (d : Dev) (p : Nat) (t : TileSt) : (d.setTile p t).peers = d.peers := id rfl
@[simp] theorem Dev.setTile_flashBytes (d : Dev) (p : Nat) (t : TileSt) : (d.setTile p t).flashBytes = d.flashBytes := id rfl

@[simp] theorem Dev.modTile_fixed (d : Dev) (p : Nat) (f : TileSt → TileSt) : (d.modTile p f).fixed = d.fixed := id rfl
@[simp] theorem Dev.modTile_regs (d : Dev) (p : Nat) (f : TileSt → TileSt) : (d.modTile p f).regs = d.regs := id rfl
@[simp] theorem Dev.modTile_mem (d : Dev) (p : Nat) (f : TileSt → TileSt) : (d.modTile p f).mem = d.mem := id rfl
@[simp] theorem Dev.modTile_lineX (d : Dev) (p : Nat) (f : TileSt → TileSt) : (d.modTile p f).lineX = d.lineX := id rfl
@[simp] theorem Dev.modTile_wordX (d : Dev) (p : Nat) (f : TileSt → TileSt) : (d.modTile p f).wordX = d.wordX := id rfl
@[simp] theorem Dev.modTile_engMap (d : Dev) (p : Nat) (f : TileSt → TileSt) : (d.modTile p f).engMap = d.engMap := id rfl
@[simp] theorem Dev.modTile_free (d : Dev) (p : Nat) (f : TileSt → TileSt) : (d.modTile p f).free = d.free := id rfl
@[simp] theorem Dev.modTile_qps (d : Dev) (p : Nat) (f : TileSt → TileSt) : (d.modTile p f).qps = d.qps := id rfl
@[simp] theorem Dev.modTile_hostOut (d : Dev) (p : Nat) (f : TileSt → TileSt) : (d.modTile p f).hostOut = d.hostOut := id rfl
@[simp] theorem Dev.modTile_msi (d : Dev) (p : Nat) (f : TileSt → TileSt) : (d.modTile p f).msi = d.msi := id rfl
@[simp] theorem Dev.modTile_msixOpen (d : Dev) (p : Nat) (f : TileSt → TileSt) : (d.modTile p f).msixOpen = d.msixOpen := id rfl
@[simp] theorem Dev.modTile_msixPending (d : Dev) (p : Nat) (f : TileSt → TileSt) : (d.modTile p f).msixPending = d.msixPending := id rfl
@[simp] theorem Dev.modTile_events (d : Dev) (p : Nat) (f : TileSt → TileSt) : (d.modTile p f).events = d.events := id rfl
@[simp] theorem Dev.modTile_traces (d : Dev) (p : Nat) (f : TileSt → TileSt) : (d.modTile p f).traces = d.traces := id rfl
@[simp] theorem Dev.modTile_trig (d : Dev) (p : Nat) (f : TileSt → TileSt) : (d.modTile p f).trig = d.trig := id rfl
@[simp] theorem Dev.modTile_committed (d : Dev) (p : Nat) (f : TileSt → TileSt) : (d.modTile p f).committed = d.committed := id rfl
@[simp] theorem Dev.modTile_openStep (d : Dev) (p : Nat) (f : TileSt → TileSt) : (d.modTile p f).openStep = d.openStep := id rfl
@[simp] theorem Dev.modTile_mgmtOut (d : Dev) (p : Nat) (f : TileSt → TileSt) : (d.modTile p f).mgmtOut = d.mgmtOut := id rfl
@[simp] theorem Dev.modTile_awaiting (d : Dev) (p : Nat) (f : TileSt → TileSt) : (d.modTile p f).awaiting = d.awaiting := id rfl
@[simp] theorem Dev.modTile_mgmtSeq (d : Dev) (p : Nat) (f : TileSt → TileSt) : (d.modTile p f).mgmtSeq = d.mgmtSeq := id rfl
@[simp] theorem Dev.modTile_ranks (d : Dev) (p : Nat) (f : TileSt → TileSt) : (d.modTile p f).ranks = d.ranks := id rfl
@[simp] theorem Dev.modTile_marks (d : Dev) (p : Nat) (f : TileSt → TileSt) : (d.modTile p f).marks = d.marks := id rfl
@[simp] theorem Dev.modTile_ports (d : Dev) (p : Nat) (f : TileSt → TileSt) : (d.modTile p f).ports = d.ports := id rfl
@[simp] theorem Dev.modTile_streams (d : Dev) (p : Nat) (f : TileSt → TileSt) : (d.modTile p f).streams = d.streams := id rfl
@[simp] theorem Dev.modTile_tenderTx (d : Dev) (p : Nat) (f : TileSt → TileSt) : (d.modTile p f).tenderTx = d.tenderTx := id rfl
@[simp] theorem Dev.modTile_txAlive (d : Dev) (p : Nat) (f : TileSt → TileSt) : (d.modTile p f).txAlive = d.txAlive := id rfl
@[simp] theorem Dev.modTile_rxAlive (d : Dev) (p : Nat) (f : TileSt → TileSt) : (d.modTile p f).rxAlive = d.rxAlive := id rfl
@[simp] theorem Dev.modTile_staleSaid (d : Dev) (p : Nat) (f : TileSt → TileSt) : (d.modTile p f).staleSaid = d.staleSaid := id rfl
@[simp] theorem Dev.modTile_noRouteSaid (d : Dev) (p : Nat) (f : TileSt → TileSt) : (d.modTile p f).noRouteSaid = d.noRouteSaid := id rfl
@[simp] theorem Dev.modTile_members (d : Dev) (p : Nat) (f : TileSt → TileSt) : (d.modTile p f).members = d.members := id rfl
@[simp] theorem Dev.modTile_regions (d : Dev) (p : Nat) (f : TileSt → TileSt) : (d.modTile p f).regions = d.regions := id rfl
@[simp] theorem Dev.modTile_wardBytes (d : Dev) (p : Nat) (f : TileSt → TileSt) : (d.modTile p f).wardBytes = d.wardBytes := id rfl
@[simp] theorem Dev.modTile_wardProgram (d : Dev) (p : Nat) (f : TileSt → TileSt) : (d.modTile p f).wardProgram = d.wardProgram := id rfl
@[simp] theorem Dev.modTile_wardTrailer (d : Dev) (p : Nat) (f : TileSt → TileSt) : (d.modTile p f).wardTrailer = d.wardTrailer := id rfl
@[simp] theorem Dev.modTile_via (d : Dev) (p : Nat) (f : TileSt → TileSt) : (d.modTile p f).via = d.via := id rfl
@[simp] theorem Dev.modTile_slips (d : Dev) (p : Nat) (f : TileSt → TileSt) : (d.modTile p f).slips = d.slips := id rfl
@[simp] theorem Dev.modTile_stackDue (d : Dev) (p : Nat) (f : TileSt → TileSt) : (d.modTile p f).stackDue = d.stackDue := id rfl
@[simp] theorem Dev.modTile_rowMap (d : Dev) (p : Nat) (f : TileSt → TileSt) : (d.modTile p f).rowMap = d.rowMap := id rfl
@[simp] theorem Dev.modTile_divLayer (d : Dev) (p : Nat) (f : TileSt → TileSt) : (d.modTile p f).divLayer = d.divLayer := id rfl
@[simp] theorem Dev.modTile_mgmtPacked (d : Dev) (p : Nat) (f : TileSt → TileSt) : (d.modTile p f).mgmtPacked = d.mgmtPacked := id rfl
@[simp] theorem Dev.modTile_rowSoft (d : Dev) (p : Nat) (f : TileSt → TileSt) : (d.modTile p f).rowSoft = d.rowSoft := id rfl
@[simp] theorem Dev.modTile_bankUsed (d : Dev) (p : Nat) (f : TileSt → TileSt) : (d.modTile p f).bankUsed = d.bankUsed := id rfl
@[simp] theorem Dev.modTile_stackHard (d : Dev) (p : Nat) (f : TileSt → TileSt) : (d.modTile p f).stackHard = d.stackHard := id rfl
@[simp] theorem Dev.modTile_scrubPos (d : Dev) (p : Nat) (f : TileSt → TileSt) : (d.modTile p f).scrubPos = d.scrubPos := id rfl
@[simp] theorem Dev.modTile_lost (d : Dev) (p : Nat) (f : TileSt → TileSt) : (d.modTile p f).lost = d.lost := id rfl
@[simp] theorem Dev.modTile_lostInput (d : Dev) (p : Nat) (f : TileSt → TileSt) : (d.modTile p f).lostInput = d.lostInput := id rfl
@[simp] theorem Dev.modTile_programCopy (d : Dev) (p : Nat) (f : TileSt → TileSt) : (d.modTile p f).programCopy = d.programCopy := id rfl
@[simp] theorem Dev.modTile_larWait (d : Dev) (p : Nat) (f : TileSt → TileSt) : (d.modTile p f).larWait = d.larWait := id rfl
@[simp] theorem Dev.modTile_answer (d : Dev) (p : Nat) (f : TileSt → TileSt) : (d.modTile p f).answer = d.answer := id rfl
@[simp] theorem Dev.modTile_answerBad (d : Dev) (p : Nat) (f : TileSt → TileSt) : (d.modTile p f).answerBad = d.answerBad := id rfl
@[simp] theorem Dev.modTile_baseCnt (d : Dev) (p : Nat) (f : TileSt → TileSt) : (d.modTile p f).baseCnt = d.baseCnt := id rfl
@[simp] theorem Dev.modTile_fuses (d : Dev) (p : Nat) (f : TileSt → TileSt) : (d.modTile p f).fuses = d.fuses := id rfl
@[simp] theorem Dev.modTile_flash (d : Dev) (p : Nat) (f : TileSt → TileSt) : (d.modTile p f).flash = d.flash := id rfl
@[simp] theorem Dev.modTile_pod (d : Dev) (p : Nat) (f : TileSt → TileSt) : (d.modTile p f).pod = d.pod := id rfl
@[simp] theorem Dev.modTile_power (d : Dev) (p : Nat) (f : TileSt → TileSt) : (d.modTile p f).power = d.power := id rfl
@[simp] theorem Dev.modTile_svc (d : Dev) (p : Nat) (f : TileSt → TileSt) : (d.modTile p f).svc = d.svc := id rfl
@[simp] theorem Dev.modTile_handover (d : Dev) (p : Nat) (f : TileSt → TileSt) : (d.modTile p f).handover = d.handover := id rfl
@[simp] theorem Dev.modTile_mgmtSeen (d : Dev) (p : Nat) (f : TileSt → TileSt) : (d.modTile p f).mgmtSeen = d.mgmtSeen := id rfl
@[simp] theorem Dev.modTile_peers (d : Dev) (p : Nat) (f : TileSt → TileSt) : (d.modTile p f).peers = d.peers := id rfl
@[simp] theorem Dev.modTile_flashBytes (d : Dev) (p : Nat) (f : TileSt → TileSt) : (d.modTile p f).flashBytes = d.flashBytes := id rfl

@[simp] theorem Dev.setQp_fixed (d : Dev) (q : Nat) (x : QP) : (d.setQp q x).fixed = d.fixed := id rfl
@[simp] theorem Dev.setQp_rest (d : Dev) (q : Nat) (x : QP) : (d.setQp q x).rest = d.rest := id rfl
@[simp] theorem Dev.setQp_regs (d : Dev) (q : Nat) (x : QP) : (d.setQp q x).regs = d.regs := id rfl
@[simp] theorem Dev.setQp_mem (d : Dev) (q : Nat) (x : QP) : (d.setQp q x).mem = d.mem := id rfl
@[simp] theorem Dev.setQp_lineX (d : Dev) (q : Nat) (x : QP) : (d.setQp q x).lineX = d.lineX := id rfl
@[simp] theorem Dev.setQp_wordX (d : Dev) (q : Nat) (x : QP) : (d.setQp q x).wordX = d.wordX := id rfl
@[simp] theorem Dev.setQp_tiles (d : Dev) (q : Nat) (x : QP) : (d.setQp q x).tiles = d.tiles := id rfl
@[simp] theorem Dev.setQp_engMap (d : Dev) (q : Nat) (x : QP) : (d.setQp q x).engMap = d.engMap := id rfl
@[simp] theorem Dev.setQp_free (d : Dev) (q : Nat) (x : QP) : (d.setQp q x).free = d.free := id rfl
@[simp] theorem Dev.setQp_hostOut (d : Dev) (q : Nat) (x : QP) : (d.setQp q x).hostOut = d.hostOut := id rfl
@[simp] theorem Dev.setQp_msi (d : Dev) (q : Nat) (x : QP) : (d.setQp q x).msi = d.msi := id rfl
@[simp] theorem Dev.setQp_msixOpen (d : Dev) (q : Nat) (x : QP) : (d.setQp q x).msixOpen = d.msixOpen := id rfl
@[simp] theorem Dev.setQp_msixPending (d : Dev) (q : Nat) (x : QP) : (d.setQp q x).msixPending = d.msixPending := id rfl
@[simp] theorem Dev.setQp_events (d : Dev) (q : Nat) (x : QP) : (d.setQp q x).events = d.events := id rfl
@[simp] theorem Dev.setQp_traces (d : Dev) (q : Nat) (x : QP) : (d.setQp q x).traces = d.traces := id rfl
@[simp] theorem Dev.setQp_trig (d : Dev) (q : Nat) (x : QP) : (d.setQp q x).trig = d.trig := id rfl
@[simp] theorem Dev.setQp_committed (d : Dev) (q : Nat) (x : QP) : (d.setQp q x).committed = d.committed := id rfl
@[simp] theorem Dev.setQp_openStep (d : Dev) (q : Nat) (x : QP) : (d.setQp q x).openStep = d.openStep := id rfl
@[simp] theorem Dev.setQp_mgmtOut (d : Dev) (q : Nat) (x : QP) : (d.setQp q x).mgmtOut = d.mgmtOut := id rfl
@[simp] theorem Dev.setQp_awaiting (d : Dev) (q : Nat) (x : QP) : (d.setQp q x).awaiting = d.awaiting := id rfl
@[simp] theorem Dev.setQp_mgmtSeq (d : Dev) (q : Nat) (x : QP) : (d.setQp q x).mgmtSeq = d.mgmtSeq := id rfl
@[simp] theorem Dev.setQp_ranks (d : Dev) (q : Nat) (x : QP) : (d.setQp q x).ranks = d.ranks := id rfl
@[simp] theorem Dev.setQp_marks (d : Dev) (q : Nat) (x : QP) : (d.setQp q x).marks = d.marks := id rfl
@[simp] theorem Dev.setQp_ports (d : Dev) (q : Nat) (x : QP) : (d.setQp q x).ports = d.ports := id rfl
@[simp] theorem Dev.setQp_streams (d : Dev) (q : Nat) (x : QP) : (d.setQp q x).streams = d.streams := id rfl
@[simp] theorem Dev.setQp_tenderTx (d : Dev) (q : Nat) (x : QP) : (d.setQp q x).tenderTx = d.tenderTx := id rfl
@[simp] theorem Dev.setQp_txAlive (d : Dev) (q : Nat) (x : QP) : (d.setQp q x).txAlive = d.txAlive := id rfl
@[simp] theorem Dev.setQp_rxAlive (d : Dev) (q : Nat) (x : QP) : (d.setQp q x).rxAlive = d.rxAlive := id rfl
@[simp] theorem Dev.setQp_staleSaid (d : Dev) (q : Nat) (x : QP) : (d.setQp q x).staleSaid = d.staleSaid := id rfl
@[simp] theorem Dev.setQp_noRouteSaid (d : Dev) (q : Nat) (x : QP) : (d.setQp q x).noRouteSaid = d.noRouteSaid := id rfl
@[simp] theorem Dev.setQp_members (d : Dev) (q : Nat) (x : QP) : (d.setQp q x).members = d.members := id rfl
@[simp] theorem Dev.setQp_regions (d : Dev) (q : Nat) (x : QP) : (d.setQp q x).regions = d.regions := id rfl
@[simp] theorem Dev.setQp_wardBytes (d : Dev) (q : Nat) (x : QP) : (d.setQp q x).wardBytes = d.wardBytes := id rfl
@[simp] theorem Dev.setQp_wardProgram (d : Dev) (q : Nat) (x : QP) : (d.setQp q x).wardProgram = d.wardProgram := id rfl
@[simp] theorem Dev.setQp_wardTrailer (d : Dev) (q : Nat) (x : QP) : (d.setQp q x).wardTrailer = d.wardTrailer := id rfl
@[simp] theorem Dev.setQp_via (d : Dev) (q : Nat) (x : QP) : (d.setQp q x).via = d.via := id rfl
@[simp] theorem Dev.setQp_slips (d : Dev) (q : Nat) (x : QP) : (d.setQp q x).slips = d.slips := id rfl
@[simp] theorem Dev.setQp_stackDue (d : Dev) (q : Nat) (x : QP) : (d.setQp q x).stackDue = d.stackDue := id rfl
@[simp] theorem Dev.setQp_rowMap (d : Dev) (q : Nat) (x : QP) : (d.setQp q x).rowMap = d.rowMap := id rfl
@[simp] theorem Dev.setQp_divLayer (d : Dev) (q : Nat) (x : QP) : (d.setQp q x).divLayer = d.divLayer := id rfl
@[simp] theorem Dev.setQp_mgmtPacked (d : Dev) (q : Nat) (x : QP) : (d.setQp q x).mgmtPacked = d.mgmtPacked := id rfl
@[simp] theorem Dev.setQp_rowSoft (d : Dev) (q : Nat) (x : QP) : (d.setQp q x).rowSoft = d.rowSoft := id rfl
@[simp] theorem Dev.setQp_bankUsed (d : Dev) (q : Nat) (x : QP) : (d.setQp q x).bankUsed = d.bankUsed := id rfl
@[simp] theorem Dev.setQp_stackHard (d : Dev) (q : Nat) (x : QP) : (d.setQp q x).stackHard = d.stackHard := id rfl
@[simp] theorem Dev.setQp_scrubPos (d : Dev) (q : Nat) (x : QP) : (d.setQp q x).scrubPos = d.scrubPos := id rfl
@[simp] theorem Dev.setQp_lost (d : Dev) (q : Nat) (x : QP) : (d.setQp q x).lost = d.lost := id rfl
@[simp] theorem Dev.setQp_lostInput (d : Dev) (q : Nat) (x : QP) : (d.setQp q x).lostInput = d.lostInput := id rfl
@[simp] theorem Dev.setQp_programCopy (d : Dev) (q : Nat) (x : QP) : (d.setQp q x).programCopy = d.programCopy := id rfl
@[simp] theorem Dev.setQp_larWait (d : Dev) (q : Nat) (x : QP) : (d.setQp q x).larWait = d.larWait := id rfl
@[simp] theorem Dev.setQp_answer (d : Dev) (q : Nat) (x : QP) : (d.setQp q x).answer = d.answer := id rfl
@[simp] theorem Dev.setQp_answerBad (d : Dev) (q : Nat) (x : QP) : (d.setQp q x).answerBad = d.answerBad := id rfl
@[simp] theorem Dev.setQp_baseCnt (d : Dev) (q : Nat) (x : QP) : (d.setQp q x).baseCnt = d.baseCnt := id rfl
@[simp] theorem Dev.setQp_fuses (d : Dev) (q : Nat) (x : QP) : (d.setQp q x).fuses = d.fuses := id rfl
@[simp] theorem Dev.setQp_flash (d : Dev) (q : Nat) (x : QP) : (d.setQp q x).flash = d.flash := id rfl
@[simp] theorem Dev.setQp_pod (d : Dev) (q : Nat) (x : QP) : (d.setQp q x).pod = d.pod := id rfl
@[simp] theorem Dev.setQp_power (d : Dev) (q : Nat) (x : QP) : (d.setQp q x).power = d.power := id rfl
@[simp] theorem Dev.setQp_svc (d : Dev) (q : Nat) (x : QP) : (d.setQp q x).svc = d.svc := id rfl
@[simp] theorem Dev.setQp_handover (d : Dev) (q : Nat) (x : QP) : (d.setQp q x).handover = d.handover := id rfl
@[simp] theorem Dev.setQp_mgmtSeen (d : Dev) (q : Nat) (x : QP) : (d.setQp q x).mgmtSeen = d.mgmtSeen := id rfl
@[simp] theorem Dev.setQp_peers (d : Dev) (q : Nat) (x : QP) : (d.setQp q x).peers = d.peers := id rfl
@[simp] theorem Dev.setQp_flashBytes (d : Dev) (q : Nat) (x : QP) : (d.setQp q x).flashBytes = d.flashBytes := id rfl

@[simp] theorem Dev.fresh_fixed (d : Dev) : d.fresh.2.fixed = d.fixed := id rfl
@[simp] theorem Dev.fresh_mem (d : Dev) : d.fresh.2.mem = d.mem := id rfl
@[simp] theorem Dev.freshW32_mem (d : Dev) : d.freshW32.2.mem = d.mem := id rfl
@[simp] theorem Dev.fresh_rest (d : Dev) : d.fresh.2.rest = d.rest := id rfl
@[simp] theorem Dev.freshW32_fixed (d : Dev) : d.freshW32.2.fixed = d.fixed := id rfl
@[simp] theorem Dev.freshW32_rest (d : Dev) : d.freshW32.2.rest = d.rest := id rfl

end Sys2Proof.Machine
end

