-- ==== Sys2Proof/Laws/Fold.lean ====
section
/-! SUPPORT. Folds and choices over the device keep what each of their steps keeps. -/

namespace Sys2Proof.Machine

variable {β γ : Type}

/-- A fold whose steps keep a part of the device keeps it. -/
theorem foldl_keeps (g : Dev → γ) (f : Dev → β → Dev) (l : List β) (d : Dev) (h : ∀ d x, g (f d x) = g d) : g (l.foldl f d) = g d := by
  induction l generalizing d with
  | nil => rfl
  | cons x l ih => rw [List.foldl_cons, ih, h]

@[simp] theorem foldl_fixed (f : Dev → β → Dev) (l : List β) (d : Dev) (h : ∀ d x, (f d x).fixed = d.fixed) :
    (l.foldl f d).fixed = d.fixed := foldl_keeps Dev.fixed f l d h

@[simp] theorem foldl_rest (f : Dev → β → Dev) (l : List β) (d : Dev) (h : ∀ d x, (f d x).rest = d.rest) :
    (l.foldl f d).rest = d.rest := foldl_keeps Dev.rest f l d h

@[simp] theorem ite_fixed (c : Prop) [Decidable c] (a b : Dev) : (if c then a else b).fixed = if c then a.fixed else b.fixed := by
  split <;> rfl
@[simp] theorem ite_fst {α : Type} (c : Prop) [Decidable c] (a b : Dev × α) : (if c then a else b).1 = if c then a.1 else b.1 := by
  split <;> rfl
@[simp] theorem ite_snd {α : Type} (c : Prop) [Decidable c] (a b : α × Dev) : (if c then a else b).2 = if c then a.2 else b.2 := by
  split <;> rfl

@[simp] theorem dite_fixed (c : Prop) [Decidable c] (a : c → Dev) (b : ¬c → Dev) :
    (if h : c then a h else b h).fixed = if h : c then (a h).fixed else (b h).fixed := by split <;> rfl

/-- A fold that carries a value beside the device. -/
@[simp] theorem foldl_snd_fixed {α : Type} (f : α × Dev → β → α × Dev) (l : List β) (o : α × Dev) (h : ∀ o x, (f o x).2.fixed = o.2.fixed) :
    (l.foldl f o).2.fixed = o.2.fixed := by
  induction l generalizing o with
  | nil => rfl
  | cons x l ih => rw [List.foldl_cons, ih, h]

@[simp] theorem foldl_fst_fixed {α : Type} (f : Dev × α → β → Dev × α) (l : List β) (o : Dev × α) (h : ∀ o x, (f o x).1.fixed = o.1.fixed) :
    (l.foldl f o).1.fixed = o.1.fixed := by
  induction l generalizing o with
  | nil => rfl
  | cons x l ih => rw [List.foldl_cons, ih, h]

@[simp] theorem foldl_mem (f : Dev → β → Dev) (l : List β) (d : Dev) (h : ∀ d x, (f d x).mem = d.mem) :
    (l.foldl f d).mem = d.mem := foldl_keeps Dev.mem f l d h

@[simp] theorem ite_mem (c : Prop) [Decidable c] (a b : Dev) : (if c then a else b).mem = if c then a.mem else b.mem := by
  split <;> rfl

@[simp] theorem dite_mem (c : Prop) [Decidable c] (a : c → Dev) (b : ¬c → Dev) :
    (if h : c then a h else b h).mem = if h : c then (a h).mem else (b h).mem := by split <;> rfl

@[simp] theorem foldl_snd_mem {α : Type} (f : α × Dev → β → α × Dev) (l : List β) (o : α × Dev) (h : ∀ o x, (f o x).2.mem = o.2.mem) :
    (l.foldl f o).2.mem = o.2.mem := by
  induction l generalizing o with
  | nil => rfl
  | cons x l ih => rw [List.foldl_cons, ih, h]

@[simp] theorem foldl_fst_mem {α : Type} (f : Dev × α → β → Dev × α) (l : List β) (o : Dev × α) (h : ∀ o x, (f o x).1.mem = o.1.mem) :
    (l.foldl f o).1.mem = o.1.mem := by
  induction l generalizing o with
  | nil => rfl
  | cons x l ih => rw [List.foldl_cons, ih, h]

end Sys2Proof.Machine
end

