-- ==== Sys2Proof/Laws/Table.lean ====
section
/-! SUPPORT. Sparse tables: reading after writing, and the canonical form. The memory is one of them. -/

namespace Sys2Proof.Machine

variable {α : Type}

@[simp] theorem tget_nil (d : α) (i : Nat) : tget d [] i = d := rfl

/-- Below a table's lowest key nothing is listed. -/
theorem tget_below [DecidableEq α] (d : α) : ∀ (t : Tbl α) (lo i : Nat), twf d lo t = true → i < lo → tget d t i = d
  | [], _, _, _, _ => rfl
  | (k, v) :: t, lo, i, h, hi => by
    simp only [twf, Bool.and_eq_true, decide_eq_true_eq] at h
    rw [tget, if_neg (by omega)]
    exact tget_below d t (k + 1) i h.2 (by omega)

/-- A canonical table stays canonical for a lower bound that is lower. -/
theorem twf_mono [DecidableEq α] (d : α) (t : Tbl α) {lo hi : Nat} (h : twf d hi t = true) (hl : lo ≤ hi) : twf d lo t = true := by
  cases t with
  | nil => rfl
  | cons e t =>
    simp only [twf, Bool.and_eq_true, decide_eq_true_eq] at h ⊢
    exact ⟨⟨by omega, h.1.2⟩, h.2⟩

theorem tdel_twf [DecidableEq α] (d : α) : ∀ (t : Tbl α) (lo i : Nat), twf d lo t = true → twf d lo (tdel t i) = true
  | [], _, _, h => h
  | (k, v) :: t, lo, i, h => by
    simp only [twf, Bool.and_eq_true, decide_eq_true_eq] at h
    unfold tdel
    split
    · exact tdel_twf d t lo i (twf_mono d t h.2 (by omega))
    · simp only [twf, Bool.and_eq_true, decide_eq_true_eq]
      exact ⟨h.1, tdel_twf d t (k + 1) i h.2⟩

theorem tput_twf [DecidableEq α] (d : α) : ∀ (t : Tbl α) (lo i : Nat) (x : α), twf d lo t = true → lo ≤ i → x ≠ d →
    twf d lo (tput t i x) = true
  | [], lo, i, x, _, hi, hx => by simp [tput, twf, hi, hx]
  | (k, v) :: t, lo, i, x, h, hi, hx => by
    simp only [twf, Bool.and_eq_true, decide_eq_true_eq] at h
    unfold tput
    split
    · simp only [twf, Bool.and_eq_true, decide_eq_true_eq]
      exact ⟨⟨hi, hx⟩, ⟨by omega, h.1.2⟩, h.2⟩
    · split
      · simp only [twf, Bool.and_eq_true, decide_eq_true_eq]
        exact ⟨⟨hi, hx⟩, by subst i; exact h.2⟩
      · simp only [twf, Bool.and_eq_true, decide_eq_true_eq]
        exact ⟨h.1, tput_twf d t (k + 1) i x h.2 (by omega) hx⟩

/-- Writing keeps the canonical form. -/
theorem tset_twf [DecidableEq α] (d : α) (t : Tbl α) (i : Nat) (x : α) (h : twf d 0 t = true) : twf d 0 (tset d t i x) = true := by
  unfold tset
  split
  · exact tdel_twf d t 0 i h
  · exact tput_twf d t 0 i x h (Nat.zero_le i) (by assumption)

theorem tget_tput_same (d : α) : ∀ (t : Tbl α) (i : Nat) (x : α), tget d (tput t i x) i = x
  | [], i, x => by simp [tput, tget]
  | (k, v) :: t, i, x => by
    unfold tput
    split
    · simp [tget]
    · split
      · simp [tget]
      · rw [tget, if_neg (by assumption)]; exact tget_tput_same d t i x

theorem tget_tput_other (d : α) : ∀ (t : Tbl α) (i j : Nat) (x : α), j ≠ i → tget d (tput t i x) j = tget d t j
  | [], i, j, x, h => by simp [tput, tget, h]
  | (k, v) :: t, i, j, x, h => by
    unfold tput
    split
    · rw [tget, if_neg h]
    · split
      · subst i; simp only [tget, if_neg h]
      · simp only [tget, tget_tput_other d t i j x h]

theorem tget_tdel_other (d : α) : ∀ (t : Tbl α) (i j : Nat), j ≠ i → tget d (tdel t i) j = tget d t j
  | [], _, _, _ => rfl
  | (k, v) :: t, i, j, h => by
    unfold tdel
    split
    · subst i; rw [tget_tdel_other d t k j h, tget, if_neg h]
    · simp only [tget, tget_tdel_other d t i j h]

theorem tget_tdel_same (d : α) : ∀ (t : Tbl α) (i : Nat), tget d (tdel t i) i = d
  | [], _ => rfl
  | (k, v) :: t, i => by
    unfold tdel
    split
    · exact tget_tdel_same d t i
    · rw [tget, if_neg (by assumption)]; exact tget_tdel_same d t i

/-- A table reads back what is written. -/
@[simp] theorem tget_tset_same [DecidableEq α] (d : α) (t : Tbl α) (i : Nat) (x : α) : tget d (tset d t i x) i = x := by
  unfold tset
  split
  · rw [tget_tdel_same d t i]; exact Eq.symm (by assumption)
  · exact tget_tput_same d t i x

/-- A write leaves every other key alone. -/
theorem tget_tset_other [DecidableEq α] (d e : α) (t : Tbl α) (i j : Nat) (x : α) (h : j ≠ i) :
    tget d (tset e t i x) j = tget d t j := by
  unfold tset
  split
  · exact tget_tdel_other d t i j h
  · exact tget_tput_other d t i j x h

/-! ## Memory -/

theorem Memory.write_wf (m : List Host.Cell) (a : Nat) (b : Byte) (h : Memory.wf m = true) : Memory.wf (Memory.write m a b) = true :=
  tset_twf memDefault m a b h

theorem Memory.read_write_same (m : List Host.Cell) (a : Nat) (b : Byte) : Memory.read (Memory.write m a b) a = b :=
  tget_tset_same memDefault m a b

theorem Memory.read_write_other (m : List Host.Cell) (a x : Nat) (b : Byte) (h : x ≠ a) :
    Memory.read (Memory.write m a b) x = Memory.read m x := tget_tset_other memDefault memDefault m a x b h

theorem Memory.rebuild_wf (m : List Host.Cell) : Memory.wf (Memory.rebuild m) = true := by
  have go : ∀ (l r : List Host.Cell), Memory.wf r = true →
      Memory.wf (l.foldl (fun r c => Memory.write r c.1 c.2) r) = true := by
    intro l
    induction l with
    | nil => intro r h; exact h
    | cons c l ih => intro r h; exact ih _ (Memory.write_wf r c.1 c.2 h)
  exact go m [] rfl

/-- What `run` leaves is canonical. -/
theorem Memory.canon_wf (m : List Host.Cell) : Memory.wf (Memory.canon m) = true := by
  unfold Memory.canon
  split
  · assumption
  · exact Memory.rebuild_wf m

@[simp] theorem Memory.canon_of_wf (m : List Host.Cell) (h : Memory.wf m = true) : Memory.canon m = m := by
  unfold Memory.canon; rw [if_pos h]

end Sys2Proof.Machine
end

