-- ==== Sys2Proof/Laws/Registers.lean ====
section
/-! SUPPORT. Registers and their fields: a field reads back what is put into it, and a write to one register leaves every other
register alone. -/

namespace Sys2Proof

/-- A field keeps the low bits of what is put into it. -/
@[simp] theorem Fld.get_put (f : Fld) (v x : Nat) : f.get (f.put v x) = x % 2 ^ f.width := by
  unfold Fld.get Fld.put
  have hp : 0 < 2 ^ f.lo := Nat.two_pow_pos _
  have hw : 0 < 2 ^ f.width := Nat.two_pow_pos _
  have hx : x % 2 ^ f.width < 2 ^ f.width := Nat.mod_lt _ hw
  generalize x % 2 ^ f.width = y at *
  have e : f.get v * 2 ^ f.lo ≤ v := by
    unfold Fld.get
    calc v / 2 ^ f.lo % 2 ^ f.width * 2 ^ f.lo ≤ v / 2 ^ f.lo * 2 ^ f.lo := Nat.mul_le_mul_right _ (Nat.mod_le _ _)
      _ ≤ v := Nat.div_mul_le_self _ _
  unfold Fld.get at e ⊢
  have s : v - v / 2 ^ f.lo % 2 ^ f.width * 2 ^ f.lo + y * 2 ^ f.lo =
      v % 2 ^ f.lo + 2 ^ f.lo * (2 ^ f.width * (v / 2 ^ f.lo / 2 ^ f.width) + y) := by
    have h1 := Nat.div_add_mod v (2 ^ f.lo)
    have h2 := Nat.div_add_mod (v / 2 ^ f.lo) (2 ^ f.width)
    generalize v / 2 ^ f.lo / 2 ^ f.width = q at *
    generalize v / 2 ^ f.lo % 2 ^ f.width = r at *
    generalize v % 2 ^ f.lo = l at *
    rw [← h2] at h1
    rw [Nat.mul_add] at h1 ⊢
    rw [Nat.mul_comm r, Nat.mul_comm y]
    omega
  rw [s, Nat.add_mul_div_left _ _ hp, Nat.div_eq_of_lt (Nat.mod_lt _ hp), Nat.zero_add, Nat.mul_add_mod,
    Nat.mod_eq_of_lt hx]

theorem Fld.get_lt (f : Fld) (v : Nat) : f.get v < 2 ^ f.width := Nat.mod_lt _ (Nat.two_pow_pos _)

/-- A field that shares no bit with the one put keeps its value: the other one lies above it. -/
theorem Fld.get_put_below (f g : Fld) (v x : Nat) (hg : g.lo ≤ g.hi) (h : g.hi < f.lo) : g.get (f.put v x) = g.get v := by
  have e : f.get v * 2 ^ f.lo ≤ v := by
    unfold Fld.get
    calc v / 2 ^ f.lo % 2 ^ f.width * 2 ^ f.lo ≤ v / 2 ^ f.lo * 2 ^ f.lo := Nat.mul_le_mul_right _ (Nat.mod_le _ _)
      _ ≤ v := Nat.div_mul_le_self _ _
  have k : ∀ u : Nat, g.get u = u % 2 ^ f.lo / 2 ^ g.lo % 2 ^ g.width := by
    intro u
    unfold Fld.get Fld.width
    have p : 2 ^ f.lo = 2 ^ g.lo * 2 ^ (f.lo - g.lo) := by rw [← Nat.pow_add]; congr 1; omega
    rw [p, Nat.mod_mul_right_div_self, Nat.mod_mod_of_dvd _ (Nat.pow_dvd_pow 2 (by omega))]
  rw [k, k v]
  unfold Fld.put
  have m : (v - f.get v * 2 ^ f.lo + x % 2 ^ f.width * 2 ^ f.lo) % 2 ^ f.lo = v % 2 ^ f.lo := by
    rw [Nat.add_mul_mod_self_right]
    have := Nat.add_mul_mod_self_right (v - f.get v * 2 ^ f.lo) (f.get v) (2 ^ f.lo)
    rw [Nat.sub_add_cancel e] at this
    exact this.symm
  rw [m]

/-- The same, where the field put lies below. -/
theorem Fld.get_put_above (f g : Fld) (v x : Nat) (hf : f.lo ≤ f.hi) (h : f.hi < g.lo) : g.get (f.put v x) = g.get v := by
  have e : f.get v * 2 ^ f.lo ≤ v := by
    unfold Fld.get
    calc v / 2 ^ f.lo % 2 ^ f.width * 2 ^ f.lo ≤ v / 2 ^ f.lo * 2 ^ f.lo := Nat.mul_le_mul_right _ (Nat.mod_le _ _)
      _ ≤ v := Nat.div_mul_le_self _ _
  have k : ∀ u : Nat, g.get u = u / 2 ^ f.lo / 2 ^ f.width / 2 ^ (g.lo - f.hi - 1) % 2 ^ g.width := by
    intro u
    unfold Fld.get Fld.width
    rw [Nat.div_div_eq_div_mul, Nat.div_div_eq_div_mul, ← Nat.pow_add, ← Nat.pow_add]
    congr 2
    congr 1
    omega
  rw [k, k v]
  have m : f.put v x / 2 ^ f.lo / 2 ^ f.width = v / 2 ^ f.lo / 2 ^ f.width := by
    unfold Fld.put
    have hp : 0 < 2 ^ f.lo := Nat.two_pow_pos _
    have hw : 0 < 2 ^ f.width := Nat.two_pow_pos _
    have hx : x % 2 ^ f.width < 2 ^ f.width := Nat.mod_lt _ hw
    rw [Nat.add_mul_div_right _ _ hp]
    have r : (v - f.get v * 2 ^ f.lo) / 2 ^ f.lo = v / 2 ^ f.lo - f.get v := by
      rw [Nat.mul_comm, Nat.sub_mul_div_of_le]
      · rw [Nat.mul_comm]; exact e
    rw [r]
    unfold Fld.get
    have := Nat.div_add_mod (v / 2 ^ f.lo) (2 ^ f.width)
    have s : v / 2 ^ f.lo - v / 2 ^ f.lo % 2 ^ f.width + x % 2 ^ f.width =
        2 ^ f.width * (v / 2 ^ f.lo / 2 ^ f.width) + x % 2 ^ f.width := by omega
    rw [s, Nat.mul_add_div hw, Nat.div_eq_of_lt hx, Nat.add_zero]
  rw [m]

/-- Two fields of a register that share no bit. -/
def Fld.apart (f g : Fld) : Bool := decide (f.lo ≤ f.hi) && decide (g.lo ≤ g.hi) && (decide (f.hi < g.lo) || decide (g.hi < f.lo))

theorem Fld.get_put_apart (f g : Fld) (v x : Nat) (h : f.apart g = true) : g.get (f.put v x) = g.get v := by
  simp only [Fld.apart, Bool.and_eq_true, Bool.or_eq_true, decide_eq_true_eq] at h
  obtain h' | h' := h.2
  · exact Fld.get_put_above f g v x h.1.1 h'
  · exact Fld.get_put_below f g v x h.1.2 h'

theorem RegName.ctorIdx_inj {a b : RegName} (h : a.ctorIdx = b.ctorIdx) : a = b := by
  rw [← RegName.ofNat_ctorIdx a, ← RegName.ofNat_ctorIdx b, h]

/-- Registers of two names have two keys, whatever their units and numbers. -/
theorem RegId.key_ne_of_name {a b : RegId} (h : a.name ≠ b.name) (ha : a.inst < 255) (ha' : a.idx < 4096) (hb : b.inst < 255)
    (hb' : b.idx < 4096) : a.key ≠ b.key := by
  intro k
  have n : a.name.ctorIdx ≠ b.name.ctorIdx := fun e => h (RegName.ctorIdx_inj e)
  unfold RegId.key at k
  omega

theorem RegId.key_ne_of_inst {a b : RegId} (h : a.inst ≠ b.inst) (ha : a.inst < 255) (ha' : a.idx < 4096) (hb : b.inst < 255)
    (hb' : b.idx < 4096) : a.key ≠ b.key := by
  intro k
  unfold RegId.key at k
  omega

end Sys2Proof

namespace Sys2Proof.Machine

/-- A register read after it is written. -/
@[simp] theorem Dev.reg_setReg_same (d : Dev) (r : RegId) (v : Nat) : (d.setReg r v).reg r = v :=
  tget_tset_same _ d.regs r.key v

/-- A register with another key is left alone. -/
theorem Dev.reg_setReg_other (d : Dev) (r q : RegId) (v : Nat) (h : q.key ≠ r.key) : (d.setReg r v).reg q = d.reg q :=
  tget_tset_other _ _ d.regs r.key q.key v h

/-- A field read after it is written. -/
@[simp] theorem Dev.fld_setFld_same (d : Dev) (f : Fld) (v i j : Nat) : (d.setFld f v i j).fld f i j = v % 2 ^ f.width := by
  unfold Dev.fld Dev.setFld; rw [Dev.reg_setReg_same, Fld.get_put]

/-- A field of another register is left alone. -/
theorem Dev.fld_setFld_key (d : Dev) (f g : Fld) (v i j k l : Nat) (h : (⟨g.reg, k, l⟩ : RegId).key ≠ (⟨f.reg, i, j⟩ : RegId).key) :
    (d.setFld f v i j).fld g k l = d.fld g k l := by
  unfold Dev.fld Dev.setFld; rw [Dev.reg_setReg_other _ _ _ _ h]

/-- A field of the same register that shares no bit is left alone. -/
theorem Dev.fld_setFld_apart (d : Dev) (f g : Fld) (v i j : Nat) (hr : g.reg = f.reg) (h : f.apart g = true) :
    (d.setFld f v i j).fld g i j = d.fld g i j := by
  unfold Dev.fld Dev.setFld; rw [hr, Dev.reg_setReg_same, Fld.get_put_apart _ _ _ _ h]

theorem Dev.reg_setFld_other (d : Dev) (f : Fld) (v i j : Nat) (q : RegId) (h : q.key ≠ (⟨f.reg, i, j⟩ : RegId).key) :
    (d.setFld f v i j).reg q = d.reg q := Dev.reg_setReg_other _ _ _ _ h

end Sys2Proof.Machine
end

