-- ==== Sys2Proof/Laws/FixedEngine.lean ====
section
/-! SUPPORT. The operations of events, memory, stacks, queues and slots leave the fuses and the map of logical engines (`Dev.fixed`) unchanged. -/

set_option linter.unusedSimpArgs false
set_option linter.unusedVariables false

namespace Sys2Proof.Machine

/-! Ops -/
@[simp] theorem Dev.write_fixed (d : Dev) (a : Nat) (bs : List Byte) :
    (Dev.write d a bs).fixed = d.fixed := by
  simp [Dev.write]
@[simp] theorem Dev.slip_fixed (d : Dev) (stop : Nat) :
    (Dev.slip d stop).fixed = d.fixed := by
  simp [Dev.slip]
@[simp] theorem Dev.fabricWrite_fixed (d : Dev) (a : Nat) (bs : List Byte) :
    (Dev.fabricWrite d a bs).fixed = d.fixed := by
  unfold Dev.fabricWrite; (repeat' (first | split | dsimp only)) <;> simp
@[simp] theorem Dev.trace_fixed (d : Dev) (x : Nat) (kind : Nat) (tile : Option Nat) (src : Nat) (body : List Byte) :
    (Dev.trace d x kind tile src body).1.fixed = d.fixed := by
  simp [Dev.trace]
@[simp] theorem Dev.fireMsi_fixed (d : Dev) (v : Nat) :
    (Dev.fireMsi d v).fixed = d.fixed := by
  simp [Dev.fireMsi]
@[simp] theorem Dev.putEvent_fixed (d : Dev) (q : Nat) (code : Nat) (rank : Nat) (step : Nat) (data : List Byte) :
    (Dev.putEvent d q code rank step data).fixed = d.fixed := by
  unfold Dev.putEvent; (repeat' (first | split | dsimp only)) <;> simp
@[simp] theorem Dev.sendMgmtAt_fixed (d : Dev) (epoch : Nat) (dst : Nat) (step : Nat) (body : MgmtBody) :
    (Dev.sendMgmtAt d epoch dst step body).fixed = d.fixed := by
  simp [Dev.sendMgmtAt]
@[simp] theorem Dev.sendMgmt_fixed (d : Dev) (dst : Nat) (step : Nat) (body : MgmtBody) :
    (Dev.sendMgmt d dst step body).fixed = d.fixed := by
  simp [Dev.sendMgmt]
@[simp] theorem Dev.modPod_fixed (d : Dev) (f : Pod → Pod) :
    (Dev.modPod d f).fixed = d.fixed := by
  simp [Dev.modPod]
@[simp] theorem Dev.settled_fixed (d : Dev) (p : Mgmt → Bool) :
    (Dev.settled d p).fixed = d.fixed := by
  simp [Dev.settled]
@[simp] theorem Dev.heard_fixed (d : Dev) (src : Nat) :
    (Dev.heard d src).fixed = d.fixed := by
  simp [Dev.heard]
@[simp] theorem Dev.report_fixed (d : Dev) (code : Nat) (eng : Nat) (seq : Nat) :
    (Dev.report d code eng seq).fixed = d.fixed := by
  unfold Dev.report; (repeat' (first | split | dsimp only)) <;> simp
@[simp] theorem Dev.forwardEvent_fixed (d : Dev) (code : Nat) (step : Nat) :
    (Dev.forwardEvent d code step).fixed = d.fixed := by
  simp [Dev.forwardEvent]
@[simp] theorem Dev.logOne_fixed (d : Dev) (code : Nat) (step : Nat) :
    (Dev.logOne d code step).fixed = d.fixed := by
  simp [Dev.logOne]
@[simp] theorem Dev.log_fixed (d : Dev) (code : Nat) :
    (Dev.log d code).fixed = d.fixed := by
  simp [Dev.log]
@[simp] theorem Dev.logs_fixed (d : Dev) (codes : List Nat) :
    (Dev.logs d codes).fixed = d.fixed := by
  simp [Dev.logs]
@[simp] theorem Dev.pulse_fixed (d : Dev) :
    (Dev.pulse d).fixed = d.fixed := by
  simp [Dev.pulse]
@[simp] theorem Dev.deliverDie_fixed (d : Dev) (capture : Bool) (body : List Byte) (x : Nat) :
    (Dev.deliverDie d capture body x).fixed = d.fixed := by
  simp [Dev.deliverDie]
@[simp] theorem Dev.capture_fixed (d : Dev) (num : Nat) (h : Bool → List (Nat × Nat)) (out : Bool) :
    (Dev.capture d num h out).fixed = d.fixed := by
  simp [Dev.capture]
@[simp] theorem Dev.deliver_fixed (d : Dev) (sources : Nat) (capture : Bool) (origin : Option (Nat × Nat)) (out : Bool) :
    (Dev.deliver d sources capture origin out).fixed = d.fixed := by
  simp [Dev.deliver]
@[simp] theorem Dev.sendTrigger_fixed (d : Dev) (capture : Bool) (sources : Nat) :
    (Dev.sendTrigger d capture sources).fixed = d.fixed := by
  simp [Dev.sendTrigger]
@[simp] theorem Dev.fire_fixed (d : Dev) (source : Nat) :
    (Dev.fire d source).fixed = d.fixed := by
  simp [Dev.fire]
@[simp] theorem Dev.raise_fixed (d : Dev) (code : Nat) :
    (Dev.raise d code).fixed = d.fixed := by
  simp [Dev.raise]
@[simp] theorem Dev.raises_fixed (d : Dev) (codes : List Nat) :
    (Dev.raises d codes).fixed = d.fixed := by
  simp [Dev.raises]
@[simp] theorem Dev.record_fixed (d : Dev) (x : Nat) (kind : Nat) (tile : Option Nat) (src : Nat) (body : List Byte) :
    (Dev.record d x kind tile src body).fixed = d.fixed := by
  simp [Dev.record]
@[simp] theorem Dev.cvuMismatch_fixed (d : Dev) (i : Nat) (computed : Nat) (expected : Nat) :
    (Dev.cvuMismatch d i computed expected).fixed = d.fixed := by
  simp [Dev.cvuMismatch]
@[simp] theorem Dev.cvuAlive_fixed (d : Dev) (i : Nat) (repeat_ : Bool) (skip : Bool) :
    (Dev.cvuAlive d i repeat_ skip).fixed = d.fixed := by
  simp [Dev.cvuAlive]

/-! Operands -/
@[simp] theorem Dev.useRecs_fixed (d : Dev) (p : Nat) (recs : List (Nat × Nat)) :
    (Dev.useRecs d p recs).fixed = d.fixed := by
  simp [Dev.useRecs]
@[simp] theorem Dev.workAs_fixed (d : Dev) (p : Nat) (recs : List (Nat × Nat)) :
    (Dev.workAs d p recs).fixed = d.fixed := by
  simp [Dev.workAs]
@[simp] theorem Dev.putElem_fixed (d : Dev) (t : Tensor) (r : Nat) (c : Nat) (code : Nat) :
    (Dev.putElem d t r c code).fixed = d.fixed := by
  simp [Dev.putElem]
@[simp] theorem Dev.putRow_fixed (d : Dev) (t : Tensor) (r : Nat) (c : Nat) (codes : List Nat) :
    (Dev.putRow d t r c codes).fixed = d.fixed := by
  simp [Dev.putRow]

/-! Mixing -/
@[simp] theorem Dev.putRec_fixed (d : Dev) (p : Nat) (unit : Nat) (bs : List Byte) :
    (Dev.putRec d p unit bs).fixed = d.fixed := by
  simp [Dev.putRec]
@[simp] theorem Dev.patchRec_fixed (d : Dev) (p : Nat) (unit : Nat) (pos : Nat) (new : List Byte) :
    (Dev.patchRec d p unit pos new).fixed = d.fixed := by
  simp [Dev.patchRec]
@[simp] theorem Dev.verdict_fixed (d : Dev) (p : Nat) (unit : Nat) (bits : Nat) :
    (Dev.verdict d p unit bits).fixed = d.fixed := by
  simp [Dev.verdict]
@[simp] theorem Dev.putTrk_fixed (d : Dev) (p : Nat) (layer : Nat) (t : Trk) :
    (Dev.putTrk d p layer t).fixed = d.fixed := by
  simp [Dev.putTrk]
@[simp] theorem Dev.openTrackers_fixed (d : Dev) (p : Nat) :
    (Dev.openTrackers d p).fixed = d.fixed := by
  simp [Dev.openTrackers]
@[simp] theorem Dev.takeG_fixed (d : Dev) (p : Nat) (layer : Nat) :
    (Dev.takeG d p layer).2.fixed = d.fixed := by
  simp [Dev.takeG]
@[simp] theorem Dev.trackAfter_fixed (d : Dev) (p : Nat) (layer : Nat) (c : RecCnt) (g : Int) :
    (Dev.trackAfter d p layer c g).fixed = d.fixed := by
  simp [Dev.trackAfter]

/-! Packets -/
@[simp] theorem Dev.setPort_fixed (d : Dev) (c : Nat) (x : Port) :
    (Dev.setPort d c x).fixed = d.fixed := by
  simp [Dev.setPort]
@[simp] theorem Dev.noRoute_fixed (d : Dev) (s : Nat) (dst : Nat) :
    (Dev.noRoute d s dst).fixed = d.fixed := by
  simp [Dev.noRoute]
@[simp] theorem Dev.enqueue_fixed (d : Dev) (c : Nat) (pk : Packet) :
    (Dev.enqueue d c pk).fixed = d.fixed := by
  simp [Dev.enqueue]
@[simp] theorem Dev.routePacket_fixed (d : Dev) (s : Nat) (pk : Packet) :
    (Dev.routePacket d s pk).fixed = d.fixed := by
  unfold Dev.routePacket; (repeat' (first | split | dsimp only)) <;> simp
@[simp] theorem Dev.sendPacket_fixed (d : Dev) (s : Nat) (pk : Packet) :
    (Dev.sendPacket d s pk).fixed = d.fixed := by
  simp [Dev.sendPacket]
@[simp] theorem Dev.packMgmt_fixed (d : Dev) : (Dev.packMgmt d).fixed = d.fixed := by
  unfold Dev.packMgmt
  refine (foldl_fixed _ _ _ (fun d m => foldl_fixed _ _ _ (fun d k => Dev.routePacket_fixed ..))).trans ?_
  simp
@[simp] theorem Dev.sendPackets_fixed (d : Dev) (s : Nat) (pks : List Packet) :
    (Dev.sendPackets d s pks).fixed = d.fixed := by
  simp [Dev.sendPackets]
@[simp] theorem Dev.forwardPacket_fixed (d : Dev) (s : Nat) (pk : Packet) :
    (Dev.forwardPacket d s pk).fixed = d.fixed := by
  unfold Dev.forwardPacket; (repeat' (first | split | dsimp only)) <;> simp

/-! Stacks -/
@[simp] theorem Dev.recover_fixed (d : Dev) (copies : List (Nat × List Byte)) (a : Nat) :
    (Dev.recover d copies a).fixed = d.fixed := by
  unfold Dev.recover; (repeat' (first | split | dsimp only)) <;> simp
@[simp] theorem Dev.recoverLost_fixed (d : Dev) (copies : List (Nat × List Byte)) :
    (Dev.recoverLost d copies).fixed = d.fixed := by
  simp [Dev.recoverLost]
@[simp] theorem Dev.recoverNow_fixed (d : Dev) (copies : List (Nat × List Byte)) :
    (Dev.recoverNow d copies).fixed = d.fixed := by
  simp [Dev.recoverNow]
@[simp] theorem Dev.afterHard_fixed (d : Dev) (code : Nat) (copies : List (Nat × List Byte)) (halts : Bool) :
    (Dev.afterHard d code copies halts).fixed = d.fixed := by
  simp [Dev.afterHard]
@[simp] theorem Dev.stackBad_fixed (d : Dev) (s : Nat) :
    (Dev.stackBad d s).fixed = d.fixed := by
  simp [Dev.stackBad]
@[simp] theorem Dev.countHard_fixed (d : Dev) (c : Nat) (kind : Nat) (src : Nat) :
    (Dev.countHard d c kind src).fixed = d.fixed := by
  simp [Dev.countHard]
@[simp] theorem Dev.copyHard_fixed (d : Dev) (l : Nat) :
    (Dev.copyHard d l).fixed = d.fixed := by
  unfold Dev.copyHard; (repeat' (first | split | dsimp only)) <;> simp
@[simp] theorem Dev.copySoft_fixed (d : Dev) (l : Nat) :
    (Dev.copySoft d l).fixed = d.fixed := by
  simp [Dev.copySoft]
@[simp] theorem Dev.retire_fixed (d : Dev) (c : Nat) (reported : Option Nat) (copy : List (Fin 32 × Bool)) :
    (Dev.retire d c reported copy).fixed = d.fixed := by
  simp [Dev.retire]
@[simp] theorem Dev.lineSoft_fixed (d : Dev) (c : Nat) (copy : List (Fin 32 × Bool)) :
    (Dev.lineSoft d c copy).fixed = d.fixed := by
  simp [Dev.lineSoft]
@[simp] theorem Dev.lineHard_fixed (d : Dev) (c : Nat) (kind : Nat) (src : Nat) (copy : List (Fin 32 × Bool)) :
    (Dev.lineHard d c kind src copy).fixed = d.fixed := by
  unfold Dev.lineHard; (repeat' (first | split | dsimp only)) <;> simp
@[simp] theorem Dev.larLog_fixed (d : Dev) (p : Nat) (off : Nat) (kind : Nat) (req : Nat) (layer : Nat) :
    (Dev.larLog d p off kind req layer).fixed = d.fixed := by
  simp [Dev.larLog]
@[simp] theorem Dev.larSoft_fixed (d : Dev) (p : Nat) (off : Nat) (req : Nat) (layer : Nat) :
    (Dev.larSoft d p off req layer).fixed = d.fixed := by
  simp [Dev.larSoft]
@[simp] theorem Dev.larHard_fixed (d : Dev) (p : Nat) (off : Nat) (req : Nat) (layer : Nat) (kind : Nat) :
    (Dev.larHard d p off req layer kind).fixed = d.fixed := by
  simp [Dev.larHard]
@[simp] theorem Dev.failedRead_fixed (d : Dev) (p : Nat) (stop : Nat) (req : Nat) (layer : Nat) (src : Nat) (rmw : Bool) :
    (Dev.failedRead d p stop req layer src rmw).fixed = d.fixed := by
  unfold Dev.failedRead; (repeat' (first | split | dsimp only)) <;> simp
@[simp] theorem Dev.failAccess_fixed (d : Dev) (src : Nat) (rmw : Bool) (stop : Nat) :
    (Dev.failAccess d src rmw stop).fixed = d.fixed := by
  simp [Dev.failAccess]
@[simp] theorem Dev.settleFor_fixed (d : Dev) (src : Nat) :
    (Dev.settleFor d src).fixed = d.fixed := by
  simp [Dev.settleFor]
@[simp] theorem Dev.settleHost_fixed (d : Dev) :
    (Dev.settleHost d).fixed = d.fixed := by
  simp [Dev.settleHost]
@[simp] theorem Dev.sourceRead_fixed (d : Dev) (src : Nat) (a : Nat) (n : Nat) :
    (Dev.sourceRead d src a n).1.fixed = d.fixed := by
  simp [Dev.sourceRead]
@[simp] theorem Dev.sourceReads_fixed (d : Dev) (src : Nat) (rs : List (Nat × Nat)) :
    (Dev.sourceReads d src rs).1.fixed = d.fixed := by
  simp [Dev.sourceReads]

/-! Engine -/
@[simp] theorem Dev.tileRecord_fixed (d : Dev) (p : Nat) (kind : Nat) (unit : Nat) (body : List Byte) :
    (Dev.tileRecord d p kind unit body).fixed = d.fixed := by
  simp [Dev.tileRecord]
@[simp] theorem Dev.halt_fixed (d : Dev) (p : Nat) (code : Nat) (x : Desc) (fetch : Bool) :
    (Dev.halt d p code x fetch).fixed = d.fixed := by
  simp [Dev.halt]
@[simp] theorem Dev.readHalt_fixed (d : Dev) (p : Nat) (stop : Nat) (x : Desc) (fetch : Bool) :
    (Dev.readHalt d p stop x fetch).fixed = d.fixed := by
  simp [Dev.readHalt]
@[simp] theorem Dev.takeAnswers_fixed (d : Dev) (p : Nat) (x : Desc) (src : Nat) :
    (Dev.takeAnswers d p x src).1.fixed = d.fixed := by
  unfold Dev.takeAnswers; (repeat' (first | split | dsimp only)) <;> simp
@[simp] theorem Dev.semAdd_fixed (d : Dev) (p : Nat) (sem : Nat) (k : Nat) (x : Desc) :
    (Dev.semAdd d p sem k x).fixed = d.fixed := by
  simp [Dev.semAdd]
@[simp] theorem Dev.zeroSems_fixed (d : Dev) (p : Nat) :
    (Dev.zeroSems d p).fixed = d.fixed := by
  simp [Dev.zeroSems]
@[simp] theorem Dev.sync_fixed (d : Dev) (p : Nat) :
    (Dev.sync d p).fixed = d.fixed := by
  simp [Dev.sync]
@[simp] theorem Dev.rduSync_fixed (d : Dev) :
    (Dev.rduSync d).fixed = d.fixed := by
  simp [Dev.rduSync]
@[simp] theorem Dev.countItem_fixed (d : Dev) (p : Nat) (b : Nat) (x : Desc) (work : Nat) (a : Acct) :
    (Dev.countItem d p b x work a).fixed = d.fixed := by
  simp [Dev.countItem]
@[simp] theorem Dev.item_fixed (d : Dev) (p : Nat) (unit : Nat) (x : Desc) (work : Nat) (a : Acct) :
    (Dev.item d p unit x work a).fixed = d.fixed := by
  unfold Dev.item; (repeat' (first | split | dsimp only)) <;> simp
@[simp] theorem Dev.finish_fixed (d : Dev) (p : Nat) (i : Issued) :
    (Dev.finish d p i).fixed = d.fixed := by
  simp [Dev.finish]
@[simp] theorem Dev.leaveQueue_fixed (d : Dev) (p : Nat) (i : Issued) :
    (Dev.leaveQueue d p i).fixed = d.fixed := by
  simp [Dev.leaveQueue]
@[simp] theorem Dev.runUnit_fixed (d : Dev) (p : Nat) (u : Nat) (sel : Desc → Bool) (body : Issued → Dev → Dev) (hbody : ∀ y0 y1, (body y0 y1).fixed = y1.fixed) :
    (Dev.runUnit d p u sel body).fixed = d.fixed := by
  unfold Dev.runUnit; (repeat' (first | split | dsimp only)) <;> simp [hbody]
@[simp] theorem Dev.startChecked_fixed (d : Dev) (p : Nat) (i : Issued) (chk : Chk) (eff : Dev → Dev) (heff : ∀ y0, (eff y0).fixed = y0.fixed) :
    (Dev.startChecked d p i chk eff).fixed = d.fixed := by
  unfold Dev.startChecked; (repeat' (first | split | dsimp only)) <;> simp [heff]
@[simp] theorem Dev.fetchOne_fixed (d : Dev) (p : Nat) (addr : Nat) (err : Option Bool) :
    (Dev.fetchOne d p addr err).1.fixed = d.fixed := by
  unfold Dev.fetchOne; (repeat' (first | split | dsimp only)) <;> simp
@[simp] theorem Dev.fetchLoop_fixed (d : Dev) (p a c : Nat) (errs : List (Nat × Bool)) (k : Nat) : (d.fetchLoop p a c errs k).fixed = d.fixed := by
  induction k generalizing d with
  | zero => rfl
  | succ k ih =>
    unfold Dev.fetchLoop
    dsimp only
    split
    · rfl
    split
    · rw [ih]; simp
    · simp
@[simp] theorem Dev.queueFetch_fixed (d : Dev) (p : Nat) (errs : List (Nat × Bool)) : (d.queueFetch p errs).fixed = d.fixed := by
  unfold Dev.queueFetch
  split
  · rfl
  dsimp only
  split
  · simp
  · rw [Dev.sync_fixed]
    split <;> simp
@[simp] theorem Dev.liftHold_fixed (d : Dev) (p : Nat) :
    (Dev.liftHold d p).fixed = d.fixed := by
  unfold Dev.liftHold; (repeat' (first | split | dsimp only)) <;> simp
@[simp] theorem Dev.runSyn_fixed (d : Dev) (p : Nat) :
    (Dev.runSyn d p).fixed = d.fixed := by
  simp [Dev.runSyn]
@[simp] theorem Dev.runChk_fixed (d : Dev) (p : Nat) :
    (Dev.runChk d p).fixed = d.fixed := by
  simp [Dev.runChk]
@[simp] theorem Dev.runMrk_fixed (d : Dev) (p : Nat) :
    (Dev.runMrk d p).fixed = d.fixed := by
  simp [Dev.runMrk]
@[simp] theorem Dev.watchdog_fixed (d : Dev) (p : Nat) :
    (Dev.watchdog d p).fixed = d.fixed := by
  simp [Dev.watchdog]
@[simp] theorem Dev.emptySlots_fixed (d : Dev) (p : Nat) :
    (Dev.emptySlots d p).fixed = d.fixed := by
  simp [Dev.emptySlots]
@[simp] theorem Dev.sendAbort_fixed (d : Dev) (p : Nat) (x : Xch) (peer : Nat) :
    (Dev.sendAbort d p x peer).fixed = d.fixed := by
  simp [Dev.sendAbort]
@[simp] theorem Dev.abortXchs_fixed (d : Dev) (p : Nat) :
    (Dev.abortXchs d p).fixed = d.fixed := by
  simp [Dev.abortXchs]
@[simp] theorem Dev.flushStart_fixed (d : Dev) (p : Nat) :
    (Dev.flushStart d p).fixed = d.fixed := by
  simp [Dev.flushStart]
@[simp] theorem Dev.flushEnd_fixed (d : Dev) (p : Nat) :
    (Dev.flushEnd d p).fixed = d.fixed := by
  simp [Dev.flushEnd]
@[simp] theorem Dev.flush_fixed (d : Dev) (p : Nat) :
    (Dev.flush d p).fixed = d.fixed := by
  simp [Dev.flush]
@[simp] theorem Dev.writeCqCtrl_fixed (d : Dev) (p : Nat) (v : Nat) :
    (Dev.writeCqCtrl d p v).fixed = d.fixed := by
  simp [Dev.writeCqCtrl]
@[simp] theorem Dev.writeSemAdd_fixed (d : Dev) (p : Nat) (v : Nat) :
    (Dev.writeSemAdd d p v).fixed = d.fixed := by
  simp [Dev.writeSemAdd]
@[simp] theorem Dev.openRecord_fixed (d : Dev) (p : Nat) (kind : Nat) :
    (Dev.openRecord d p kind).fixed = d.fixed := by
  simp [Dev.openRecord]
@[simp] theorem Dev.writeStepCtx_fixed (d : Dev) (p : Nat) (v : Nat) :
    (Dev.writeStepCtx d p v).fixed = d.fixed := by
  simp [Dev.writeStepCtx]
@[simp] theorem Dev.writeAcbCtrl_fixed (d : Dev) (p : Nat) (v : Nat) :
    (Dev.writeAcbCtrl d p v).fixed = d.fixed := by
  simp [Dev.writeAcbCtrl]
@[simp] theorem Dev.writePreWin_fixed (d : Dev) (p : Nat) (v : Nat) :
    (Dev.writePreWin d p v).fixed = d.fixed := by
  simp [Dev.writePreWin]
@[simp] theorem Dev.writeSlotGeom_fixed (d : Dev) (p : Nat) (n : Nat) (v : Nat) :
    (Dev.writeSlotGeom d p n v).fixed = d.fixed := by
  simp [Dev.writeSlotGeom]

/-! Slots -/
@[simp] theorem Dev.slotAdd_fixed (d : Dev) (p : Nat) (n : Nat) (gIn : Int) (mb : Nat) (cs : Nat → Nat → List Contrib) :
    (Dev.slotAdd d p n gIn mb cs).fixed = d.fixed := by
  simp [Dev.slotAdd]
@[simp] theorem Dev.slotRead_fixed (d : Dev) (p : Nat) (n : Nat) (rd : ReadOutcome) :
    (Dev.slotRead d p n rd).1.fixed = d.fixed := by
  unfold Dev.slotRead; (repeat' (first | split | dsimp only)) <;> simp

end Sys2Proof.Machine
end

