-- ==== Sys2Proof/Laws/FixedArrays.lean ====
section
/-! SUPPORT. The operations of the arrays, the sieve, the memory, the link and the mailbox leave the fuses and the map of logical engines (`Dev.fixed`) unchanged. -/

set_option linter.unusedSimpArgs false
set_option linter.unusedVariables false

namespace Sys2Proof.Machine

/-! Arrays -/
@[simp] theorem Dev.resLog_fixed (d : Dev) (p : Nat) (a : ArrayRegs) (x : Desc) (block : Nat) (kind : Nat) (sub : Nat) :
    (Dev.resLog d p a x block kind sub).fixed = d.fixed := by
  simp [Dev.resLog]
@[simp] theorem Dev.seeFault_fixed (d : Dev) (p : Nat) (a : ArrayRegs) (x : Desc) (e : ArrayFault × Bool) :
    (Dev.seeFault d p a x e).fixed = d.fixed := by
  simp [Dev.seeFault]
@[simp] theorem Dev.arrayFaults_fixed (d : Dev) (p : Nat) (a : ArrayRegs) (x : Desc) (unit : Nat) (nblocks : Nat) (fs : List ArrayFault) :
    (Dev.arrayFaults d p a x unit nblocks fs).1.fixed = d.fixed := by
  simp [Dev.arrayFaults]
@[simp] theorem Dev.sample_fixed (d : Dev) (p : Nat) (i : Issued) :
    (Dev.sample d p i).fixed = d.fixed := by
  unfold Dev.sample; (repeat' (first | split | dsimp only)) <;> simp
@[simp] theorem Dev.memberDone_fixed (d : Dev) (p : Nat) (n : Nat) :
    (Dev.memberDone d p n).fixed = d.fixed := by
  simp [Dev.memberDone]
@[simp] theorem Dev.fmmStore_fixed (d : Dev) (p : Nat) (ty : Tensor) (w : Walk) (lim : Option Nat) (part : Bool) (rowsOut : List (Nat × List FOut)) :
    (Dev.fmmStore d p ty w lim part rowsOut).fixed = d.fixed := by
  simp [Dev.fmmStore]
@[simp] theorem Dev.fmmEnd_fixed (d : Dev) (p : Nat) (i : Issued) (rowsOut : List (Nat × List FOut)) :
    (Dev.fmmEnd d p i rowsOut).fixed = d.fixed := by
  simp [Dev.fmmEnd]
@[simp] theorem Dev.fmmRun_fixed (d : Dev) (p : Nat) (faults : List ArrayFault) (i : Issued) :
    (Dev.fmmRun d p faults i).fixed = d.fixed := by
  unfold Dev.fmmRun; (repeat' (first | split | dsimp only)) <;> simp
@[simp] theorem Dev.fmm_fixed (d : Dev) (p : Nat) (faults : List ArrayFault) :
    (Dev.fmm d p faults).fixed = d.fixed := by
  simp [Dev.fmm]
@[simp] theorem Dev.dripCorrect_fixed (d : Dev) (p : Nat) :
    (Dev.dripCorrect d p).fixed = d.fixed := by
  unfold Dev.dripCorrect; (repeat' (first | split | dsimp only)) <;> simp
@[simp] theorem Dev.stage_fixed (d : Dev) (p : Nat) (src : Tensor) (cols : Nat) (k : Nat) (rows : List Nat) :
    (Dev.stage d p src cols k rows).fixed = d.fixed := by
  simp [Dev.stage]
@[simp] theorem Dev.bWork_fixed (d : Dev) (p : Nat) (work : Nat) (form : Nat) (wide : Bool) :
    (Dev.bWork d p work form wide).fixed = d.fixed := by
  simp [Dev.bWork]
@[simp] theorem Dev.sumInf_fixed (d : Dev) (p : Nat) (b : Bool) :
    (Dev.sumInf d p b).fixed = d.fixed := by
  simp [Dev.sumInf]
@[simp] theorem Dev.shadowEnd_fixed (d : Dev) (p : Nat) (n : Nat) (τ : Nat) (x : Desc) (src : Tensor) (cols : Nat) :
    (Dev.shadowEnd d p n τ x src cols).fixed = d.fixed := by
  unfold Dev.shadowEnd; (repeat' (first | split | dsimp only)) <;> simp
@[simp] theorem Dev.killGroup_fixed (d : Dev) (p : Nat) (n : Nat) :
    (Dev.killGroup d p n).fixed = d.fixed := by
  simp [Dev.killGroup]
@[simp] theorem Dev.shadowTile_fixed (d : Dev) (p : Nat) (faults : List ArrayFault) :
    (Dev.shadowTile d p faults).fixed = d.fixed := by
  unfold Dev.shadowTile; (repeat' (first | split | dsimp only)) <;> simp
@[simp] theorem Dev.fallbackEnd_fixed (d : Dev) (p : Nat) (g : Group) (x : Desc) (src : Tensor) (cols : Nat) :
    (Dev.fallbackEnd d p g x src cols).fixed = d.fixed := by
  unfold Dev.fallbackEnd; (repeat' (first | split | dsimp only)) <;> simp
@[simp] theorem Dev.fallback_fixed (d : Dev) (p : Nat) (faults : List ArrayFault) :
    (Dev.fallback d p faults).fixed = d.fixed := by
  unfold Dev.fallback; (repeat' (first | split | dsimp only)) <;> simp

/-! Backward -/
@[simp] theorem Dev.putScaledRow_fixed (d : Dev) (t : Tensor) (r : Nat) (scale : Nat) (codes : List Nat) :
    (Dev.putScaledRow d t r scale codes).fixed = d.fixed := by
  simp [Dev.putScaledRow]
@[simp] theorem Dev.queueRerun_fixed (d : Dev) (p : Nat) (i : Issued) (g : Int) :
    (Dev.queueRerun d p i g).fixed = d.fixed := by
  simp [Dev.queueRerun]
@[simp] theorem Dev.bmmSlot_fixed (d : Dev) (p : Nat) (i : Issued) (tg : Tensor) (tn : Tensor) (gIn : Int) (hard : Option Nat) :
    (Dev.bmmSlot d p i tg tn gIn hard).fixed = d.fixed := by
  simp [Dev.bmmSlot]
@[simp] theorem Dev.bmmTensor_fixed (d : Dev) (p : Nat) (i : Issued) (tg : Tensor) (tn : Tensor) (td : Tensor) (gIn : Int) (ovr : Option Int) :
    (Dev.bmmTensor d p i tg tn td gIn ovr).fixed = d.fixed := by
  unfold Dev.bmmTensor; (repeat' (first | split | dsimp only)) <;> simp
@[simp] theorem Dev.bmmEnd_fixed (d : Dev) (p : Nat) (i : Issued) (tg : Tensor) (tn : Tensor) (gIn : Int) (ovr : Option Int) (hard : Option Nat) :
    (Dev.bmmEnd d p i tg tn gIn ovr hard).fixed = d.fixed := by
  unfold Dev.bmmEnd; (repeat' (first | split | dsimp only)) <;> simp
@[simp] theorem Dev.bmmWalk_fixed (d : Dev) (p : Nat) (faults : List ArrayFault) (i : Issued) (tg : Tensor) (tn : Tensor) (gIn : Int) (ovr : Option Int) :
    (Dev.bmmWalk d p faults i tg tn gIn ovr).fixed = d.fixed := by
  simp [Dev.bmmWalk]
@[simp] theorem Dev.bmmRun_fixed (d : Dev) (p : Nat) (faults : List ArrayFault) (rd : ReadOutcome) (i : Issued) (ovr : Option Int) :
    (Dev.bmmRun d p faults rd i ovr).fixed = d.fixed := by
  unfold Dev.bmmRun; (repeat' (first | split | dsimp only)) <;> simp
@[simp] theorem Dev.rerun_fixed (d : Dev) (p : Nat) (faults : List ArrayFault) :
    (Dev.rerun d p faults).fixed = d.fixed := by
  unfold Dev.rerun; (repeat' (first | split | dsimp only)) <;> simp
@[simp] theorem Dev.groupVerdict_fixed (d : Dev) (p : Nat) (g : Group) (bits : Nat) :
    (Dev.groupVerdict d p g bits).fixed = d.fixed := by
  unfold Dev.groupVerdict; (repeat' (first | split | dsimp only)) <;> simp
@[simp] theorem Dev.evaluateGroup_fixed (d : Dev) (p : Nat) :
    (Dev.evaluateGroup d p).fixed = d.fixed := by
  unfold Dev.evaluateGroup; (repeat' (first | split | dsimp only)) <;> simp
@[simp] theorem Dev.signalGroup_fixed (d : Dev) (p : Nat) :
    (Dev.signalGroup d p).fixed = d.fixed := by
  unfold Dev.signalGroup; (repeat' (first | split | dsimp only)) <;> simp
@[simp] theorem Dev.adapterAdd_fixed (d : Dev) (p : Nat) (y : Nat) (ya : Nat) (rnd : Nat) (nsat : Bool) :
    (Dev.adapterAdd d p y ya rnd nsat).fixed = d.fixed := by
  unfold Dev.adapterAdd; (repeat' (first | split | dsimp only)) <;> simp

/-! Tender -/
@[simp] theorem Dev.fillRegions_fixed (d : Dev) (b : Nat) (rs : List RegionEnt) (bs : List Byte) : (d.fillRegions b rs bs).fixed = d.fixed := by
  induction rs generalizing d bs with
  | nil => rfl
  | cons r rs ih => unfold Dev.fillRegions; rw [ih, Dev.write_fixed]
@[simp] theorem Dev.putState_fixed (d : Dev) (b : Nat) (bs : List Byte) : (d.putState b bs).fixed = d.fixed := Dev.fillRegions_fixed ..
@[simp] theorem Dev.putProgram_fixed (d : Dev) (bs : List Byte) : (d.putProgram bs).fixed = d.fixed := Dev.fillRegions_fixed ..
@[simp] theorem Dev.moveTables_fixed (d : Dev) (m : Nat × Nat) : (d.moveTables m).fixed = d.fixed := by
  refine foldl_fixed _ _ _ (fun d p => foldl_fixed _ _ _ (fun d i => foldl_fixed _ _ _ (fun d o => ?_)))
  dsimp only
  split
  · rfl
  · rw [Dev.write_fixed]
@[simp] theorem Dev.reloadProgram_fixed (d : Dev) :
    (Dev.reloadProgram d).fixed = d.fixed := by
  simp [Dev.reloadProgram]
@[simp] theorem Dev.tenderPacket_fixed (d : Dev) (l : Nat) (dst : Nat) (kind : Nat) (last : Bool) (off : Nat) (bs : List Byte) :
    (Dev.tenderPacket d l dst kind last off bs).fixed = d.fixed := by
  simp [Dev.tenderPacket]
@[simp] theorem Dev.tenderSend_fixed (d : Dev) (l : Nat) (dst : Nat) (kind : Nat) (off : Nat) (bs : List Byte) :
    (Dev.tenderSend d l dst kind off bs).fixed = d.fixed := by
  simp [Dev.tenderSend]
@[simp] theorem Dev.coupled_fixed (d : Dev) (rs : List (Nat × Nat)) (send : Dev → Dev) (hsend : ∀ y0, (send y0).fixed = y0.fixed) :
    (Dev.coupled d rs send).fixed = d.fixed := by
  simp [Dev.coupled, hsend]
@[simp] theorem Dev.tenderRange_fixed (d : Dev) (p : Nat) (a : Nat) (n : Nat) :
    (Dev.tenderRange d p a n).fixed = d.fixed := by
  unfold Dev.tenderRange; (repeat' (first | split | dsimp only)) <;> simp

/-! Memory -/
@[simp] theorem Dev.countBase_fixed (d : Dev) (s : Nat) (off : Nat) (k : Nat) :
    (Dev.countBase d s off k).fixed = d.fixed := by
  simp [Dev.countBase]
@[simp] theorem Dev.reply_fixed (d : Dev) (bs : List Byte) (bad : Bool) :
    (Dev.reply d bs bad).fixed = d.fixed := by
  simp [Dev.reply]
@[simp] theorem Dev.haltSource_fixed (d : Dev) (src : MemSrc) (code : Nat) :
    (Dev.haltSource d src code).fixed = d.fixed := by
  unfold Dev.haltSource; (repeat' (first | split | dsimp only)) <;> simp
@[simp] theorem Dev.unmappedAccess_fixed (d : Dev) (src : MemSrc) :
    (Dev.unmappedAccess d src).fixed = d.fixed := by
  simp [Dev.unmappedAccess]
@[simp] theorem Dev.windowRead_fixed (d : Dev) (a : Nat) (src : MemSrc) :
    (Dev.windowRead d a src).fixed = d.fixed := by
  unfold Dev.windowRead; (repeat' (first | split | dsimp only)) <;> simp
@[simp] theorem Dev.windowWrite_fixed (d : Dev) (a : Nat) (src : MemSrc) (bs : List Byte) :
    (Dev.windowWrite d a src bs).fixed = d.fixed := by
  unfold Dev.windowWrite; (repeat' (first | split | dsimp only)) <;> simp
@[simp] theorem Dev.dramRead_fixed (d : Dev) (a : Nat) (src : MemSrc) (o : ReadOutcome) (row : List (Fin 32 × Bool)) (copies : List (Nat × List Byte)) :
    (Dev.dramRead d a src o row copies).fixed = d.fixed := by
  unfold Dev.dramRead; (repeat' (first | split | dsimp only)) <;> simp
@[simp] theorem Dev.dramWrite_fixed (d : Dev) (a : Nat) (src : MemSrc) (line : List Byte) :
    (Dev.dramWrite d a src line).fixed = d.fixed := by
  unfold Dev.dramWrite; (repeat' (first | split | dsimp only)) <;> simp
@[simp] theorem Dev.dramPartial_fixed (d : Dev) (a : Nat) (src : MemSrc) (bs : List Byte) (o : ReadOutcome) (row : List (Fin 32 × Bool)) (copies : List (Nat × List Byte)) :
    (Dev.dramPartial d a src bs o row copies).fixed = d.fixed := by
  unfold Dev.dramPartial; (repeat' (first | split | dsimp only)) <;> simp
@[simp] theorem Dev.patrol_fixed (d : Dev) (s : Nat) (o : ReadOutcome) (row : List (Fin 32 × Bool)) (copies : List (Nat × List Byte)) :
    (Dev.patrol d s o row copies).fixed = d.fixed := by
  unfold Dev.patrol; (repeat' (first | split | dsimp only)) <;> simp
@[simp] theorem Dev.bankStall_fixed (d : Dev) (p : Nat) (b : Nat) :
    (Dev.bankStall d p b).fixed = d.fixed := by
  simp [Dev.bankStall]
@[simp] theorem Dev.larEnd_fixed (d : Dev) (p : Nat) (req : Nat) (copies : List (Nat × List Byte)) :
    (Dev.larEnd d p req copies).fixed = d.fixed := by
  simp [Dev.larEnd]
@[simp] theorem Dev.larRead_fixed (d : Dev) (p : Nat) (off : Nat) (req : Nat) (widen : Bool) (o : ReadOutcome) (copies : List (Nat × List Byte)) :
    (Dev.larRead d p off req widen o copies).fixed = d.fixed := by
  unfold Dev.larRead; (repeat' (first | split | dsimp only)) <;> simp
@[simp] theorem Dev.refusals_fixed (d : Dev) (p : Nat) (reqs : List LarderReq) (gs : List LarderReq) :
    (Dev.refusals d p reqs gs).fixed = d.fixed := by
  simp [Dev.refusals]
@[simp] theorem Dev.larAccess_fixed (d : Dev) (p : Nat) (reqs : List LarderReq) (o : ReadOutcome) (copies : List (Nat × List Byte)) :
    (Dev.larAccess d p reqs o copies).fixed = d.fixed := by
  unfold Dev.larAccess
  refine (foldl_fixed _ _ _ (fun d g => ?_)).trans ?_
  · split <;> simp
  refine (foldl_fst_fixed _ _ _ (fun o x => ?_)).trans ?_ <;> simp
@[simp] theorem Dev.larPartial_fixed (d : Dev) (p : Nat) (req : Nat) (off : Nat) (bs : List Byte) (o : ReadOutcome) (copies : List (Nat × List Byte)) :
    (Dev.larPartial d p req off bs o copies).fixed = d.fixed := by
  unfold Dev.larPartial; (repeat' (first | split | dsimp only)) <;> simp

/-! Link -/
@[simp] theorem Dev.setLane_fixed (d : Dev) (c : Nat) (j : Nat) (v : Nat) :
    (Dev.setLane d c j v).fixed = d.fixed := by
  simp [Dev.setLane]
@[simp] theorem Dev.setLanes_fixed (d : Dev) (c : Nat) (v : Nat) :
    (Dev.setLanes d c v).fixed = d.fixed := by
  simp [Dev.setLanes]
@[simp] theorem Dev.laneSync_fixed (d : Dev) (c : Nat) :
    (Dev.laneSync d c).fixed = d.fixed := by
  simp [Dev.laneSync]
@[simp] theorem Dev.portDown_fixed (d : Dev) (c : Nat) :
    (Dev.portDown d c).fixed = d.fixed := by
  simp [Dev.portDown]
@[simp] theorem Dev.startTraining_fixed (d : Dev) (c : Nat) :
    (Dev.startTraining d c).fixed = d.fixed := by
  simp [Dev.startTraining]
@[simp] theorem Dev.trainLanes_fixed (d : Dev) (c : Nat) (r : TrainResult) :
    (Dev.trainLanes d c r).fixed = d.fixed := by
  simp [Dev.trainLanes]
@[simp] theorem Dev.portUp_fixed (d : Dev) (c : Nat) :
    (Dev.portUp d c).fixed = d.fixed := by
  simp [Dev.portUp]
@[simp] theorem Dev.train_fixed (d : Dev) (c : Nat) (r : TrainResult) :
    (Dev.train d c r).fixed = d.fixed := by
  simp [Dev.train]
@[simp] theorem Dev.writeCplCtrl_fixed (d : Dev) (c : Nat) (v : Nat) :
    (Dev.writeCplCtrl d c v).fixed = d.fixed := by
  simp [Dev.writeCplCtrl]
@[simp] theorem Dev.takeWord_fixed (d : Dev) (c : Nat) (cw : Codeword) :
    (Dev.takeWord d c cw).1.fixed = d.fixed := by
  simp [Dev.takeWord]
@[simp] theorem Dev.replaceLane_fixed (d : Dev) (c : Nat) (j : Nat) :
    (Dev.replaceLane d c j).fixed = d.fixed := by
  simp [Dev.replaceLane]
@[simp] theorem Dev.serWindow_fixed (d : Dev) (c : Nat) (counts : List (Nat × Nat)) (uncorr : Nat) :
    (Dev.serWindow d c counts uncorr).fixed = d.fixed := by
  unfold Dev.serWindow; (repeat' (first | split | dsimp only)) <;> simp
@[simp] theorem Dev.laneSwap_fixed (d : Dev) (c : Nat) :
    (Dev.laneSwap d c).fixed = d.fixed := by
  unfold Dev.laneSwap; (repeat' (first | split | dsimp only)) <;> simp
@[simp] theorem Dev.laneRetrain_fixed (d : Dev) (c : Nat) (j : Nat) (ok : Bool) :
    (Dev.laneRetrain d c j ok).fixed = d.fixed := by
  simp [Dev.laneRetrain]
@[simp] theorem Dev.putFlit_fixed (d : Dev) (c : Nat) (f : Flit) :
    (Dev.putFlit d c f).fixed = d.fixed := by
  simp [Dev.putFlit]
@[simp] theorem Dev.flitTransmit_fixed (d : Dev) (c : Nat) :
    (Dev.flitTransmit d c).fixed = d.fixed := by
  unfold Dev.flitTransmit; (repeat' (first | split | dsimp only)) <;> simp
@[simp] theorem Dev.takeAck_fixed (d : Dev) (c : Nat) (f : Flit) :
    (Dev.takeAck d c f).fixed = d.fixed := by
  unfold Dev.takeAck; (repeat' (first | split | dsimp only)) <;> simp
@[simp] theorem Dev.takeCtl_fixed (d : Dev) (c : Nat) (k : LinkCtl) :
    (Dev.takeCtl d c k).fixed = d.fixed := by
  unfold Dev.takeCtl; (repeat' (first | split | dsimp only)) <;> simp
@[simp] theorem Dev.flitReceive_fixed (d : Dev) (c : Nat) (f : Flit) (cw : Codeword) : (Dev.flitReceive d c f cw).fixed = d.fixed := by
  unfold Dev.flitReceive
  split
  · rfl
  have h : ((d.countBase c 0x148 1).takeWord c cw).1.fixed = d.fixed := by simp
  generalize (d.countBase c 0x148 1).takeWord c cw = o at h
  obtain ⟨e, lost⟩ := o
  repeat' (first | split | dsimp only)
  all_goals simp_all

/-! Dammel -/
@[simp] theorem Dev.qpError_fixed (d : Dev) (q : Nat) :
    (Dev.qpError d q).fixed = d.fixed := by
  unfold Dev.qpError; (repeat' (first | split | dsimp only)) <;> simp
@[simp] theorem Dev.writeCpl_fixed (d : Dev) (q : Nat) (tag : Nat) (status : Nat) (r0 : Nat) (r1 : Nat) (dup : Bool) :
    (Dev.writeCpl d q tag status r0 r1 dup).fixed = d.fixed := by
  unfold Dev.writeCpl; (repeat' (first | split | dsimp only)) <;> simp
@[simp] theorem Dev.destroyQp_fixed (d : Dev) (q : Nat) :
    (Dev.destroyQp d q).fixed = d.fixed := by
  unfold Dev.destroyQp; (repeat' (first | split | dsimp only)) <;> simp
@[simp] theorem Dev.dropOrphan_fixed (d : Dev) (q : Nat) (tag : Nat) :
    (Dev.dropOrphan d q tag).fixed = d.fixed := by
  simp [Dev.dropOrphan]
@[simp] theorem Dev.complete_fixed (d : Dev) (who : Issuer) (tag : Nat) (status : Nat) (r0 : Nat) (r1 : Nat) :
    (Dev.complete d who tag status r0 r1).fixed = d.fixed := by
  unfold Dev.complete; (repeat' (first | split | dsimp only)) <;> simp
@[simp] theorem Dev.reject_fixed (d : Dev) (who : Issuer) (tag : Nat) (status : Nat) :
    (Dev.reject d who tag status).fixed = d.fixed := by
  simp [Dev.reject]
@[simp] theorem Dev.emit_fixed (d : Dev) (who : Issuer) (tag : Nat) (bs : List Byte) :
    (Dev.emit d who tag bs).fixed = d.fixed := by
  unfold Dev.emit; (repeat' (first | split | dsimp only)) <;> simp
@[simp] theorem Dev.forwardCmd_fixed (d : Dev) (q : Nat) (tag : Nat) (target : Nat) (e : List Byte) :
    (Dev.forwardCmd d q tag target e).fixed = d.fixed := by
  simp [Dev.forwardCmd]
@[simp] theorem Dev.cmd_fixed (d : Dev) (who : Issuer) (tag : BitVec 32) (op : Nat) (eff : List Byte → Dev → Dev) (heff : ∀ y0 y1, (eff y0 y1).fixed = y1.fixed) :
    (Dev.cmd d who tag op eff).fixed = d.fixed := by
  unfold Dev.cmd; (repeat' (first | split | dsimp only)) <;> simp [heff]
@[simp] theorem Dev.cmdNow_fixed (d : Dev) (who : Issuer) (tag : BitVec 32) (op : Nat) (eff : List Byte → Dev → Dev × Nat × Nat × Nat) (heff : ∀ y0 y1, (eff y0 y1).1.fixed = y1.fixed) :
    (Dev.cmdNow d who tag op eff).fixed = d.fixed := by
  simp [Dev.cmdNow, heff]
@[simp] theorem Dev.sendOut_fixed (d : Dev) (who : Issuer) (tag : BitVec 32) (out : DmaOut) (bs : List Byte) (r0 : Nat) (r1 : Nat) :
    (Dev.sendOut d who tag out bs r0 r1).1.fixed = d.fixed := by
  unfold Dev.sendOut; (repeat' (first | split | dsimp only)) <;> simp
@[simp] theorem Dev.badAccess_fixed (d : Dev) :
    (Dev.badAccess d).fixed = d.fixed := by
  simp [Dev.badAccess]
@[simp] theorem Dev.headCheck_fixed (d : Dev) (st : Option Nat) (e : List Byte) :
    (Dev.headCheck d st e).fixed = d.fixed := by
  unfold Dev.headCheck; (repeat' (first | split | dsimp only)) <;> simp
@[simp] theorem Dev.takeEntry_fixed (d : Dev) (q : Nat) (x : QP) (e : List Byte) :
    (Dev.takeEntry d q x e).fixed = d.fixed := by
  unfold Dev.takeEntry; (repeat' (first | split | dsimp only)) <;> simp
@[simp] theorem Dev.readRing_fixed (d : Dev) (q : Nat) (es : List (List Byte)) : (d.readRing q es).fixed = d.fixed := by
  induction es generalizing d with
  | nil => rfl
  | cons e es ih =>
    unfold Dev.readRing
    split
    · rfl
    dsimp only
    split
    · rfl
    split
    · rfl
    split
    · rfl
    · rw [ih, Dev.takeEntry_fixed]
@[simp] theorem Dev.cmdTail_fixed (d : Dev) (q t : Nat) (es : List (List Byte)) (r : Bool) : (d.cmdTail q t es r).fixed = d.fixed := by
  unfold Dev.cmdTail
  repeat' (first | split | dsimp only)
  all_goals simp
@[simp] theorem Dev.cplHead_fixed (d : Dev) (q : Nat) (head : Nat) :
    (Dev.cplHead d q head).fixed = d.fixed := by
  unfold Dev.cplHead; (repeat' (first | split | dsimp only)) <;> simp
@[simp] theorem Dev.evtHead_fixed (d : Dev) (q : Nat) (head : Nat) :
    (Dev.evtHead d q head).fixed = d.fixed := by
  unfold Dev.evtHead; (repeat' (first | split | dsimp only)) <;> simp
@[simp] theorem Dev.qpCreate_fixed (d : Dev) (boot : Bool) (b : List Byte) :
    (Dev.qpCreate d boot b).1.fixed = d.fixed := by
  simp [Dev.qpCreate]
@[simp] theorem Dev.qpDestroy_fixed (d : Dev) (b : List Byte) :
    (Dev.qpDestroy d b).1.fixed = d.fixed := by
  simp [Dev.qpDestroy]

/-! Flash -/
@[simp] theorem Dev.disableFlash_fixed (d : Dev) :
    (Dev.disableFlash d).fixed = d.fixed := by
  simp [Dev.disableFlash]
@[simp] theorem Dev.wear_fixed (d : Dev) (n : Nat) :
    (Dev.wear d n).fixed = d.fixed := by
  simp [Dev.wear]
@[simp] theorem Dev.channelFails_fixed (d : Dev) (x : Nat) (ch : Nat) :
    (Dev.channelFails d x ch).fixed = d.fixed := by
  simp [Dev.channelFails]
@[simp] theorem Dev.gatherForeign_fixed (d : Dev) :
    (Dev.gatherForeign d).fixed = d.fixed := by
  unfold Dev.gatherForeign; (repeat' (first | split | dsimp only)) <;> simp

/-! Sieve -/
@[simp] theorem Dev.putCodes_fixed (d : Dev) (t : Tensor) (r : Nat) (codes : List Nat) :
    (Dev.putCodes d t r codes).fixed = d.fixed := by
  simp [Dev.putCodes]
@[simp] theorem Dev.dripOvf_fixed (d : Dev) (p : Nat) :
    (Dev.dripOvf d p).fixed = d.fixed := by
  simp [Dev.dripOvf]
@[simp] theorem Dev.cvtPlain_fixed (d : Dev) (p : Nat) (i : Issued) :
    (Dev.cvtPlain d p i).fixed = d.fixed := by
  unfold Dev.cvtPlain; (repeat' (first | split | dsimp only)) <;> simp
@[simp] theorem Dev.putNarrow_fixed (d : Dev) (t : Tensor) (r : Nat) (n : NarrowRow) :
    (Dev.putNarrow d t r n).fixed = d.fixed := by
  simp [Dev.putNarrow]
@[simp] theorem Dev.cvtNarrow_fixed (d : Dev) (p : Nat) (i : Issued) :
    (Dev.cvtNarrow d p i).fixed = d.fixed := by
  unfold Dev.cvtNarrow; (repeat' (first | split | dsimp only)) <;> simp
@[simp] theorem Dev.padRows_fixed (d : Dev) (te : Tensor) :
    (Dev.padRows d te).fixed = d.fixed := by
  simp [Dev.padRows]
@[simp] theorem Dev.convertWeights_fixed (d : Dev) (p : Nat) (layer : Nat) (wstep : Nat) (rnd : Rnd) (wrap : Bool) (te : Tensor) (sr : Nat → Nat → Nat) (rows : List (Nat × List XR)) :
    (Dev.convertWeights d p layer wstep rnd wrap te sr rows).1.fixed = d.fixed := by
  simp [Dev.convertWeights]
@[simp] theorem Dev.cvtWeight_fixed (d : Dev) (p : Nat) (i : Issued) :
    (Dev.cvtWeight d p i).fixed = d.fixed := by
  unfold Dev.cvtWeight; (repeat' (first | split | dsimp only)) <;> simp

end Sys2Proof.Machine
end

