-- ==== Sys2Proof/Laws/FixedPod.lean ====
section
/-! SUPPORT. The operations of the exchanges, the pod, its generations and its recovery leave the fuses and the map of logical engines (`Dev.fixed`) unchanged. -/

set_option linter.unusedSimpArgs false
set_option linter.unusedVariables false

namespace Sys2Proof.Machine

/-! Exchange -/
@[simp] theorem Dev.xPut_fixed (d : Dev) (d0 : Dev) (p : Nat) (x : Desc) (i : Nat) (code : Nat) :
    (Dev.xPut d d0 p x i code).fixed = d.fixed := by
  simp [Dev.xPut]
@[simp] theorem Dev.putXch_fixed (d : Dev) (p : Nat) (x : Xch) :
    (Dev.putXch d p x).fixed = d.fixed := by
  simp [Dev.putXch]
@[simp] theorem Dev.settle_fixed (d : Dev) (p : Nat) :
    (Dev.settle d p).fixed = d.fixed := by
  simp [Dev.settle]
@[simp] theorem Dev.newStream_fixed (d : Dev) (data : Bool) (l : Nat) (group : Nat) (tag : Nat) (src : Option Nat) :
    (Dev.newStream d data l group tag src).fixed = d.fixed := by
  simp [Dev.newStream]
@[simp] theorem Dev.leaveXch_fixed (d : Dev) (p : Nat) (x : Xch) :
    (Dev.leaveXch d p x).fixed = d.fixed := by
  simp [Dev.leaveXch]
@[simp] theorem Dev.tellAbort_fixed (d : Dev) (p : Nat) (x : Xch) :
    (Dev.tellAbort d p x).fixed = d.fixed := by
  simp [Dev.tellAbort]
@[simp] theorem Dev.failXch_fixed (d : Dev) (p : Nat) (x : Xch) (code : Nat) (abort : Bool) :
    (Dev.failXch d p x code abort).fixed = d.fixed := by
  simp [Dev.failXch]
@[simp] theorem Dev.failSource_fixed (d : Dev) (p : Nat) (x : Xch) (stop : Nat) :
    (Dev.failSource d p x stop).fixed = d.fixed := by
  simp [Dev.failSource]
@[simp] theorem Dev.landed_fixed (d : Dev) (p : Nat) (x : Xch) (rest : Dev → Dev) (hrest : ∀ y0, (rest y0).fixed = y0.fixed) :
    (Dev.landed d p x rest).fixed = d.fixed := by
  simp [Dev.landed, hrest]
@[simp] theorem Dev.xchSlot_fixed (d : Dev) (p : Nat) (x : Xch) (rd : ReadOutcome) (rest : Dev → Dev)
    (hrest : ∀ y0, (rest y0).fixed = y0.fixed) : (Dev.xchSlot d p x rd rest).fixed = d.fixed := by
  unfold Dev.xchSlot
  split
  · have h : (d.slotRead p x.desc.xSlot rd).1.fixed = d.fixed := Dev.slotRead_fixed ..
    generalize d.slotRead p x.desc.xSlot rd = o at h
    obtain ⟨e, s⟩ := o
    cases s
    · exact (hrest _).trans h
    · exact (Dev.failSource_fixed ..).trans h
  · exact hrest d
@[simp] theorem Dev.xchRecord_fixed (d : Dev) (p : Nat) (x : Xch) (g : Int) :
    (Dev.xchRecord d p x g).fixed = d.fixed := by
  simp [Dev.xchRecord]
@[simp] theorem Dev.doneXch_fixed (d : Dev) (p : Nat) (x : Xch) :
    (Dev.doneXch d p x).fixed = d.fixed := by
  simp [Dev.doneXch]
@[simp] theorem Dev.transmit_fixed (d : Dev) (p : Nat) (x : Xch) (ctsTotal : Nat) (rd : ReadOutcome) :
    (Dev.transmit d p x ctsTotal rd).fixed = d.fixed := by
  unfold Dev.transmit
  split
  · simp
  refine Dev.xchSlot_fixed _ _ _ _ _ (fun d => ?_)
  (repeat' (first | split | dsimp only)) <;> simp
@[simp] theorem Dev.openXch_fixed (d : Dev) (p : Nat) (i : Issued) :
    (Dev.openXch d p i).2.fixed = d.fixed := by
  simp [Dev.openXch]
@[simp] theorem Dev.runXch_fixed (d : Dev) (p : Nat) (prim : Nat) (eff : Xch → Dev → Dev) (heff : ∀ y0 y1, (eff y0 y1).fixed = y1.fixed) :
    (Dev.runXch d p prim eff).fixed = d.fixed := by
  simp [Dev.runXch, heff]
@[simp] theorem Dev.sendCts_fixed (d : Dev) (p : Nat) (x : Xch) :
    (Dev.sendCts d p x).fixed = d.fixed := by
  simp [Dev.sendCts]
@[simp] theorem Dev.deliverData_fixed (d : Dev) (p : Nat) (x : Xch) (pk : Packet) :
    (Dev.deliverData d p x pk).2.fixed = d.fixed := by
  simp [Dev.deliverData]
@[simp] theorem Dev.unmatched_fixed (d : Dev) (c : Nat) :
    (Dev.unmatched d c).fixed = d.fixed := by
  simp [Dev.unmatched]
@[simp] theorem Dev.putStream_fixed (d : Dev) (s : RxStream) (pk : Packet) (data : Bool) :
    (Dev.putStream d s pk data).fixed = d.fixed := by
  simp [Dev.putStream]
@[simp] theorem Dev.accept_fixed (d : Dev) (c : Nat) (pk : Packet) (data : Bool) (always : Bool) :
    (Dev.accept d c pk data always).fixed = d.fixed := by
  simp [Dev.accept]
@[simp] theorem Dev.receive_fixed (d : Dev) (c : Nat) (pk : Packet) (stream : Option Bool) (rest : Dev → Dev) (hrest : ∀ y0, (rest y0).fixed = y0.fixed) :
    (Dev.receive d c pk stream rest).fixed = d.fixed := by
  simp [Dev.receive, hrest]
@[simp] theorem Dev.tenderIn_fixed (d : Dev) (c : Nat) (pk : Packet) :
    (Dev.tenderIn d c pk).fixed = d.fixed := by
  simp [Dev.tenderIn]
@[simp] theorem Dev.onData_fixed (d : Dev) (c : Nat) (pk : Packet) (rd : ReadOutcome) : (Dev.onData d c pk rd).fixed = d.fixed := by
  unfold Dev.onData
  refine Dev.receive_fixed _ _ _ _ _ (fun d => ?_)
  repeat' split
  all_goals simp
@[simp] theorem Dev.onCts_fixed (d : Dev) (c : Nat) (pk : Packet) (rd : ReadOutcome) : (Dev.onCts d c pk rd).fixed = d.fixed := by
  unfold Dev.onCts
  refine Dev.receive_fixed _ _ _ _ _ (fun d => ?_)
  repeat' (first | split | dsimp only)
  all_goals simp
@[simp] theorem Dev.redSend_fixed (d : Dev) (p : Nat) (c : Nat) (x : Xch) (own : Bool) (ptype : Nat) (off : Nat) (n : Nat) (pl : List Byte) (sg : Int) (hop : Nat) :
    (Dev.redSend d p c x own ptype off n pl sg hop).2.fixed = d.fixed := by
  simp [Dev.redSend]
@[simp] theorem Dev.redFlags_fixed (d : Dev) (p : Nat) (c : Nat) (x : Xch) (inf : Bool) (nan : Bool) :
    (Dev.redFlags d p c x inf nan).2.fixed = d.fixed := by
  simp [Dev.redFlags]
@[simp] theorem Dev.redPut_fixed (d : Dev) (p : Nat) (x : Xch) (off : Nat) (vs : List XR) (sg : Int) :
    (Dev.redPut d p x off vs sg).2.fixed = d.fixed := by
  simp [Dev.redPut]
@[simp] theorem Dev.redDeliver_fixed (d : Dev) (p : Nat) (x : Xch) (off : Nat) (vs : List XR) (sg : Int) :
    (Dev.redDeliver d p x off vs sg).2.fixed = d.fixed := by
  simp [Dev.redDeliver]
@[simp] theorem Dev.redRelease_fixed (d : Dev) (p : Nat) (x : Xch) :
    (Dev.redRelease d p x).2.fixed = d.fixed := by
  simp [Dev.redRelease]
@[simp] theorem Dev.redOwn_fixed (d : Dev) (p : Nat) (c : Nat) (x : Xch) (off : Nat) (sums : List XR) (sg : Int) :
    (Dev.redOwn d p c x off sums sg).2.fixed = d.fixed := by
  simp [Dev.redOwn]
@[simp] theorem Dev.redDone_fixed (d : Dev) (p : Nat) (x : Xch) :
    (Dev.redDone d p x).fixed = d.fixed := by
  simp [Dev.redDone]
@[simp] theorem Dev.redStart_fixed (d : Dev) (p : Nat) (x : Xch) : (Dev.redStart d p x).fixed = d.fixed := by
  unfold Dev.redStart
  extract_lets +onlyGivenNames -merge m d1 q r per
  have h1 : d1.fixed = d.fixed := Dev.newStream_fixed ..
  clear_value d1
  split
  · rw [Dev.failSource_fixed, h1]
  extract_lets +onlyGivenNames -merge parts x o
  refine (Dev.landed_fixed _ _ _ _ (fun d => Dev.redDone_fixed ..)).trans ?_
  refine (foldl_snd_fixed _ _ _ (fun o e => ?_)).trans h1
  dsimp only
  split
  · rw [Dev.redOwn_fixed]
  · rw [Dev.redSend_fixed]
@[simp] theorem Dev.redPass_fixed (d : Dev) (p : Nat) (c : Nat) (x : Xch) (own : Bool) (off : Nat) (n : Nat) (sums : List XR) (e : Int) (h : Nat) :
    (Dev.redPass d p c x own off n sums e h).2.fixed = d.fixed := by
  simp [Dev.redPass]
@[simp] theorem Dev.onPartial_fixed (d : Dev) (c : Nat) (pk : Packet) (rd : ReadOutcome) : (Dev.onPartial d c pk rd).fixed = d.fixed := by
  unfold Dev.onPartial
  refine Dev.receive_fixed _ _ _ _ _ (fun d => ?_)
  split
  · simp
  extract_lets +onlyGivenNames -merge off n
  split
  · simp
  split
  · simp
  refine (Dev.xchSlot_fixed _ _ _ _ _ (fun d => ?_)).trans (Dev.useRecs_fixed ..)
  split
  · simp
  refine (Dev.landed_fixed _ _ _ _ (fun d => by simp)).trans ?_
  rw [Dev.redPass_fixed, Dev.redRelease_fixed, Dev.redFlags_fixed]
@[simp] theorem Dev.onResult_fixed (d : Dev) (c : Nat) (pk : Packet) : (Dev.onResult d c pk).fixed = d.fixed := by
  unfold Dev.onResult
  refine Dev.receive_fixed _ _ _ _ _ (fun d => ?_)
  split
  · simp
  extract_lets +onlyGivenNames -merge off
  split
  · simp
  split
  · simp
  refine (Dev.landed_fixed _ _ _ _ (fun d => by simp)).trans ((Dev.redDeliver_fixed ..).trans ?_)
  split
  · exact (Dev.redFlags_fixed ..).trans (Dev.useRecs_fixed ..)
  · exact (Dev.redSend_fixed ..).trans ((Dev.redFlags_fixed ..).trans (Dev.useRecs_fixed ..))
@[simp] theorem Dev.onAck_fixed (d : Dev) (c : Nat) (pk : Packet) : (d.onAck c pk).fixed = d.fixed := by
  unfold Dev.onAck
  refine Dev.receive_fixed _ _ _ _ _ (fun d => ?_)
  repeat' (first | split | dsimp only)
  all_goals simp
@[simp] theorem Dev.onAbort_fixed (d : Dev) (c : Nat) (pk : Packet) : (d.onAbort c pk).fixed = d.fixed := by
  unfold Dev.onAbort
  refine Dev.receive_fixed _ _ _ _ _ (fun d => ?_)
  repeat' (first | split | dsimp only)
  all_goals simp
@[simp] theorem Dev.onPacket_fixed (d : Dev) (c : Nat) (pk : Packet) (rd : ReadOutcome) :
    (Dev.onPacket d c pk rd).fixed = d.fixed := by
  unfold Dev.onPacket; (repeat' (first | split | dsimp only)) <;> simp
@[simp] theorem Dev.tenderTimeout_fixed (d : Dev) (p : Nat) :
    (Dev.tenderTimeout d p).fixed = d.fixed := by
  simp [Dev.tenderTimeout]
@[simp] theorem Dev.e2eTimeout_fixed (d : Dev) (p : Nat) (k : Nat) :
    (Dev.e2eTimeout d p k).fixed = d.fixed := by
  unfold Dev.e2eTimeout; (repeat' (first | split | dsimp only)) <;> simp
@[simp] theorem Dev.rduTimeout_fixed (d : Dev) (c : Nat) (k : Nat) :
    (Dev.rduTimeout d c k).fixed = d.fixed := by
  unfold Dev.rduTimeout; (repeat' (first | split | dsimp only)) <;> simp
@[simp] theorem Dev.xchStall_fixed (d : Dev) (p : Nat) (k : Nat) :
    (Dev.xchStall d p k).fixed = d.fixed := by
  unfold Dev.xchStall; (repeat' (first | split | dsimp only)) <;> simp
@[simp] theorem Dev.ctsResend_fixed (d : Dev) (p : Nat) (k : Nat) :
    (Dev.ctsResend d p k).fixed = d.fixed := by
  unfold Dev.ctsResend; (repeat' (first | split | dsimp only)) <;> simp

/-! Pod -/
@[simp] theorem Dev.resetTile_fixed (d : Dev) (p : Nat) :
    (Dev.resetTile d p).fixed = d.fixed := by
  simp [Dev.resetTile]
@[simp] theorem Dev.markBad_fixed (d : Dev) (p : Nat) :
    (Dev.markBad d p).fixed = d.fixed := by
  simp [Dev.markBad]
@[simp] theorem Dev.endRun_fixed (d : Dev) (status : Nat) (r0 : Nat) (r1 : Nat) :
    (Dev.endRun d status r0 r1).fixed = d.fixed := by
  unfold Dev.endRun; (repeat' (first | split | dsimp only)) <;> simp
@[simp] theorem Dev.leavePod_fixed (d : Dev) :
    (Dev.leavePod d).fixed = d.fixed := by
  simp [Dev.leavePod]
@[simp] theorem Dev.leavePod2_fixed (d : Dev) :
    (Dev.leavePod2 d).fixed = d.fixed := by
  simp [Dev.leavePod2]
@[simp] theorem Dev.dropState_fixed (d : Dev) :
    (Dev.dropState d).fixed = d.fixed := by
  simp [Dev.dropState]
@[simp] theorem Dev.enterClean_fixed (d : Dev) :
    (Dev.enterClean d).fixed = d.fixed := by
  simp [Dev.enterClean]
@[simp] theorem Dev.joinPod_fixed (d : Dev) (m : Mgmt) :
    (Dev.joinPod d m).fixed = d.fixed := by
  unfold Dev.joinPod; (repeat' (first | split | dsimp only)) <;> simp
@[simp] theorem Dev.onEntry_fixed (d : Dev) (m : Mgmt) (eff : Bool → Dev → Dev) (heff : ∀ y0 y1, (eff y0 y1).fixed = y1.fixed) :
    (Dev.onEntry d m eff).fixed = d.fixed := by
  simp [Dev.onEntry, heff]
@[simp] theorem Dev.onMgmt_fixed (d : Dev) (m : Mgmt) (eff : Bool → Dev → Dev) (heff : ∀ y0 y1, (eff y0 y1).fixed = y1.fixed) :
    (Dev.onMgmt d m eff).fixed = d.fixed := by
  simp [Dev.onMgmt, heff]
@[simp] theorem Dev.onNew_fixed (d : Dev) (m : Mgmt) (eff : Dev → Dev) (heff : ∀ y0, (eff y0).fixed = y0.fixed) :
    (Dev.onNew d m eff).fixed = d.fixed := by
  simp [Dev.onNew, heff]
@[simp] theorem Dev.wrongWay_fixed (d : Dev) :
    (Dev.wrongWay d).fixed = d.fixed := by
  simp [Dev.wrongWay]
@[simp] theorem Dev.phase_fixed (d : Dev) (ph : Nat) :
    (Dev.phase d ph).fixed = d.fixed := by
  simp [Dev.phase]
@[simp] theorem Dev.cause_fixed (d : Dev) (code : Nat) (rank : Nat) (outcome : Nat) :
    (Dev.cause d code rank outcome).fixed = d.fixed := by
  simp [Dev.cause]
@[simp] theorem Dev.queueLists_fixed (d : Dev) (l : Nat) :
    (Dev.queueLists d l).fixed = d.fixed := by
  simp [Dev.queueLists]
@[simp] theorem Dev.openStepNow_fixed (d : Dev) (n : Nat) :
    (Dev.openStepNow d n).fixed = d.fixed := by
  simp [Dev.openStepNow]
@[simp] theorem Dev.sendTrackers_fixed (d : Dev) :
    (Dev.sendTrackers d).fixed = d.fixed := by
  simp [Dev.sendTrackers]
@[simp] theorem Dev.stepClose_fixed (d : Dev) :
    (Dev.stepClose d).fixed = d.fixed := by
  unfold Dev.stepClose; (repeat' (first | split | dsimp only)) <;> simp
@[simp] theorem Dev.closeEngines_fixed (d : Dev) :
    (Dev.closeEngines d).fixed = d.fixed := by
  simp [Dev.closeEngines]
@[simp] theorem Dev.pinTrackers_fixed (d : Dev) :
    (Dev.pinTrackers d).fixed = d.fixed := by
  simp [Dev.pinTrackers]
@[simp] theorem Dev.sendPinned_fixed (d : Dev) : (Dev.sendPinned d).fixed = d.fixed := by
  unfold Dev.sendPinned
  split
  · rfl
  refine foldl_fixed _ _ _ (fun d p => ?_)
  split <;> simp
@[simp] theorem Dev.saveRecord_fixed (d : Dev) :
    (Dev.saveRecord d).fixed = d.fixed := by
  simp [Dev.saveRecord]
@[simp] theorem Dev.applyCommit_fixed (d : Dev) (n : Nat) (dec : Nat) (k : Nat) :
    (Dev.applyCommit d n dec k).fixed = d.fixed := by
  simp [Dev.applyCommit]
@[simp] theorem Dev.localAbort_fixed (d : Dev) :
    (Dev.localAbort d).fixed = d.fixed := by
  simp [Dev.localAbort]
@[simp] theorem Dev.judgeTile_fixed (d : Dev) (p : Nat) :
    (Dev.judgeTile d p).fixed = d.fixed := by
  simp [Dev.judgeTile]
@[simp] theorem Dev.ownAbort_fixed (d : Dev) :
    (Dev.ownAbort d).fixed = d.fixed := by
  simp [Dev.ownAbort]
@[simp] theorem Dev.tellRepaired_fixed (d : Dev) :
    (Dev.tellRepaired d).fixed = d.fixed := by
  simp [Dev.tellRepaired]
@[simp] theorem Dev.tryStart_fixed (d : Dev) :
    (Dev.tryStart d).fixed = d.fixed := by
  unfold Dev.tryStart; (repeat' (first | split | dsimp only)) <;> simp
@[simp] theorem Dev.sendAbortStep_fixed (d : Dev) (code : Nat) (again : Bool) :
    (Dev.sendAbortStep d code again).fixed = d.fixed := by
  simp [Dev.sendAbortStep]
@[simp] theorem Dev.abortPod_fixed (d : Dev) (code : Nat) (rank : Nat) (again : Bool) :
    (Dev.abortPod d code rank again).fixed = d.fixed := by
  unfold Dev.abortPod; (repeat' (first | split | dsimp only)) <;> simp
@[simp] theorem Dev.sendCommit_fixed (d : Dev) (rs : List Nat) (c : Nat × Nat × Nat) :
    (Dev.sendCommit d rs c).fixed = d.fixed := by
  simp [Dev.sendCommit]
@[simp] theorem Dev.onReady_fixed (d : Dev) (m : Mgmt) (a : Nat) (b : Nat) (x : Nat) (y : Nat) :
    (Dev.onReady d m a b x y).fixed = d.fixed := by
  unfold Dev.onReady; (repeat' (first | split | dsimp only)) <;> simp

/-! Members -/
@[simp] theorem Dev.takeMirror_fixed (d : Dev) (m : Option Mirror) :
    (Dev.takeMirror d m).fixed = d.fixed := by
  unfold Dev.takeMirror; (repeat' (first | split | dsimp only)) <;> simp
@[simp] theorem Dev.disablePorts_fixed (d : Dev) (ports : Nat) :
    (Dev.disablePorts d ports).fixed = d.fixed := by
  simp [Dev.disablePorts]
@[simp] theorem Dev.enablePorts_fixed (d : Dev) (ports : Nat) :
    (Dev.enablePorts d ports).fixed = d.fixed := by
  simp [Dev.enablePorts]
@[simp] theorem Dev.greet_fixed (d : Dev) (me : Nat) (c : Change) :
    (Dev.greet d me c).fixed = d.fixed := by
  simp [Dev.greet]
@[simp] theorem Dev.forgetRank_fixed (d : Dev) (r : Nat) :
    (Dev.forgetRank d r).fixed = d.fixed := by
  simp [Dev.forgetRank]
@[simp] theorem Dev.newSeats_fixed (d : Dev) (me : Nat) (c : Change) :
    (Dev.newSeats d me c).fixed = d.fixed := by
  simp [Dev.newSeats]
@[simp] theorem Dev.applyChange_fixed (d : Dev) (c : Change) :
    (Dev.applyChange d c).fixed = d.fixed := by
  simp [Dev.applyChange]
@[simp] theorem Dev.sendPublish_fixed (d : Dev) (parts : List (Nat × Change)) (rs : List Nat) :
    (Dev.sendPublish d parts rs).fixed = d.fixed := by
  simp [Dev.sendPublish]
@[simp] theorem Dev.finishPublish_fixed (d : Dev) :
    (Dev.finishPublish d).fixed = d.fixed := by
  unfold Dev.finishPublish; (repeat' (first | split | dsimp only)) <;> simp
@[simp] theorem Dev.publishPod_fixed (d : Dev) (np : NewPod) (renames : List (Nat × Nat)) (refills : List Nat) (cmd : Option (Issuer × Nat × Nat)) :
    (Dev.publishPod d np renames refills cmd).fixed = d.fixed := by
  simp [Dev.publishPod]
@[simp] theorem Dev.stagedPublish_fixed (d : Dev) (r : Nat) :
    (Dev.stagedPublish d r).fixed = d.fixed := by
  unfold Dev.stagedPublish; (repeat' (first | split | dsimp only)) <;> simp
@[simp] theorem Dev.dropStandby_fixed (d : Dev) (q : Nat) :
    (Dev.dropStandby d q).fixed = d.fixed := by
  simp [Dev.dropStandby]
@[simp] theorem Dev.modFence_fixed (d : Dev) (f : Fencing) (g : Fencing → Fencing) :
    (Dev.modFence d f g).fixed = d.fixed := by
  simp [Dev.modFence]
@[simp] theorem Dev.publishRoles_fixed (d : Dev) :
    (Dev.publishRoles d).fixed = d.fixed := by
  simp [Dev.publishRoles]
@[simp] theorem Dev.tellShort_fixed (d : Dev) (f : Fencing) :
    (Dev.tellShort d f).fixed = d.fixed := by
  simp [Dev.tellShort]
@[simp] theorem Dev.publishReplacement_fixed (d : Dev) (f : Fencing) (q : Nat) :
    (Dev.publishReplacement d f q).fixed = d.fixed := by
  simp [Dev.publishReplacement]
@[simp] theorem Dev.publishFence_fixed (d : Dev) (f : Fencing) :
    (Dev.publishFence d f).fixed = d.fixed := by
  unfold Dev.publishFence; (repeat' (first | split | dsimp only)) <;> simp
@[simp] theorem Dev.nextPublish_fixed (d : Dev) :
    (Dev.nextPublish d).fixed = d.fixed := by
  unfold Dev.nextPublish; (repeat' (first | split | dsimp only)) <;> simp
@[simp] theorem Dev.setRankState_fixed (d : Dev) (r : Nat) (st : Nat) :
    (Dev.setRankState d r st).fixed = d.fixed := by
  simp [Dev.setRankState]
@[simp] theorem Dev.dropForwarded_fixed (d : Dev) (sel : Forwarded → Bool) : (d.dropForwarded sel).fixed = d.fixed := by
  unfold Dev.dropForwarded
  refine (foldl_fixed _ _ _ (fun d f => ?_)).trans (Dev.modPod_fixed ..)
  split <;> simp
@[simp] theorem Dev.declareFailed_fixed (d : Dev) (r code : Nat) : (d.declareFailed r code).fixed = d.fixed := by
  unfold Dev.declareFailed
  split
  · rfl
  extract_lets +onlyGivenNames -merge e ls d1 d2 d3 d4 ns own far d5 d6 d7 d8 d9
  have h9 : d9.fixed = d.fixed := by
    refine (Dev.dropForwarded_fixed ..).trans ?_
    have h7 : d7.fixed = d.fixed := by simp [d7, d6, d5, d4, d3, d2, d1]
    clear_value d7
    unfold d8
    split <;> simp [h7]
  clear_value d9
  split
  · simp [h9]
  · rw [Dev.nextPublish_fixed]
    split
    · split <;> simp [h9]
    · simp [h9]
@[simp] theorem Dev.stagePublish_fixed (d : Dev) (m : Mgmt) (c : Change) :
    (Dev.stagePublish d m c).fixed = d.fixed := by
  simp [Dev.stagePublish]
@[simp] theorem Dev.releasePublish_fixed (d : Dev) :
    (Dev.releasePublish d).fixed = d.fixed := by
  unfold Dev.releasePublish; (repeat' (first | split | dsimp only)) <;> simp
@[simp] theorem Dev.stagedFence_fixed (d : Dev) (r : Nat) :
    (Dev.stagedFence d r).fixed = d.fixed := by
  unfold Dev.stagedFence; (repeat' (first | split | dsimp only)) <;> simp
@[simp] theorem Dev.askVotes_fixed (d : Dev) :
    (Dev.askVotes d).fixed = d.fixed := by
  simp [Dev.askVotes]
@[simp] theorem Dev.becomeManager_fixed (d : Dev) (old : Nat) :
    (Dev.becomeManager d old).fixed = d.fixed := by
  simp [Dev.becomeManager]
@[simp] theorem Dev.commitAgain_fixed (d : Dev) (old : Nat) :
    (Dev.commitAgain d old).fixed = d.fixed := by
  simp [Dev.commitAgain]
@[simp] theorem Dev.takeOver_fixed (d : Dev) (old : Nat) :
    (Dev.takeOver d old).fixed = d.fixed := by
  simp [Dev.takeOver]

/-! Generations -/
@[simp] theorem Dev.writeGen_fixed (d : Dev) (who : Issuer) (tag : Nat) (num : Nat) (step : Nat) (good : Bool) :
    (Dev.writeGen d who tag num step good).1.fixed = d.fixed := by
  unfold Dev.writeGen; (repeat' (first | split | dsimp only)) <;> simp
@[simp] theorem Dev.commandAll_fixed (d : Dev) (op : Nat) (tag : Nat) (body : List Byte) :
    (Dev.commandAll d op tag body).fixed = d.fixed := by
  simp [Dev.commandAll]
@[simp] theorem Dev.startGen_fixed (d : Dev) :
    (Dev.startGen d).fixed = d.fixed := by
  simp [Dev.startGen]
@[simp] theorem Dev.finishGen_fixed (d : Dev) (num : Nat) :
    (Dev.finishGen d num).fixed = d.fixed := by
  unfold Dev.finishGen; (repeat' (first | split | dsimp only)) <;> simp
@[simp] theorem Dev.genReply_fixed (d : Dev) (r : Nat) (num : Nat) (status : Nat) :
    (Dev.genReply d r num status).fixed = d.fixed := by
  simp [Dev.genReply]
@[simp] theorem Dev.pinGen_fixed (d : Dev) (num : Nat) :
    (Dev.pinGen d num).fixed = d.fixed := by
  simp [Dev.pinGen]
@[simp] theorem Dev.writeState_fixed (d : Dev) (state : List Byte) (step : Nat) :
    (Dev.writeState d state step).fixed = d.fixed := by
  simp [Dev.writeState]
@[simp] theorem Dev.sendRestore_fixed (d : Dev) (x : Restoring) :
    (Dev.sendRestore d x).fixed = d.fixed := by
  simp [Dev.sendRestore]
@[simp] theorem Dev.waitStore_fixed (d : Dev) :
    (Dev.waitStore d).fixed = d.fixed := by
  simp [Dev.waitStore]
@[simp] theorem Dev.beginRestore_fixed (d : Dev) (cmd : Option (Issuer × Nat)) (n s : Nat) (e : Dev)
    (h : d.beginRestore cmd n s = .inl e) : e.fixed = d.fixed := by
  unfold Dev.beginRestore at h
  repeat' (first | split at h | dsimp only at h)
  all_goals first | (cases h; done) | (injection h with h; subst h; simp)
@[simp] theorem Dev.outcome23_fixed (d : Dev) : d.outcome23.fixed = d.fixed := by
  unfold Dev.outcome23
  extract_lets +onlyGivenNames -merge d1
  have h1 : d1.fixed = d.fixed := Dev.modPod_fixed ..
  clear_value d1
  split
  · simp [h1]
  split
  · rw [Dev.beginRestore_fixed _ _ _ _ _ (by assumption), h1]
  · simp [h1]
@[simp] theorem Dev.endRestore_fixed (d : Dev) (x : Restoring) (status : Nat) (r0 : Nat) :
    (Dev.endRestore d x status r0).fixed = d.fixed := by
  unfold Dev.endRestore; (repeat' (first | split | dsimp only)) <;> simp
@[simp] theorem Dev.restoreReply_fixed (d : Dev) (r : Nat) (status : Nat) (r0 : Nat) (r1 : Nat) :
    (Dev.restoreReply d r status r0 r1).fixed = d.fixed := by
  unfold Dev.restoreReply; (repeat' (first | split | dsimp only)) <;> simp

/-! Recovery -/
@[simp] theorem Dev.drain_fixed (d : Dev) :
    (Dev.drain d).fixed = d.fixed := by
  unfold Dev.drain; (repeat' (first | split | dsimp only)) <;> simp
@[simp] theorem Dev.admitJoined_fixed (d : Dev) :
    (Dev.admitJoined d).fixed = d.fixed := by
  unfold Dev.admitJoined; (repeat' (first | split | dsimp only)) <;> simp
@[simp] theorem Dev.recoverPod_fixed (d : Dev) :
    (Dev.recoverPod d).fixed = d.fixed := by
  unfold Dev.recoverPod; (repeat' (first | split | dsimp only)) <;> simp
@[simp] theorem Dev.advance_fixed (d : Dev) :
    (Dev.advance d).fixed = d.fixed := by
  simp [Dev.advance]
@[simp] theorem Dev.onCommit_fixed (d : Dev) (m : Mgmt) (dec : Nat) (k : Nat) :
    (Dev.onCommit d m dec k).fixed = d.fixed := by
  simp [Dev.onCommit]
@[simp] theorem Dev.onCommitted_fixed (d : Dev) (m : Mgmt) :
    (Dev.onCommitted d m).fixed = d.fixed := by
  unfold Dev.onCommitted; (repeat' (first | split | dsimp only)) <;> simp
@[simp] theorem Dev.onStart_fixed (d : Dev) (m : Mgmt) :
    (Dev.onStart d m).fixed = d.fixed := by
  simp [Dev.onStart]
@[simp] theorem Dev.tellManager_fixed (d : Dev) (code : Nat) :
    (Dev.tellManager d code).fixed = d.fixed := by
  simp [Dev.tellManager]
@[simp] theorem Dev.setFailedStack_fixed (d : Dev) (f : Nat) :
    (Dev.setFailedStack d f).fixed = d.fixed := by
  simp [Dev.setFailedStack]
@[simp] theorem Dev.remapStack_fixed (d : Dev) (f : Nat) (copies : List (Nat × List Byte)) :
    (Dev.remapStack d f copies).fixed = d.fixed := by
  simp [Dev.remapStack]
@[simp] theorem Dev.stackFails_fixed (d : Dev) (f : Nat) (reported : Bool) (copies : List (Nat × List Byte)) :
    (Dev.stackFails d f reported copies).fixed = d.fixed := by
  simp [Dev.stackFails]
@[simp] theorem Dev.dueFailover_fixed (d : Dev) (copies : List (Nat × List Byte)) :
    (Dev.dueFailover d copies).fixed = d.fixed := by
  unfold Dev.dueFailover; (repeat' (first | split | dsimp only)) <;> simp
@[simp] theorem Dev.endAborted_fixed (d : Dev) (code : Nat) :
    (Dev.endAborted d code).fixed = d.fixed := by
  simp [Dev.endAborted]
@[simp] theorem Dev.noCopy_fixed (d : Dev) :
    (Dev.noCopy d).fixed = d.fixed := by
  simp [Dev.noCopy]
@[simp] theorem Dev.onAbortStep_fixed (d : Dev) (m : Mgmt) (code : Nat) (again : Bool) (copies : List (Nat × List Byte)) :
    (Dev.onAbortStep d m code again copies).fixed = d.fixed := by
  simp [Dev.onAbortStep]
@[simp] theorem Dev.onFault_fixed (d : Dev) (m : Mgmt) (code : Nat) (eng : Nat) (seq : Nat) :
    (Dev.onFault d m code eng seq).fixed = d.fixed := by
  simp [Dev.onFault]
@[simp] theorem Dev.onStaged_fixed (d : Dev) (m : Mgmt) (e : Nat) :
    (Dev.onStaged d m e).fixed = d.fixed := by
  unfold Dev.onStaged; (repeat' (first | split | dsimp only)) <;> simp
@[simp] theorem Dev.onTrigger_fixed (d : Dev) (rank : Nat) (num : Nat) (capture : Bool) :
    (Dev.onTrigger d rank num capture).fixed = d.fixed := by
  simp [Dev.onTrigger]
@[simp] theorem Dev.onHostCmd_fixed (d : Dev) (m : Mgmt) (h : HostHdr) (bs : List Byte) :
    (Dev.onHostCmd d m h bs).fixed = d.fixed := by
  unfold Dev.onHostCmd; (repeat' (first | split | dsimp only)) <;> simp
@[simp] theorem Dev.formReply_fixed (d : Dev) (r : Nat) (c : Nat) :
    (Dev.formReply d r c).fixed = d.fixed := by
  simp [Dev.formReply]
@[simp] theorem Dev.innerReply_fixed (d : Dev) (r : Nat) (tag : Nat) (status : Nat) (r0 : Nat) (r1 : Nat) :
    (Dev.innerReply d r tag status r0 r1).fixed = d.fixed := by
  simp [Dev.innerReply]
@[simp] theorem Dev.onHostCpl_fixed (d : Dev) (m : Mgmt) (h : HostHdr) (bs : List Byte) :
    (Dev.onHostCpl d m h bs).fixed = d.fixed := by
  simp [Dev.onHostCpl]
@[simp] theorem Dev.forwardTimeout_fixed (d : Dev) (tag : Nat) :
    (Dev.forwardTimeout d tag).fixed = d.fixed := by
  simp [Dev.forwardTimeout]
@[simp] theorem Dev.moveRegs_fixed (d : Dev) (old : Nat) (new : Nat) :
    (Dev.moveRegs d old new).fixed = d.fixed := by
  simp [Dev.moveRegs]
@[simp] theorem Dev.refillOwn_fixed (d : Dev) (dst : Nat) (kind : Nat) :
    (Dev.refillOwn d dst kind).fixed = d.fixed := by
  simp [Dev.refillOwn]
@[simp] theorem Dev.refillWard_fixed (d : Dev) (dst : Nat) (kind : Nat) :
    (Dev.refillWard d dst kind).fixed = d.fixed := by
  simp [Dev.refillWard]
@[simp] theorem Dev.refill_fixed (d : Dev) (bind : Dev → RefillIn → Dev) (r : Nat) (x : RefillIn) (hbind : ∀ y0 y1, (bind y0 y1).fixed = y0.fixed) :
    (Dev.refill d bind r x).fixed = d.fixed := by
  unfold Dev.refill; (repeat' (first | split | dsimp only)) <;> simp [hbind]
@[simp] theorem Dev.restoreRegisters_fixed (d : Dev) (rs : List (Nat × Nat)) : (d.restoreRegisters rs).fixed = d.fixed := by
  refine foldl_fixed _ _ _ (fun d e => ?_)
  split <;> simp
@[simp] theorem Dev.completeSince_fixed (d : Dev) (since : List (Nat × Nat)) :
    (Dev.completeSince d since).fixed = d.fixed := by
  simp [Dev.completeSince]
@[simp] theorem Dev.complexSwitch_fixed (d : Dev) :
    (Dev.complexSwitch d).fixed = d.fixed := by
  simp [Dev.complexSwitch]

end Sys2Proof.Machine
end

