-- ==== Sys2Proof/Laws/FixedHost.lean ====
section
/-! SUPPORT. The operations of the Dammel commands, the host, the observers, power and the vector unit leave the fuses and the map of logical engines (`Dev.fixed`) unchanged. -/

set_option linter.unusedSimpArgs false
set_option linter.unusedVariables false

namespace Sys2Proof.Machine

/-! Commands -/
@[simp] theorem Dev.writePlain_fixed (d : Dev) (r : RegId) (v : Nat) :
    (Dev.writePlain d r v).fixed = d.fixed := by
  unfold Dev.writePlain; (repeat' (first | split | dsimp only)) <;> simp
@[simp] theorem Dev.setCfg_fixed (d : Dev) (key : Nat) (v : Nat) :
    (Dev.setCfg d key v).fixed = d.fixed := by
  unfold Dev.setCfg; (repeat' (first | split | dsimp only)) <;> simp
@[simp] theorem Dev.setConfig_fixed (d : Dev) (b : List Byte) :
    (Dev.setConfig d b).1.fixed = d.fixed := by
  simp [Dev.setConfig]
@[simp] theorem Dev.addKey_fixed (d : Dev) (k : KeyEntry) :
    (Dev.addKey d k).fixed = d.fixed := by
  simp [Dev.addKey]
@[simp] theorem Dev.addAdmitted_fixed (d : Dev) (device : Nat) (a : AdmitIn) :
    (Dev.addAdmitted d device a).fixed = d.fixed := by
  simp [Dev.addAdmitted]
@[simp] theorem Dev.addSelf_fixed (d : Dev) :
    (Dev.addSelf d).fixed = d.fixed := by
  simp [Dev.addSelf]
@[simp] theorem Dev.startManaging_fixed (d : Dev) :
    (Dev.startManaging d).fixed = d.fixed := by
  simp [Dev.startManaging]
@[simp] theorem Dev.formPod_fixed (d : Dev) (x : PodIn) :
    (Dev.formPod d x).fixed = d.fixed := by
  simp [Dev.formPod]
@[simp] theorem Dev.podForm_fixed (d : Dev) (x : PodIn) :
    (Dev.podForm d x).1.fixed = d.fixed := by
  unfold Dev.podForm; (repeat' (first | split | dsimp only)) <;> simp
@[simp] theorem Dev.greetPorts_fixed (d : Dev) (r : Nat) (e : RankEntry) :
    (Dev.greetPorts d r e).fixed = d.fixed := by
  simp [Dev.greetPorts]
@[simp] theorem Dev.podAdmit_fixed (d : Dev) (who : Issuer) (tag : Nat) (device : Nat) (a : AdmitIn) :
    (Dev.podAdmit d who tag device a).fixed = d.fixed := by
  unfold Dev.podAdmit; (repeat' (first | split | dsimp only)) <;> simp
@[simp] theorem Dev.podRemove_fixed (d : Dev) (who : Issuer) (tag : Nat) (r : Nat) (how : Nat) :
    (Dev.podRemove d who tag r how).fixed = d.fixed := by
  simp [Dev.podRemove]
@[simp] theorem Dev.releaseSeats_fixed (d : Dev) (ms : List (Nat × List Nat)) :
    (Dev.releaseSeats d ms).fixed = d.fixed := by
  simp [Dev.releaseSeats]
@[simp] theorem Dev.takePlan_fixed (d : Dev) (who : Issuer) (tag : Nat) (bs : List Byte) (l : List (Nat × Nat × List Nat)) :
    (Dev.takePlan d who tag bs l).fixed = d.fixed := by
  simp [Dev.takePlan]
@[simp] theorem Dev.groupPlan_fixed (d : Dev) (who : Issuer) (tag : Nat) (inp : DmaIn) :
    (Dev.groupPlan d who tag inp).fixed = d.fixed := by
  unfold Dev.groupPlan; (repeat' (first | split | dsimp only)) <;> simp
@[simp] theorem Dev.loadProgram_fixed (d : Dev) (x : ProgramIn) :
    (Dev.loadProgram d x).fixed = d.fixed := by
  simp [Dev.loadProgram]
@[simp] theorem Dev.setSeed_fixed (d : Dev) (seed : Nat) :
    (Dev.setSeed d seed).fixed = d.fixed := by
  simp [Dev.setSeed]
@[simp] theorem Dev.bind_fixed (d : Dev) (x : BindIn) :
    (Dev.bind d x).fixed = d.fixed := by
  simp [Dev.bind]
@[simp] theorem Dev.streamProgram_fixed (d : Dev) :
    (Dev.streamProgram d).fixed = d.fixed := by
  simp [Dev.streamProgram]
@[simp] theorem Dev.tensorBind_fixed (d : Dev) (x : BindIn) :
    (Dev.tensorBind d x).1.fixed = d.fixed := by
  unfold Dev.tensorBind; (repeat' (first | split | dsimp only)) <;> simp
@[simp] theorem Dev.bindRefill_fixed (d : Dev) (x : RefillIn) :
    (Dev.bindRefill d x).fixed = d.fixed := by
  simp [Dev.bindRefill]
@[simp] theorem Dev.hostWrite_fixed (d : Dev) (a : Nat) (bs : List Byte) :
    (Dev.hostWrite d a bs).fixed = d.fixed := by
  simp [Dev.hostWrite]
@[simp] theorem Dev.tensorWrite_fixed (d : Dev) (b : List Byte) (inp : DmaIn) :
    (Dev.tensorWrite d b inp).1.fixed = d.fixed := by
  unfold Dev.tensorWrite; (repeat' (first | split | dsimp only)) <;> simp
@[simp] theorem Dev.stateInit_fixed (d : Dev) (who : Issuer) (tag : Nat) (inp : DmaIn) :
    (Dev.stateInit d who tag inp).fixed = d.fixed := by
  unfold Dev.stateInit; (repeat' (first | split | dsimp only)) <;> simp
@[simp] theorem Dev.arm_fixed (d : Dev) (who : Issuer) (tag : Nat) (n : Nat) (micro : Nat) (lr : Nat) :
    (Dev.arm d who tag n micro lr).fixed = d.fixed := by
  simp [Dev.arm]
@[simp] theorem Dev.hostAbort_fixed (d : Dev) (n : Nat) :
    (Dev.hostAbort d n).1.fixed = d.fixed := by
  simp [Dev.hostAbort]

/-! Security -/
@[simp] theorem Dev.setImage_fixed (d : Dev) (b : Bool) (img : List Byte) :
    (Dev.setImage d b img).fixed = d.fixed := by
  simp [Dev.setImage]
@[simp] theorem Dev.showSvn_fixed (d : Dev) :
    (Dev.showSvn d).fixed = d.fixed := by
  simp [Dev.showSvn]
@[simp] theorem Dev.fwActivate_fixed (d : Dev) (who : Issuer) (tag : Nat) (image : Nat) :
    (Dev.fwActivate d who tag image).fixed = d.fixed := by
  simp [Dev.fwActivate]
@[simp] theorem Dev.setMbxState_fixed (d : Dev) (v : Nat) :
    (Dev.setMbxState d v).fixed = d.fixed := by
  simp [Dev.setMbxState]
@[simp] theorem Dev.showImage_fixed (d : Dev) (b : Bool) :
    (Dev.showImage d b).fixed = d.fixed := by
  simp [Dev.showImage]
@[simp] theorem Dev.openHeld_fixed (d : Dev) :
    (Dev.openHeld d).fixed = d.fixed := by
  unfold Dev.openHeld; (repeat' (first | split | dsimp only)) <;> simp
@[simp] theorem Dev.handoverReverted_fixed (d : Dev) :
    (Dev.handoverReverted d).fixed = d.fixed := by
  unfold Dev.handoverReverted; (repeat' (first | split | dsimp only)) <;> simp
@[simp] theorem Dev.certRead_fixed (d : Dev) (who : Issuer) (tag : BitVec 32) (out : DmaOut) (item : Nat) :
    (Dev.certRead d who tag out item).1.fixed = d.fixed := by
  simp [Dev.certRead]
@[simp] theorem Dev.drawChallenge_fixed (d : Dev) (scope : Nat) (duration : Nat) :
    (Dev.drawChallenge d scope duration).1.fixed = d.fixed := by
  simp [Dev.drawChallenge]
@[simp] theorem Dev.denied_fixed (d : Dev) :
    (Dev.denied d).1.fixed = d.fixed := by
  simp [Dev.denied]
@[simp] theorem Dev.openDebug_fixed (d : Dev) (scope : Nat) (duration : Nat) :
    (Dev.openDebug d scope duration).fixed = d.fixed := by
  simp [Dev.openDebug]
@[simp] theorem Dev.answerChallenge_fixed (d : Dev) (sig : List Byte) (late : Bool) :
    (Dev.answerChallenge d sig late).1.fixed = d.fixed := by
  unfold Dev.answerChallenge; (repeat' (first | split | dsimp only)) <;> simp
@[simp] theorem Dev.debugUnlock_fixed (d : Dev) (b : List Byte) (late : Bool) :
    (Dev.debugUnlock d b late).1.fixed = d.fixed := by
  simp [Dev.debugUnlock]
@[simp] theorem Dev.closeDebug_fixed (d : Dev) :
    (Dev.closeDebug d).fixed = d.fixed := by
  simp [Dev.closeDebug]
@[simp] theorem Dev.writeSecDebug_fixed (d : Dev) (v : Nat) :
    (Dev.writeSecDebug d v).fixed = d.fixed := by
  simp [Dev.writeSecDebug]
@[simp] theorem Dev.portOff_fixed (d : Dev) (c : Nat) :
    (Dev.portOff d c).fixed = d.fixed := by
  simp [Dev.portOff]
@[simp] theorem Dev.extest_fixed (d : Dev) :
    (Dev.extest d).fixed = d.fixed := by
  simp [Dev.extest]

/-! Host -/
@[simp] theorem Dev.bootOut_fixed (d : Dev) (tag : Nat) (out : DmaOut) (bs : List Byte) (r0 : Nat) (r1 : Nat) :
    (Dev.bootOut d tag out bs r0 r1).1.fixed = d.fixed := by
  unfold Dev.bootOut; (repeat' (first | split | dsimp only)) <;> simp
@[simp] theorem Dev.bootCommand_fixed (d : Dev) (e : List Byte) (out : DmaOut) : (d.bootCommand e out).1.fixed = d.fixed := by
  unfold Dev.bootCommand
  dsimp only
  repeat' split
  all_goals simp [bootAnswer]
@[simp] theorem Dev.bootDone_fixed (d : Dev) (tag : Nat) (x : List Byte × Nat × Nat × Nat) :
    (Dev.bootDone d tag x).fixed = d.fixed := by
  simp [Dev.bootDone]
@[simp] theorem Dev.bootExecute_fixed (d : Dev) (out : DmaOut) :
    (Dev.bootExecute d out).fixed = d.fixed := by
  unfold Dev.bootExecute; (repeat' (first | split | dsimp only)) <;> simp
@[simp] theorem Dev.writeMbxBoot_fixed (d : Dev) (v : Nat) (inbound : List Byte) (out : DmaOut) :
    (Dev.writeMbxBoot d v inbound out).fixed = d.fixed := by
  simp [Dev.writeMbxBoot]
@[simp] theorem Dev.writeMbx_fixed (d : Dev) (eff : Dev → Dev) (heff : ∀ y0, (eff y0).fixed = y0.fixed) :
    (Dev.writeMbx d eff).fixed = d.fixed := by
  simp [Dev.writeMbx, heff]
@[simp] theorem Dev.writeAperture_fixed (d : Dev) (v : Nat) :
    (Dev.writeAperture d v).fixed = d.fixed := by
  simp [Dev.writeAperture]
@[simp] theorem Dev.restartWatchdog_fixed (d : Dev) :
    (Dev.restartWatchdog d).fixed = d.fixed := by
  simp [Dev.restartWatchdog]
@[simp] theorem Dev.bar2Read_fixed (d : Dev) (off : Nat) (n : Nat) :
    (Dev.bar2Read d off n).fixed = d.fixed := by
  simp [Dev.bar2Read]
@[simp] theorem Dev.barPiece_fixed (d : Dev) (c : Nat × List Byte) :
    (Dev.barPiece d c).fixed = d.fixed := by
  simp [Dev.barPiece]
@[simp] theorem Dev.bar2Write_fixed (d : Dev) (off : Nat) (bs : List Byte) :
    (Dev.bar2Write d off bs).fixed = d.fixed := by
  simp [Dev.bar2Write]
@[simp] theorem Dev.configRequest_fixed (d : Dev) (reg : Nat) (w : Option (BitVec 32)) :
    (Dev.configRequest d reg w).fixed = d.fixed := by
  unfold Dev.configRequest; (repeat' (first | split | dsimp only)) <;> simp
@[simp] theorem Dev.hostLost_fixed (d : Dev) :
    (Dev.hostLost d).fixed = d.fixed := by
  simp [Dev.hostLost]
@[simp] theorem Dev.resetMailbox_fixed (d : Dev) :
    (Dev.resetMailbox d).fixed = d.fixed := by
  simp [Dev.resetMailbox]
@[simp] theorem Dev.flr_fixed (d : Dev) :
    (Dev.flr d).fixed = d.fixed := by
  simp [Dev.flr]
@[simp] theorem Dev.loseDammel_fixed (d : Dev) :
    (Dev.loseDammel d).fixed = d.fixed := by
  simp [Dev.loseDammel]
@[simp] theorem Dev.fundCleared_fixed (d : Dev) :
    (Dev.fundCleared d).fixed = d.fixed := by
  simp [Dev.fundCleared]
@[simp] theorem Dev.lockPlls_fixed (d : Dev) :
    (Dev.lockPlls d).fixed = d.fixed := by
  simp [Dev.lockPlls]
@[simp] theorem Dev.failModule_fixed (d : Dev) :
    (Dev.failModule d).fixed = d.fixed := by
  simp [Dev.failModule]
@[simp] theorem Dev.keepEnables_fixed (d : Dev) (old : Dev) :
    (Dev.keepEnables d old).fixed = d.fixed := by
  simp [Dev.keepEnables]

/-! Observe -/
@[simp] theorem Dev.counterRead_fixed (d : Dev) (who : Issuer) (tag : BitVec 32) (out : DmaOut) (p : Nat) (sel : Nat) :
    (Dev.counterRead d who tag out p sel).1.fixed = d.fixed := by
  simp [Dev.counterRead]
@[simp] theorem Dev.cntClear_fixed (d : Dev) (x : Nat) (v : Nat) :
    (Dev.cntClear d x v).fixed = d.fixed := by
  simp [Dev.cntClear]
@[simp] theorem Dev.baseClear_fixed (d : Dev) (s : Nat) (v : Nat) :
    (Dev.baseClear d s v).fixed = d.fixed := by
  simp [Dev.baseClear]
@[simp] theorem Dev.armTrace_fixed (d : Dev) (x : Nat) :
    (Dev.armTrace d x).fixed = d.fixed := by
  simp [Dev.armTrace]
@[simp] theorem Dev.writeTrcCtrl_fixed (d : Dev) (x : Nat) (v : Nat) :
    (Dev.writeTrcCtrl d x v).fixed = d.fixed := by
  simp [Dev.writeTrcCtrl]
@[simp] theorem Dev.freezeTrace_fixed (d : Dev) (x : Nat) :
    (Dev.freezeTrace d x).fixed = d.fixed := by
  simp [Dev.freezeTrace]
@[simp] theorem Dev.traceRead_fixed (d : Dev) (who : Issuer) (tag : BitVec 32) (out : DmaOut) (x : Nat) (flags : Nat) :
    (Dev.traceRead d who tag out x flags).1.fixed = d.fixed := by
  simp [Dev.traceRead]
@[simp] theorem Dev.snapshotRead_fixed (d : Dev) (who : Issuer) (tag : BitVec 32) (out : DmaOut) (flags : Nat) :
    (Dev.snapshotRead d who tag out flags).1.fixed = d.fixed := by
  simp [Dev.snapshotRead]
@[simp] theorem Dev.hostTrigger_fixed (d : Dev) (b : List Byte) :
    (Dev.hostTrigger d b).1.fixed = d.fixed := by
  simp [Dev.hostTrigger]
@[simp] theorem Dev.trigIn_fixed (d : Dev) (sinceOut : Option Nat) :
    (Dev.trigIn d sinceOut).fixed = d.fixed := by
  simp [Dev.trigIn]
@[simp] theorem Dev.pulseEnd_fixed (d : Dev) :
    (Dev.pulseEnd d).fixed = d.fixed := by
  simp [Dev.pulseEnd]
@[simp] theorem Dev.trigOutFault_fixed (d : Dev) :
    (Dev.trigOutFault d).fixed = d.fixed := by
  simp [Dev.trigOutFault]
@[simp] theorem Dev.writeTrigCfg_fixed (d : Dev) (v : Nat) :
    (Dev.writeTrigCfg d v).fixed = d.fixed := by
  simp [Dev.writeTrigCfg]
@[simp] theorem Dev.smbAttempt_fixed (d : Dev) (sda : Bool) (scl : Bool) (freed : Bool) :
    (Dev.smbAttempt d sda scl freed).fixed = d.fixed := by
  simp [Dev.smbAttempt]
@[simp] theorem Dev.smbStuck_fixed (d : Dev) (sda : Bool) (scl : Bool) (freed : Bool) :
    (Dev.smbStuck d sda scl freed).fixed = d.fixed := by
  simp [Dev.smbStuck]

/-! Power -/
@[simp] theorem Dev.modPower_fixed (d : Dev) (f : Power → Power) :
    (Dev.modPower d f).fixed = d.fixed := by
  simp [Dev.modPower]
@[simp] theorem Dev.applySteps_fixed (d : Dev) :
    (Dev.applySteps d).fixed = d.fixed := by
  simp [Dev.applySteps]
@[simp] theorem Dev.judgePower_fixed (d : Dev) :
    (Dev.judgePower d).fixed = d.fixed := by
  simp [Dev.judgePower]
@[simp] theorem Dev.powerSample_fixed (d : Dev) (watts : Nat) (dv : Nat) :
    (Dev.powerSample d watts dv).fixed = d.fixed := by
  simp [Dev.powerSample]
@[simp] theorem Dev.railsOff_fixed (d : Dev) :
    (Dev.railsOff d).fixed = d.fixed := by
  simp [Dev.railsOff]
@[simp] theorem Dev.judgeHeat_fixed (d : Dev) (hot : Nat) :
    (Dev.judgeHeat d hot).fixed = d.fixed := by
  simp [Dev.judgeHeat]
@[simp] theorem Dev.thermalSample_fixed (d : Dev) (temps : List Nat) :
    (Dev.thermalSample d temps).fixed = d.fixed := by
  simp [Dev.thermalSample]
@[simp] theorem Dev.inputLow_fixed (d : Dev) (dv : Nat) :
    (Dev.inputLow d dv).fixed = d.fixed := by
  simp [Dev.inputLow]
@[simp] theorem Dev.inputRelease_fixed (d : Dev) (dv : Nat) :
    (Dev.inputRelease d dv).fixed = d.fixed := by
  simp [Dev.inputRelease]
@[simp] theorem Dev.inputHigh_fixed (d : Dev) (dv : Nat) :
    (Dev.inputHigh d dv).fixed = d.fixed := by
  simp [Dev.inputHigh]
@[simp] theorem Dev.enginePll_fixed (d : Dev) (x : Nat) :
    (Dev.enginePll d x).fixed = d.fixed := by
  simp [Dev.enginePll]
@[simp] theorem Dev.pllUnlock_fixed (d : Dev) (w : PllWhich) :
    (Dev.pllUnlock d w).fixed = d.fixed := by
  unfold Dev.pllUnlock; (repeat' (first | split | dsimp only)) <;> simp
@[simp] theorem Dev.writeTileCtrl_fixed (d : Dev) (x : Nat) (v : Nat) :
    (Dev.writeTileCtrl d x v).fixed = d.fixed := by
  simp [Dev.writeTileCtrl]
@[simp] theorem Dev.sensor_fixed (d : Dev) (f : Fld) (ok : Bool) :
    (Dev.sensor d f ok).fixed = d.fixed := by
  simp [Dev.sensor]
@[simp] theorem Dev.showReading_fixed (d : Dev) (f : Fld) (ok : Bool) (v : Nat) :
    (Dev.showReading d f ok v).fixed = d.fixed := by
  simp [Dev.showReading]
@[simp] theorem Dev.readCoolant_fixed (d : Dev) (x : Coolant) :
    (Dev.readCoolant d x).fixed = d.fixed := by
  simp [Dev.readCoolant]
@[simp] theorem Dev.judgeOutlet_fixed (d : Dev) (t : Int) :
    (Dev.judgeOutlet d t).fixed = d.fixed := by
  simp [Dev.judgeOutlet]
@[simp] theorem Dev.judgeFlow_fixed (d : Dev) (i : Nat) :
    (Dev.judgeFlow d i).fixed = d.fixed := by
  simp [Dev.judgeFlow]
@[simp] theorem Dev.judgeLeak_fixed (d : Dev) (r : Nat) :
    (Dev.judgeLeak d r).fixed = d.fixed := by
  simp [Dev.judgeLeak]
@[simp] theorem Dev.coolantSample_fixed (d : Dev) (x : Coolant) :
    (Dev.coolantSample d x).fixed = d.fixed := by
  simp [Dev.coolantSample]
@[simp] theorem Dev.leakOff_fixed (d : Dev) (wet : Bool) :
    (Dev.leakOff d wet).fixed = d.fixed := by
  simp [Dev.leakOff]

/-! Shunter -/
theorem Dev.doMove_fixed (src : Dev) (e : Nat) (pb : List Byte) (d : Dev) (m : Move) : (src.doMove e pb d m).fixed = d.fixed := by
  unfold Dev.doMove; split <;> simp
@[simp] theorem Dev.shunt_fixed (d : Dev) (p : Nat) (i : Issued) : (d.shunt p i).fixed = d.fixed := by
  unfold Dev.shunt
  extract_lets +onlyGivenNames -merge x pl
  split
  extract_lets +onlyGivenNames -merge count ps vs wr d1 d2 d3 d4 d5
  rw [Dev.finish_fixed, Dev.item_fixed]
  have h2 : d2.fixed = d.fixed := by
    simp only [d2, Dev.bump_fixed]
    exact foldl_fixed _ _ _ (fun _ _ => Dev.doMove_fixed ..)
  clear_value d2
  have h3 : d3.fixed = d.fixed := by unfold d3; split <;> simp [h2]
  clear_value d3
  have h4 : d4.fixed = d.fixed := by unfold d4; split <;> simp [h3]
  clear_value d4
  unfold d5
  split <;> simp [h4]
@[simp] theorem Dev.shnSeal_fixed (d : Dev) (p : Nat) (x : Desc) (rd : ReadOutcome) :
    (Dev.shnSeal d p x rd).1.fixed = d.fixed := by
  simp [Dev.shnSeal]
@[simp] theorem Dev.runShn_fixed (d : Dev) (p kind : Nat) (rd : ReadOutcome) : (Dev.runShn d p kind rd).fixed = d.fixed := by
  unfold Dev.runShn
  refine (Dev.liftHold_fixed ..).trans (Dev.runUnit_fixed _ _ _ _ _ (fun i d => ?_))
  refine Dev.startChecked_fixed _ _ _ _ _ (fun d => ?_)
  refine (Dev.startChecked_fixed _ _ _ _ _ (fun d => by simp)).trans ?_
  simp

/-! Vec -/
@[simp] theorem Dev.vecWrite_fixed (d : Dev) (p : Nat) (x : Desc) (t : Tensor) (rows : List (List XR)) :
    (Dev.vecWrite d p x t rows).fixed = d.fixed := by
  simp [Dev.vecWrite]
@[simp] theorem Dev.putKept_fixed (d : Dev) (x : Desc) (t : Tensor) (r : Nat) (vs : List XR) :
    (Dev.putKept d x t r vs).fixed = d.fixed := by
  simp [Dev.putKept]
@[simp] theorem Dev.vecRun_fixed (d : Dev) (p : Nat) (op : Nat) (chk : Desc → Dev → Chk) (eff : Desc → Dev → Dev) (heff : ∀ y0 y1, (eff y0 y1).fixed = y1.fixed) :
    (Dev.vecRun d p op chk eff).fixed = d.fixed := by
  simp [Dev.vecRun, heff]
@[simp] theorem Dev.vecMap_fixed (d : Dev) (p : Nat) (x : Desc) (f : XR → XR → XR → XR) :
    (Dev.vecMap d p x f).fixed = d.fixed := by
  unfold Dev.vecMap; (repeat' (first | split | dsimp only)) <;> simp
@[simp] theorem Dev.vecFun_fixed (d : Dev) (p : Nat) (x : Desc) (f : XR → XR) :
    (Dev.vecFun d p x f).fixed = d.fixed := by
  simp [Dev.vecFun]
@[simp] theorem Dev.rmsnorm_fixed (d : Dev) (p : Nat) (x : Desc) :
    (Dev.rmsnorm d p x).fixed = d.fixed := by
  unfold Dev.rmsnorm; (repeat' (first | split | dsimp only)) <;> simp
@[simp] theorem Dev.rmsnormBwd_fixed (d : Dev) (p : Nat) (x : Desc) :
    (Dev.rmsnormBwd d p x).fixed = d.fixed := by
  unfold Dev.rmsnormBwd; (repeat' (first | split | dsimp only)) <;> simp
@[simp] theorem Dev.softmax_fixed (d : Dev) (p : Nat) (x : Desc) :
    (Dev.softmax d p x).fixed = d.fixed := by
  unfold Dev.softmax; (repeat' (first | split | dsimp only)) <;> simp
@[simp] theorem Dev.softmaxBwd_fixed (d : Dev) (p : Nat) (x : Desc) :
    (Dev.softmaxBwd d p x).fixed = d.fixed := by
  unfold Dev.softmaxBwd; (repeat' (first | split | dsimp only)) <;> simp
@[simp] theorem Dev.xent_fixed (d : Dev) (p : Nat) (x : Desc) :
    (Dev.xent d p x).fixed = d.fixed := by
  unfold Dev.xent; (repeat' (first | split | dsimp only)) <;> simp
@[simp] theorem Dev.siluBwd_fixed (d : Dev) (p : Nat) (x : Desc) :
    (Dev.siluBwd d p x).fixed = d.fixed := by
  unfold Dev.siluBwd; (repeat' (first | split | dsimp only)) <;> simp
@[simp] theorem Dev.dropOut_fixed (d : Dev) (p : Nat) (x : Desc) :
    (Dev.dropOut d p x).fixed = d.fixed := by
  unfold Dev.dropOut; (repeat' (first | split | dsimp only)) <;> simp
@[simp] theorem Dev.vecSlot_fixed (d : Dev) (p : Nat) (x : Desc) (rd : ReadOutcome) (cs : Nat → Nat → List Contrib) :
    (Dev.vecSlot d p x rd cs).fixed = d.fixed := by
  unfold Dev.vecSlot; (repeat' (first | split | dsimp only)) <;> simp
@[simp] theorem Dev.vecSlotRun_fixed (d : Dev) (p : Nat) (op : Nat) (rd : ReadOutcome) (cs : Desc → Dev → Nat → Nat → List Contrib) (after : Desc → Dev → Dev) (hafter : ∀ y0 y1, (after y0 y1).fixed = y1.fixed) :
    (Dev.vecSlotRun d p op rd cs after).fixed = d.fixed := by
  simp [Dev.vecSlotRun, hafter]
@[simp] theorem Dev.maxMask_fixed (d : Dev) (p : Nat) (x : Desc) :
    (Dev.maxMask d p x).fixed = d.fixed := by
  unfold Dev.maxMask; (repeat' (first | split | dsimp only)) <;> simp
@[simp] theorem Dev.binCount_fixed (d : Dev) (p : Nat) (x : Desc) :
    (Dev.binCount d p x).fixed = d.fixed := by
  unfold Dev.binCount; (repeat' (first | split | dsimp only)) <;> simp

/-! Update -/
@[simp] theorem Dev.updPut_fixed (d : Dev) (ada : Bool) (x : Desc) (wn : Tensor) (mn : Tensor) (vn : Option Tensor) (outs : List (Nat × List UpdOut)) :
    (Dev.updPut d ada x wn mn vn outs).fixed = d.fixed := by
  unfold Dev.updPut; (repeat' (first | split | dsimp only)) <;> simp
@[simp] theorem Dev.updTell_fixed (d : Dev) (p : Nat) (run : UpdRun) (run' : UpdRun) (drips : Nat) (mat : Nat) :
    (Dev.updTell d p run run' drips mat).fixed = d.fixed := by
  simp [Dev.updTell]
@[simp] theorem Dev.updSend_fixed (d : Dev) (p : Nat) (ada : Bool) (x : Desc) (wn : Tensor) (mn : Tensor) (te : Tensor) (rn : Tensor) (vn : Option Tensor) (rows : List Nat) :
    (Dev.updSend d p ada x wn mn te rn vn rows).fixed = d.fixed := by
  simp [Dev.updSend]
@[simp] theorem Dev.updItems_fixed (d : Dev) (p : Nat) (x : Desc) (whisk : Bool) (kp : Nat) :
    (Dev.updItems d p x whisk kp).fixed = d.fixed := by
  simp [Dev.updItems]
@[simp] theorem Dev.update_fixed (d : Dev) (p : Nat) (ada : Bool) (x : Desc) :
    (Dev.update d p ada x).fixed = d.fixed := by
  unfold Dev.update; (repeat' (first | split | dsimp only)) <;> simp
@[simp] theorem Dev.runUpdate_fixed (d : Dev) (p : Nat) (ada : Bool) :
    (Dev.runUpdate d p ada).fixed = d.fixed := by
  simp [Dev.runUpdate]

/-! Writes -/
@[simp] theorem Dev.writeMgmtStatus_fixed (d : Dev) (v : Nat) :
    (Dev.writeMgmtStatus d v).fixed = d.fixed := by
  simp [Dev.writeMgmtStatus]
@[simp] theorem Dev.writeRegister_fixed (d : Dev) (r : RegId) (v : Nat) :
    (Dev.writeRegister d r v).fixed = d.fixed := by
  unfold Dev.writeRegister; (repeat' (first | split | dsimp only)) <;> simp

end Sys2Proof.Machine
end

