-- ==== Sys2Proof/Laws/Follows.lean ====
section
/-! SUPPORT. What may become of the fuses and of the map of logical engines: the operations that change one of them, and the
operations that contain those. Every other operation leaves both unchanged (the lemmas `…_fixed`). -/

namespace Sys2Proof.Machine

/-- From d to e the fuses keep what they promise, and each engine stays on its die. -/
def Dev.Follows (d e : Dev) : Prop := Fuses.Keeps d.fuses e.fuses ∧ (d.OnDie → e.OnDie)

theorem Fuses.Keeps.refl (f : Fuses) : Fuses.Keeps f f := ⟨rfl, rfl, rfl, rfl, Nat.le_refl _, Nat.le_refl _, fun _ => rfl⟩

theorem Fuses.Keeps.trans {f g h : Fuses} (a : Fuses.Keeps f g) (b : Fuses.Keeps g h) : Fuses.Keeps f h :=
  ⟨b.deviceId.trans a.deviceId, b.vendorHash.trans a.vendorHash, b.key.trans a.key, b.keyStby.trans a.keyStby,
   Nat.le_trans a.svn b.svn, Nat.le_trans a.svnStby b.svnStby,
   fun o => (b.owner (by rw [a.owner o]; exact o)).trans (a.owner o)⟩

theorem Dev.Follows.refl (d : Dev) : d.Follows d := ⟨Fuses.Keeps.refl _, id⟩

theorem Dev.Follows.trans {d e f : Dev} (a : d.Follows e) (b : e.Follows f) : d.Follows f := ⟨a.1.trans b.1, b.2 ∘ a.2⟩

theorem Dev.tileOf_of_fixed {d e : Dev} (h : e.fixed = d.fixed) (l : Nat) : e.tileOf l = d.tileOf l := by
  unfold Dev.tileOf
  rw [show e.engMap = d.engMap from congrArg Prod.snd h]

theorem Dev.follows_of_fixed {d e : Dev} (h : e.fixed = d.fixed) : d.Follows e := by
  have hf : e.fuses = d.fuses := congrArg Prod.fst h
  exact ⟨hf ▸ Fuses.Keeps.refl _, fun o l hl => (congrArg (· / 5) (Dev.tileOf_of_fixed h l)).trans (o l hl)⟩

/-- An operation that leaves fuses and map alone may follow or precede. -/
theorem Dev.Follows.fixed_right {d e f : Dev} (a : d.Follows e) (h : f.fixed = e.fixed) : d.Follows f := a.trans (Dev.follows_of_fixed h)
theorem Dev.Follows.fixed_left {d e f : Dev} (h : e.fixed = d.fixed) (a : e.Follows f) : d.Follows f := (Dev.follows_of_fixed h).trans a

theorem Dev.burnSvn_follows (d : Dev) (v : Nat) : d.Follows (d.burnSvn v) := by
  unfold Dev.burnSvn
  dsimp only
  refine Dev.Follows.fixed_right (e := d.withFuses { d.fuses with svn := Nat.max (Nat.min v 64) d.fuses.svn, svnStby := Nat.max (Nat.min v 64) d.fuses.svnStby }) ?_ (by simp)
  exact ⟨⟨rfl, rfl, rfl, rfl, Nat.le_max_right _ _, Nat.le_max_right _ _, fun _ => rfl⟩, id⟩

theorem Dev.svnRule_follows (d : Dev) : d.Follows d.svnRule := by
  unfold Dev.svnRule
  dsimp only
  split
  · exact Dev.follows_of_fixed (by simp)
  split
  · exact Dev.burnSvn_follows ..
  · exact Dev.follows_of_fixed (by simp)

theorem Dev.fwUpdate_follows (d : Dev) (t : Nat) (inp : DmaIn) (good : Bool) : d.Follows (d.fwUpdate t inp good).1 := by
  unfold Dev.fwUpdate
  split
  · exact .refl d
  split
  · exact .refl d
  split
  · exact .refl d
  split
  · exact .refl d
  dsimp only
  split
  · exact .refl d
  have h (e : Dev) (he : e.fixed = d.fixed) : d.Follows (if e.svc.svnDeferred = true then e.svnRule else e) := by
    split
    · exact .fixed_left he (Dev.svnRule_follows _)
    · exact Dev.follows_of_fixed he
  split <;> exact h _ (by simp)

theorem Dev.ownerEnrol_follows (d : Dev) (body : List Byte) : d.Follows (d.ownerEnrol body).1 := by
  unfold Dev.ownerEnrol
  dsimp only
  split
  · exact .refl d
  split
  · exact .refl d
  rename_i h
  have h : d.fuses.ownerHash = 0 := Decidable.not_not.mp h
  split
  · exact .refl d
  refine Dev.Follows.fixed_right (e := d.withFuses { d.fuses with ownerHash := beNat (sha256 (body.take 64)) }) ?_ (by simp)
  exact ⟨⟨rfl, rfl, rfl, rfl, Nat.le_refl _, Nat.le_refl _, fun n => absurd h n⟩, id⟩

theorem Dev.startImage_follows (d : Dev) (b f : Bool) : d.Follows (d.startImage b f) := by
  unfold Dev.startImage
  refine .fixed_left ?_ (Dev.svnRule_follows _)
  dsimp only
  split <;> simp

theorem Dev.bootFlash_follows (d : Dev) : d.Follows d.bootFlash := by
  unfold Dev.bootFlash
  dsimp only
  split
  · exact Dev.startImage_follows ..
  split
  · exact Dev.startImage_follows ..
  · exact Dev.follows_of_fixed (by simp)

theorem Dev.fundReset_follows (d : Dev) : d.Follows d.fundReset := by
  unfold Dev.fundReset
  dsimp only
  split
  · exact Dev.follows_of_fixed (by simp)
  · exact .fixed_left (by simp) (Dev.bootFlash_follows _)

theorem Dev.handoverDone_follows (d : Dev) (b : Bool) (w : Issuer) (t : Nat) : d.Follows (d.handoverDone b w t) := by
  unfold Dev.handoverDone
  dsimp only
  refine Dev.Follows.fixed_right (.fixed_left ?_ (Dev.svnRule_follows _)) ((Dev.advance_fixed _).trans (Dev.openHeld_fixed _))
  rw [Dev.withFlash_fixed, Dev.complete_fixed, Dev.setFld_fixed, Dev.raise_fixed, Dev.setMbxState_fixed, Dev.showImage_fixed,
    Dev.withSvc_fixed]

theorem Dev.handoverStep_follows (d : Dev) (ok : Bool) : d.Follows (d.handoverStep ok) := by
  unfold Dev.handoverStep
  split
  · exact .refl d
  split
  · split
    · exact Dev.handoverDone_follows ..
    · exact Dev.follows_of_fixed (by simp)
  split
  · exact Dev.follows_of_fixed (by simp)
  · exact .refl d

/-- A command of Dammel's does what its effect does, and completes. -/
theorem Dev.cmd_follows (d : Dev) (who : Issuer) (tag : BitVec 32) (op : Nat) (run : List Byte → Dev → Dev)
    (h : ∀ b e, Dev.Follows e (run b e)) : d.Follows (d.cmd who tag op run) := by
  unfold Dev.cmd
  (repeat' (first | split | dsimp only))
  all_goals first
    | exact .refl d
    | exact h ..
    | exact .fixed_left (by simp) (h ..)
    | exact .fixed_right (h ..) (by simp)
    | exact .fixed_left (by simp) (.fixed_right (h ..) (by simp))
    | exact Dev.follows_of_fixed (by simp)

theorem Dev.cmdNow_follows (d : Dev) (who : Issuer) (tag : BitVec 32) (op : Nat) (eff : List Byte → Dev → Dev × Nat × Nat × Nat)
    (h : ∀ b e, Dev.Follows e (eff b e).1) : d.Follows (d.cmdNow who tag op eff) := by
  unfold Dev.cmdNow
  refine Dev.cmd_follows _ _ _ _ _ (fun b e => (h b e).fixed_right ?_)
  dsimp only
  rw [Dev.complete_fixed]
  split <;> simp

/-! The map of engines -/

theorem Dev.onDie_default {d : Dev} (h : d.engMap = []) : d.OnDie := by
  intro l hl
  unfold Dev.tileOf
  rw [h]
  show (5 * (l / 4) + l % 4) / 5 = l / 4
  omega

/-- A loss of power leaves the fuses; after it every engine stands on its own tile. -/
theorem Dev.afterPower_follows (d : Dev) : d.Follows d.afterPower :=
  ⟨Fuses.Keeps.refl _, fun _ => Dev.onDie_default rfl⟩

theorem Dev.setEngMap_onDie {d : Dev} (h : d.OnDie) (l t : Nat) (ht : l < 64 → t / 5 = l / 4) :
    (d.withEngMap (tset (5 * (l / 4) + l % 4) d.engMap l t)).OnDie := by
  intro k hk
  unfold Dev.tileOf
  rw [Dev.withEngMap_engMap]
  by_cases e : k = l
  · subst e; rw [tget_tset_same]; exact ht hk
  · rw [tget_tset_other _ _ _ _ _ _ e]; exact h k hk

theorem Dev.placeEngines_follows (d : Dev) : d.Follows d.placeEngines := by
  unfold Dev.placeEngines
  generalize List.range 16 = xs
  induction xs generalizing d with
  | nil => exact .refl d
  | cons x xs ih =>
    rw [List.foldl_cons]
    refine Dev.Follows.trans ?_ (ih _)
    split
    · rename_i t ht _
      have ht : t < 4 := by
        have hm : t ∈ d.badTilesOf x := ht ▸ List.mem_singleton_self t
        exact List.mem_range.mp (List.mem_filter.mp hm).1
      refine .fixed_right (e := d.withEngMap (tset (5 * x + t) d.engMap (4 * x + t) (5 * x + 4))) ?_ (by simp)
      refine ⟨Fuses.Keeps.refl _, fun o => ?_⟩
      have := Dev.setEngMap_onDie o (4 * x + t) (5 * x + 4) (fun _ => by omega)
      rwa [show 5 * ((4 * x + t) / 4) + (4 * x + t) % 4 = 5 * x + t by omega] at this
    · exact .refl d

theorem Dev.moveEngine_follows (d : Dev) (l old new : Nat) (copies : List (Nat × List Byte)) (h : d.OnDie → l < 64 → new / 5 = l / 4) :
    d.Follows (d.moveEngine l old new copies) := by
  unfold Dev.moveEngine
  refine .fixed_right (e := d.withEngMap (tset (5 * (l / 4) + l % 4) d.engMap l new))
    ⟨Fuses.Keeps.refl _, fun o => Dev.setEngMap_onDie o l new (h o)⟩ ?_
  simp

theorem Dev.spareTile_die {d : Dev} {x p : Nat} (h : d.spareTile x = some p) : p / 5 = x := by
  unfold Dev.spareTile at h
  obtain ⟨t, ht, rfl⟩ := List.mem_map.mp (List.mem_of_find?_eq_some h)
  have := List.mem_range.mp ht
  omega

theorem Dev.replaceTile_follows (d : Dev) (l : Nat) (copies : List (Nat × List Byte)) : d.Follows (d.replaceTile l copies) := by
  unfold Dev.replaceTile
  split
  · exact .refl d
  dsimp only
  split
  · exact Dev.follows_of_fixed (by simp)
  · rename_i new hn
    have hd := Dev.spareTile_die hn
    have hm : ((d.markBad (d.tileOf l)).modPod (fun p => { p with replace := p.replace.filter (· ≠ l) })).fixed = d.fixed := by simp
    refine Dev.Follows.fixed_right (.fixed_left hm (Dev.moveEngine_follows _ _ _ _ _ (fun o hl => ?_)))
      ((Dev.tellRepaired_fixed _).trans (Dev.raise_fixed ..))
    exact (hd.trans (congrArg (· / 5) (Dev.tileOf_of_fixed hm l)).symm).trans (o l hl)

theorem Dev.booted_follows (d : Dev) : d.Follows d.booted := by
  have h : d.Follows ((d.afterPower.keepEnables d).withPower { on := true, rails := true }).bootFlash :=
    (Dev.afterPower_follows d).trans (.fixed_left (by simp) (Dev.bootFlash_follows _))
  unfold Dev.booted
  dsimp only
  split
  · exact h.fixed_right (by simp)
  · exact h

theorem Dev.broughtUp_follows (d : Dev) (failing : List Nat) : d.Follows (d.broughtUp failing) := by
  unfold Dev.broughtUp
  refine Dev.Follows.fixed_right (.fixed_left ?_ (Dev.placeEngines_follows _))
    ((Dev.failModule_fixed _).trans (Dev.lockPlls_fixed _))
  refine (foldl_fixed _ _ _ (fun _ _ => Dev.markBad_fixed ..)).trans ?_
  split <;> simp

theorem Dev.turnOn_follows (d : Dev) (failing : List Nat) : d.Follows (d.turnOn failing) := by
  unfold Dev.turnOn
  split
  · exact .refl d
  split
  · exact Dev.booted_follows d
  · exact (Dev.booted_follows d).trans (Dev.broughtUp_follows _ _)

/-- The self-tests of a SPARE device place its engines anew; other devices only mark tiles (R381). -/
theorem Dev.spareTest_follows (d : Dev) (failing : List Nat) : d.Follows (d.spareTest failing) := by
  unfold Dev.spareTest
  have h : ∀ l : List Nat, (l.foldl Dev.markBad d).fixed = d.fixed := fun l => foldl_fixed _ _ _ (fun _ _ => Dev.markBad_fixed ..)
  dsimp only
  split
  · exact .fixed_left (h _) (Dev.placeEngines_follows _)
  · exact Dev.follows_of_fixed (h _)

/-- A JOINING device places its engines once its last tile has answered (R395). -/
theorem Dev.joinTested_follows (d : Dev) : d.Follows d.joinTested := by
  unfold Dev.joinTested
  split
  · exact .refl d
  split
  · exact Dev.follows_of_fixed (by simp)
  · exact (Dev.placeEngines_follows d).fixed_right (by simp)

theorem Dev.tileResetDone_follows (d : Dev) (p : Nat) (pass : Bool) : d.Follows (d.tileResetDone p pass) := by
  unfold Dev.tileResetDone
  split
  · exact .refl d
  dsimp only
  refine .fixed_left ?_ (Dev.joinTested_follows _)
  split <;> simp

theorem Dev.powerOff_follows (d : Dev) : d.Follows d.powerOff := Dev.afterPower_follows d

theorem Dev.overVoltage_follows (d : Dev) (v : Nat) : d.Follows (d.overVoltage v) := by
  unfold Dev.overVoltage
  split
  · exact .refl d
  · exact (Dev.powerOff_follows d).fixed_right (by simp)

theorem Dev.inputReversed_follows (d : Dev) : d.Follows d.inputReversed := (Dev.powerOff_follows d).fixed_right (Dev.modPower_fixed ..)

theorem Dev.inputFails_follows (d : Dev) : d.Follows d.inputFails := by
  unfold Dev.inputFails
  split
  · exact .refl d
  · exact .fixed_left (by simp) (Dev.powerOff_follows _)

end Sys2Proof.Machine
end

