-- ==== Sys2Proof/Laws/MemEngine.lean ====
section
/-! SUPPORT. The operations of events, memory, stacks, queues and slots that store nothing leave the memory unchanged. -/

set_option linter.unusedSimpArgs false
set_option linter.unusedVariables false

namespace Sys2Proof.Machine

/-! Ops -/
@[simp] theorem Dev.slip_mem (d : Dev) (stop : Nat) :
    (Dev.slip d stop).mem = d.mem := by
  simp [Dev.slip]
@[simp] theorem Dev.trace_mem (d : Dev) (x : Nat) (kind : Nat) (tile : Option Nat) (src : Nat) (body : List Byte) :
    (Dev.trace d x kind tile src body).1.mem = d.mem := by
  simp [Dev.trace]
@[simp] theorem Dev.fireMsi_mem (d : Dev) (v : Nat) :
    (Dev.fireMsi d v).mem = d.mem := by
  simp [Dev.fireMsi]
@[simp] theorem Dev.putEvent_mem (d : Dev) (q : Nat) (code : Nat) (rank : Nat) (step : Nat) (data : List Byte) :
    (Dev.putEvent d q code rank step data).mem = d.mem := by
  unfold Dev.putEvent; (repeat' (first | split | dsimp only)) <;> simp
@[simp] theorem Dev.sendMgmtAt_mem (d : Dev) (epoch : Nat) (dst : Nat) (step : Nat) (body : MgmtBody) :
    (Dev.sendMgmtAt d epoch dst step body).mem = d.mem := by
  simp [Dev.sendMgmtAt]
@[simp] theorem Dev.sendMgmt_mem (d : Dev) (dst : Nat) (step : Nat) (body : MgmtBody) :
    (Dev.sendMgmt d dst step body).mem = d.mem := by
  simp [Dev.sendMgmt]
@[simp] theorem Dev.modPod_mem (d : Dev) (f : Pod → Pod) :
    (Dev.modPod d f).mem = d.mem := by
  simp [Dev.modPod]
@[simp] theorem Dev.settled_mem (d : Dev) (p : Mgmt → Bool) :
    (Dev.settled d p).mem = d.mem := by
  simp [Dev.settled]
@[simp] theorem Dev.heard_mem (d : Dev) (src : Nat) :
    (Dev.heard d src).mem = d.mem := by
  simp [Dev.heard]
@[simp] theorem Dev.report_mem (d : Dev) (code : Nat) (eng : Nat) (seq : Nat) :
    (Dev.report d code eng seq).mem = d.mem := by
  unfold Dev.report; (repeat' (first | split | dsimp only)) <;> simp
@[simp] theorem Dev.forwardEvent_mem (d : Dev) (code : Nat) (step : Nat) :
    (Dev.forwardEvent d code step).mem = d.mem := by
  simp [Dev.forwardEvent]
@[simp] theorem Dev.logOne_mem (d : Dev) (code : Nat) (step : Nat) :
    (Dev.logOne d code step).mem = d.mem := by
  simp [Dev.logOne]
@[simp] theorem Dev.log_mem (d : Dev) (code : Nat) :
    (Dev.log d code).mem = d.mem := by
  simp [Dev.log]
@[simp] theorem Dev.logs_mem (d : Dev) (codes : List Nat) :
    (Dev.logs d codes).mem = d.mem := by
  simp [Dev.logs]
@[simp] theorem Dev.pulse_mem (d : Dev) :
    (Dev.pulse d).mem = d.mem := by
  simp [Dev.pulse]
@[simp] theorem Dev.deliverDie_mem (d : Dev) (capture : Bool) (body : List Byte) (x : Nat) :
    (Dev.deliverDie d capture body x).mem = d.mem := by
  simp [Dev.deliverDie]
@[simp] theorem Dev.capture_mem (d : Dev) (num : Nat) (h : Bool → List (Nat × Nat)) (out : Bool) :
    (Dev.capture d num h out).mem = d.mem := by
  simp [Dev.capture]
@[simp] theorem Dev.deliver_mem (d : Dev) (sources : Nat) (capture : Bool) (origin : Option (Nat × Nat)) (out : Bool) :
    (Dev.deliver d sources capture origin out).mem = d.mem := by
  simp [Dev.deliver]
@[simp] theorem Dev.sendTrigger_mem (d : Dev) (capture : Bool) (sources : Nat) :
    (Dev.sendTrigger d capture sources).mem = d.mem := by
  simp [Dev.sendTrigger]
@[simp] theorem Dev.fire_mem (d : Dev) (source : Nat) :
    (Dev.fire d source).mem = d.mem := by
  simp [Dev.fire]
@[simp] theorem Dev.raise_mem (d : Dev) (code : Nat) :
    (Dev.raise d code).mem = d.mem := by
  simp [Dev.raise]
@[simp] theorem Dev.raises_mem (d : Dev) (codes : List Nat) :
    (Dev.raises d codes).mem = d.mem := by
  simp [Dev.raises]
@[simp] theorem Dev.record_mem (d : Dev) (x : Nat) (kind : Nat) (tile : Option Nat) (src : Nat) (body : List Byte) :
    (Dev.record d x kind tile src body).mem = d.mem := by
  simp [Dev.record]
@[simp] theorem Dev.cvuMismatch_mem (d : Dev) (i : Nat) (computed : Nat) (expected : Nat) :
    (Dev.cvuMismatch d i computed expected).mem = d.mem := by
  simp [Dev.cvuMismatch]
@[simp] theorem Dev.cvuAlive_mem (d : Dev) (i : Nat) (repeat_ : Bool) (skip : Bool) :
    (Dev.cvuAlive d i repeat_ skip).mem = d.mem := by
  simp [Dev.cvuAlive]

/-! Operands -/
@[simp] theorem Dev.useRecs_mem (d : Dev) (p : Nat) (recs : List (Nat × Nat)) :
    (Dev.useRecs d p recs).mem = d.mem := by
  simp [Dev.useRecs]
@[simp] theorem Dev.workAs_mem (d : Dev) (p : Nat) (recs : List (Nat × Nat)) :
    (Dev.workAs d p recs).mem = d.mem := by
  simp [Dev.workAs]

/-! Mixing -/

/-! Packets -/
@[simp] theorem Dev.setPort_mem (d : Dev) (c : Nat) (x : Port) :
    (Dev.setPort d c x).mem = d.mem := by
  simp [Dev.setPort]
@[simp] theorem Dev.noRoute_mem (d : Dev) (s : Nat) (dst : Nat) :
    (Dev.noRoute d s dst).mem = d.mem := by
  simp [Dev.noRoute]
@[simp] theorem Dev.enqueue_mem (d : Dev) (c : Nat) (pk : Packet) :
    (Dev.enqueue d c pk).mem = d.mem := by
  simp [Dev.enqueue]
@[simp] theorem Dev.routePacket_mem (d : Dev) (s : Nat) (pk : Packet) :
    (Dev.routePacket d s pk).mem = d.mem := by
  unfold Dev.routePacket; (repeat' (first | split | dsimp only)) <;> simp
@[simp] theorem Dev.sendPacket_mem (d : Dev) (s : Nat) (pk : Packet) :
    (Dev.sendPacket d s pk).mem = d.mem := by
  simp [Dev.sendPacket]
@[simp] theorem Dev.packMgmt_mem (d : Dev) : (Dev.packMgmt d).mem = d.mem := by
  unfold Dev.packMgmt
  refine (foldl_mem _ _ _ (fun d m => foldl_mem _ _ _ (fun d k => Dev.routePacket_mem ..))).trans ?_
  simp
@[simp] theorem Dev.sendPackets_mem (d : Dev) (s : Nat) (pks : List Packet) :
    (Dev.sendPackets d s pks).mem = d.mem := by
  simp [Dev.sendPackets]
@[simp] theorem Dev.forwardPacket_mem (d : Dev) (s : Nat) (pk : Packet) :
    (Dev.forwardPacket d s pk).mem = d.mem := by
  unfold Dev.forwardPacket; (repeat' (first | split | dsimp only)) <;> simp

/-! Stacks -/
@[simp] theorem Dev.stackBad_mem (d : Dev) (s : Nat) :
    (Dev.stackBad d s).mem = d.mem := by
  simp [Dev.stackBad]
@[simp] theorem Dev.countHard_mem (d : Dev) (c : Nat) (kind : Nat) (src : Nat) :
    (Dev.countHard d c kind src).mem = d.mem := by
  simp [Dev.countHard]
@[simp] theorem Dev.copyHard_mem (d : Dev) (l : Nat) :
    (Dev.copyHard d l).mem = d.mem := by
  unfold Dev.copyHard; (repeat' (first | split | dsimp only)) <;> simp
@[simp] theorem Dev.copySoft_mem (d : Dev) (l : Nat) :
    (Dev.copySoft d l).mem = d.mem := by
  simp [Dev.copySoft]
@[simp] theorem Dev.retire_mem (d : Dev) (c : Nat) (reported : Option Nat) (copy : List (Fin 32 × Bool)) :
    (Dev.retire d c reported copy).mem = d.mem := by
  simp [Dev.retire]
@[simp] theorem Dev.lineSoft_mem (d : Dev) (c : Nat) (copy : List (Fin 32 × Bool)) :
    (Dev.lineSoft d c copy).mem = d.mem := by
  simp [Dev.lineSoft]
@[simp] theorem Dev.lineHard_mem (d : Dev) (c : Nat) (kind : Nat) (src : Nat) (copy : List (Fin 32 × Bool)) :
    (Dev.lineHard d c kind src copy).mem = d.mem := by
  unfold Dev.lineHard; (repeat' (first | split | dsimp only)) <;> simp
@[simp] theorem Dev.larLog_mem (d : Dev) (p : Nat) (off : Nat) (kind : Nat) (req : Nat) (layer : Nat) :
    (Dev.larLog d p off kind req layer).mem = d.mem := by
  simp [Dev.larLog]
@[simp] theorem Dev.larSoft_mem (d : Dev) (p : Nat) (off : Nat) (req : Nat) (layer : Nat) :
    (Dev.larSoft d p off req layer).mem = d.mem := by
  simp [Dev.larSoft]
@[simp] theorem Dev.larHard_mem (d : Dev) (p : Nat) (off : Nat) (req : Nat) (layer : Nat) (kind : Nat) :
    (Dev.larHard d p off req layer kind).mem = d.mem := by
  simp [Dev.larHard]
@[simp] theorem Dev.failedRead_mem (d : Dev) (p : Nat) (stop : Nat) (req : Nat) (layer : Nat) (src : Nat) (rmw : Bool) :
    (Dev.failedRead d p stop req layer src rmw).mem = d.mem := by
  unfold Dev.failedRead; (repeat' (first | split | dsimp only)) <;> simp

/-! Engine -/
@[simp] theorem Dev.tileRecord_mem (d : Dev) (p : Nat) (kind : Nat) (unit : Nat) (body : List Byte) :
    (Dev.tileRecord d p kind unit body).mem = d.mem := by
  simp [Dev.tileRecord]
@[simp] theorem Dev.halt_mem (d : Dev) (p : Nat) (code : Nat) (x : Desc) (fetch : Bool) :
    (Dev.halt d p code x fetch).mem = d.mem := by
  simp [Dev.halt]
@[simp] theorem Dev.readHalt_mem (d : Dev) (p : Nat) (stop : Nat) (x : Desc) (fetch : Bool) :
    (Dev.readHalt d p stop x fetch).mem = d.mem := by
  simp [Dev.readHalt]
@[simp] theorem Dev.takeAnswers_mem (d : Dev) (p : Nat) (x : Desc) (src : Nat) :
    (Dev.takeAnswers d p x src).1.mem = d.mem := by
  unfold Dev.takeAnswers; (repeat' (first | split | dsimp only)) <;> simp
@[simp] theorem Dev.semAdd_mem (d : Dev) (p : Nat) (sem : Nat) (k : Nat) (x : Desc) :
    (Dev.semAdd d p sem k x).mem = d.mem := by
  simp [Dev.semAdd]
@[simp] theorem Dev.zeroSems_mem (d : Dev) (p : Nat) :
    (Dev.zeroSems d p).mem = d.mem := by
  simp [Dev.zeroSems]
@[simp] theorem Dev.sync_mem (d : Dev) (p : Nat) :
    (Dev.sync d p).mem = d.mem := by
  simp [Dev.sync]
@[simp] theorem Dev.rduSync_mem (d : Dev) :
    (Dev.rduSync d).mem = d.mem := by
  simp [Dev.rduSync]
@[simp] theorem Dev.countItem_mem (d : Dev) (p : Nat) (b : Nat) (x : Desc) (work : Nat) (a : Acct) :
    (Dev.countItem d p b x work a).mem = d.mem := by
  simp [Dev.countItem]
@[simp] theorem Dev.item_mem (d : Dev) (p : Nat) (unit : Nat) (x : Desc) (work : Nat) (a : Acct) :
    (Dev.item d p unit x work a).mem = d.mem := by
  unfold Dev.item; (repeat' (first | split | dsimp only)) <;> simp
@[simp] theorem Dev.finish_mem (d : Dev) (p : Nat) (i : Issued) :
    (Dev.finish d p i).mem = d.mem := by
  simp [Dev.finish]
@[simp] theorem Dev.leaveQueue_mem (d : Dev) (p : Nat) (i : Issued) :
    (Dev.leaveQueue d p i).mem = d.mem := by
  simp [Dev.leaveQueue]
@[simp] theorem Dev.runUnit_mem (d : Dev) (p : Nat) (u : Nat) (sel : Desc → Bool) (body : Issued → Dev → Dev) (hbody : ∀ y0 y1, (body y0 y1).mem = y1.mem) :
    (Dev.runUnit d p u sel body).mem = d.mem := by
  unfold Dev.runUnit; (repeat' (first | split | dsimp only)) <;> simp [hbody]
@[simp] theorem Dev.startChecked_mem (d : Dev) (p : Nat) (i : Issued) (chk : Chk) (eff : Dev → Dev) (heff : ∀ y0, (eff y0).mem = y0.mem) :
    (Dev.startChecked d p i chk eff).mem = d.mem := by
  unfold Dev.startChecked; (repeat' (first | split | dsimp only)) <;> simp [heff]
@[simp] theorem Dev.fetchOne_mem (d : Dev) (p : Nat) (addr : Nat) (err : Option Bool) :
    (Dev.fetchOne d p addr err).1.mem = d.mem := by
  unfold Dev.fetchOne; (repeat' (first | split | dsimp only)) <;> simp
@[simp] theorem Dev.fetchLoop_mem (d : Dev) (p a c : Nat) (errs : List (Nat × Bool)) (k : Nat) : (d.fetchLoop p a c errs k).mem = d.mem := by
  induction k generalizing d with
  | zero => rfl
  | succ k ih =>
    unfold Dev.fetchLoop
    dsimp only
    split
    · rfl
    split
    · rw [ih]; simp
    · simp
@[simp] theorem Dev.queueFetch_mem (d : Dev) (p : Nat) (errs : List (Nat × Bool)) : (d.queueFetch p errs).mem = d.mem := by
  unfold Dev.queueFetch
  split
  · rfl
  dsimp only
  split
  · simp
  · rw [Dev.sync_mem]
    split <;> simp
@[simp] theorem Dev.liftHold_mem (d : Dev) (p : Nat) :
    (Dev.liftHold d p).mem = d.mem := by
  unfold Dev.liftHold; (repeat' (first | split | dsimp only)) <;> simp
@[simp] theorem Dev.runSyn_mem (d : Dev) (p : Nat) :
    (Dev.runSyn d p).mem = d.mem := by
  simp [Dev.runSyn]
@[simp] theorem Dev.runMrk_mem (d : Dev) (p : Nat) :
    (Dev.runMrk d p).mem = d.mem := by
  simp [Dev.runMrk]
@[simp] theorem Dev.watchdog_mem (d : Dev) (p : Nat) :
    (Dev.watchdog d p).mem = d.mem := by
  simp [Dev.watchdog]
@[simp] theorem Dev.emptySlots_mem (d : Dev) (p : Nat) :
    (Dev.emptySlots d p).mem = d.mem := by
  simp [Dev.emptySlots]
@[simp] theorem Dev.sendAbort_mem (d : Dev) (p : Nat) (x : Xch) (peer : Nat) :
    (Dev.sendAbort d p x peer).mem = d.mem := by
  simp [Dev.sendAbort]
@[simp] theorem Dev.abortXchs_mem (d : Dev) (p : Nat) :
    (Dev.abortXchs d p).mem = d.mem := by
  simp [Dev.abortXchs]
@[simp] theorem Dev.flushStart_mem (d : Dev) (p : Nat) :
    (Dev.flushStart d p).mem = d.mem := by
  simp [Dev.flushStart]
@[simp] theorem Dev.flushEnd_mem (d : Dev) (p : Nat) :
    (Dev.flushEnd d p).mem = d.mem := by
  simp [Dev.flushEnd]
@[simp] theorem Dev.flush_mem (d : Dev) (p : Nat) :
    (Dev.flush d p).mem = d.mem := by
  simp [Dev.flush]
@[simp] theorem Dev.writeCqCtrl_mem (d : Dev) (p : Nat) (v : Nat) :
    (Dev.writeCqCtrl d p v).mem = d.mem := by
  simp [Dev.writeCqCtrl]
@[simp] theorem Dev.writeSemAdd_mem (d : Dev) (p : Nat) (v : Nat) :
    (Dev.writeSemAdd d p v).mem = d.mem := by
  simp [Dev.writeSemAdd]
@[simp] theorem Dev.openRecord_mem (d : Dev) (p : Nat) (kind : Nat) :
    (Dev.openRecord d p kind).mem = d.mem := by
  simp [Dev.openRecord]
@[simp] theorem Dev.writeAcbCtrl_mem (d : Dev) (p : Nat) (v : Nat) :
    (Dev.writeAcbCtrl d p v).mem = d.mem := by
  simp [Dev.writeAcbCtrl]
@[simp] theorem Dev.writePreWin_mem (d : Dev) (p : Nat) (v : Nat) :
    (Dev.writePreWin d p v).mem = d.mem := by
  simp [Dev.writePreWin]
@[simp] theorem Dev.writeSlotGeom_mem (d : Dev) (p : Nat) (n : Nat) (v : Nat) :
    (Dev.writeSlotGeom d p n v).mem = d.mem := by
  simp [Dev.writeSlotGeom]

/-! Slots -/
@[simp] theorem Dev.slotRead_mem (d : Dev) (p : Nat) (n : Nat) (rd : ReadOutcome) :
    (Dev.slotRead d p n rd).1.mem = d.mem := by
  unfold Dev.slotRead; (repeat' (first | split | dsimp only)) <;> simp

end Sys2Proof.Machine
end

