-- ==== Sys2Proof/Laws/MemArrays.lean ====
section
/-! SUPPORT. The operations of the arrays, the sieve, the memory, the link and the mailbox that store nothing leave the memory unchanged. -/

set_option linter.unusedSimpArgs false
set_option linter.unusedVariables false

namespace Sys2Proof.Machine

/-! Arrays -/
@[simp] theorem Dev.resLog_mem (d : Dev) (p : Nat) (a : ArrayRegs) (x : Desc) (block : Nat) (kind : Nat) (sub : Nat) :
    (Dev.resLog d p a x block kind sub).mem = d.mem := by
  simp [Dev.resLog]
@[simp] theorem Dev.seeFault_mem (d : Dev) (p : Nat) (a : ArrayRegs) (x : Desc) (e : ArrayFault × Bool) :
    (Dev.seeFault d p a x e).mem = d.mem := by
  simp [Dev.seeFault]
@[simp] theorem Dev.arrayFaults_mem (d : Dev) (p : Nat) (a : ArrayRegs) (x : Desc) (unit : Nat) (nblocks : Nat) (fs : List ArrayFault) :
    (Dev.arrayFaults d p a x unit nblocks fs).1.mem = d.mem := by
  simp [Dev.arrayFaults]
@[simp] theorem Dev.sample_mem (d : Dev) (p : Nat) (i : Issued) :
    (Dev.sample d p i).mem = d.mem := by
  unfold Dev.sample; (repeat' (first | split | dsimp only)) <;> simp
@[simp] theorem Dev.memberDone_mem (d : Dev) (p : Nat) (n : Nat) :
    (Dev.memberDone d p n).mem = d.mem := by
  simp [Dev.memberDone]
@[simp] theorem Dev.bWork_mem (d : Dev) (p : Nat) (work : Nat) (form : Nat) (wide : Bool) :
    (Dev.bWork d p work form wide).mem = d.mem := by
  simp [Dev.bWork]
@[simp] theorem Dev.sumInf_mem (d : Dev) (p : Nat) (b : Bool) :
    (Dev.sumInf d p b).mem = d.mem := by
  simp [Dev.sumInf]
@[simp] theorem Dev.killGroup_mem (d : Dev) (p : Nat) (n : Nat) :
    (Dev.killGroup d p n).mem = d.mem := by
  simp [Dev.killGroup]

/-! Backward -/
@[simp] theorem Dev.signalGroup_mem (d : Dev) (p : Nat) :
    (Dev.signalGroup d p).mem = d.mem := by
  unfold Dev.signalGroup; (repeat' (first | split | dsimp only)) <;> simp

/-! Tender -/
@[simp] theorem Dev.tenderPacket_mem (d : Dev) (l : Nat) (dst : Nat) (kind : Nat) (last : Bool) (off : Nat) (bs : List Byte) :
    (Dev.tenderPacket d l dst kind last off bs).mem = d.mem := by
  simp [Dev.tenderPacket]
@[simp] theorem Dev.tenderSend_mem (d : Dev) (l : Nat) (dst : Nat) (kind : Nat) (off : Nat) (bs : List Byte) :
    (Dev.tenderSend d l dst kind off bs).mem = d.mem := by
  simp [Dev.tenderSend]

/-! Memory -/
@[simp] theorem Dev.countBase_mem (d : Dev) (s : Nat) (off : Nat) (k : Nat) :
    (Dev.countBase d s off k).mem = d.mem := by
  simp [Dev.countBase]
@[simp] theorem Dev.reply_mem (d : Dev) (bs : List Byte) (bad : Bool) :
    (Dev.reply d bs bad).mem = d.mem := by
  simp [Dev.reply]
@[simp] theorem Dev.haltSource_mem (d : Dev) (src : MemSrc) (code : Nat) :
    (Dev.haltSource d src code).mem = d.mem := by
  unfold Dev.haltSource; (repeat' (first | split | dsimp only)) <;> simp
@[simp] theorem Dev.unmappedAccess_mem (d : Dev) (src : MemSrc) :
    (Dev.unmappedAccess d src).mem = d.mem := by
  simp [Dev.unmappedAccess]
@[simp] theorem Dev.windowRead_mem (d : Dev) (a : Nat) (src : MemSrc) :
    (Dev.windowRead d a src).mem = d.mem := by
  unfold Dev.windowRead; (repeat' (first | split | dsimp only)) <;> simp
@[simp] theorem Dev.bankStall_mem (d : Dev) (p : Nat) (b : Nat) :
    (Dev.bankStall d p b).mem = d.mem := by
  simp [Dev.bankStall]
@[simp] theorem Dev.refusals_mem (d : Dev) (p : Nat) (reqs : List LarderReq) (gs : List LarderReq) :
    (Dev.refusals d p reqs gs).mem = d.mem := by
  simp [Dev.refusals]

/-! Link -/
@[simp] theorem Dev.setLane_mem (d : Dev) (c : Nat) (j : Nat) (v : Nat) :
    (Dev.setLane d c j v).mem = d.mem := by
  simp [Dev.setLane]
@[simp] theorem Dev.setLanes_mem (d : Dev) (c : Nat) (v : Nat) :
    (Dev.setLanes d c v).mem = d.mem := by
  simp [Dev.setLanes]
@[simp] theorem Dev.laneSync_mem (d : Dev) (c : Nat) :
    (Dev.laneSync d c).mem = d.mem := by
  simp [Dev.laneSync]
@[simp] theorem Dev.portDown_mem (d : Dev) (c : Nat) :
    (Dev.portDown d c).mem = d.mem := by
  simp [Dev.portDown]
@[simp] theorem Dev.startTraining_mem (d : Dev) (c : Nat) :
    (Dev.startTraining d c).mem = d.mem := by
  simp [Dev.startTraining]
@[simp] theorem Dev.trainLanes_mem (d : Dev) (c : Nat) (r : TrainResult) :
    (Dev.trainLanes d c r).mem = d.mem := by
  simp [Dev.trainLanes]
@[simp] theorem Dev.portUp_mem (d : Dev) (c : Nat) :
    (Dev.portUp d c).mem = d.mem := by
  simp [Dev.portUp]
@[simp] theorem Dev.train_mem (d : Dev) (c : Nat) (r : TrainResult) :
    (Dev.train d c r).mem = d.mem := by
  simp [Dev.train]
@[simp] theorem Dev.writeCplCtrl_mem (d : Dev) (c : Nat) (v : Nat) :
    (Dev.writeCplCtrl d c v).mem = d.mem := by
  simp [Dev.writeCplCtrl]
@[simp] theorem Dev.takeWord_mem (d : Dev) (c : Nat) (cw : Codeword) :
    (Dev.takeWord d c cw).1.mem = d.mem := by
  simp [Dev.takeWord]
@[simp] theorem Dev.replaceLane_mem (d : Dev) (c : Nat) (j : Nat) :
    (Dev.replaceLane d c j).mem = d.mem := by
  simp [Dev.replaceLane]
@[simp] theorem Dev.serWindow_mem (d : Dev) (c : Nat) (counts : List (Nat × Nat)) (uncorr : Nat) :
    (Dev.serWindow d c counts uncorr).mem = d.mem := by
  unfold Dev.serWindow; (repeat' (first | split | dsimp only)) <;> simp
@[simp] theorem Dev.laneSwap_mem (d : Dev) (c : Nat) :
    (Dev.laneSwap d c).mem = d.mem := by
  unfold Dev.laneSwap; (repeat' (first | split | dsimp only)) <;> simp
@[simp] theorem Dev.laneRetrain_mem (d : Dev) (c : Nat) (j : Nat) (ok : Bool) :
    (Dev.laneRetrain d c j ok).mem = d.mem := by
  simp [Dev.laneRetrain]
@[simp] theorem Dev.putFlit_mem (d : Dev) (c : Nat) (f : Flit) :
    (Dev.putFlit d c f).mem = d.mem := by
  simp [Dev.putFlit]
@[simp] theorem Dev.flitTransmit_mem (d : Dev) (c : Nat) :
    (Dev.flitTransmit d c).mem = d.mem := by
  unfold Dev.flitTransmit; (repeat' (first | split | dsimp only)) <;> simp
@[simp] theorem Dev.takeAck_mem (d : Dev) (c : Nat) (f : Flit) :
    (Dev.takeAck d c f).mem = d.mem := by
  unfold Dev.takeAck; (repeat' (first | split | dsimp only)) <;> simp
@[simp] theorem Dev.takeCtl_mem (d : Dev) (c : Nat) (k : LinkCtl) :
    (Dev.takeCtl d c k).mem = d.mem := by
  unfold Dev.takeCtl; (repeat' (first | split | dsimp only)) <;> simp
@[simp] theorem Dev.flitReceive_mem (d : Dev) (c : Nat) (f : Flit) (cw : Codeword) : (Dev.flitReceive d c f cw).mem = d.mem := by
  unfold Dev.flitReceive
  split
  · rfl
  have h : ((d.countBase c 0x148 1).takeWord c cw).1.mem = d.mem := by simp
  generalize (d.countBase c 0x148 1).takeWord c cw = o at h
  obtain ⟨e, lost⟩ := o
  repeat' (first | split | dsimp only)
  all_goals simp_all

/-! Dammel -/
@[simp] theorem Dev.qpError_mem (d : Dev) (q : Nat) :
    (Dev.qpError d q).mem = d.mem := by
  unfold Dev.qpError; (repeat' (first | split | dsimp only)) <;> simp
@[simp] theorem Dev.writeCpl_mem (d : Dev) (q : Nat) (tag : Nat) (status : Nat) (r0 : Nat) (r1 : Nat) (dup : Bool) :
    (Dev.writeCpl d q tag status r0 r1 dup).mem = d.mem := by
  unfold Dev.writeCpl; (repeat' (first | split | dsimp only)) <;> simp
@[simp] theorem Dev.destroyQp_mem (d : Dev) (q : Nat) :
    (Dev.destroyQp d q).mem = d.mem := by
  unfold Dev.destroyQp; (repeat' (first | split | dsimp only)) <;> simp
@[simp] theorem Dev.dropOrphan_mem (d : Dev) (q : Nat) (tag : Nat) :
    (Dev.dropOrphan d q tag).mem = d.mem := by
  simp [Dev.dropOrphan]
@[simp] theorem Dev.complete_mem (d : Dev) (who : Issuer) (tag : Nat) (status : Nat) (r0 : Nat) (r1 : Nat) :
    (Dev.complete d who tag status r0 r1).mem = d.mem := by
  unfold Dev.complete; (repeat' (first | split | dsimp only)) <;> simp
@[simp] theorem Dev.reject_mem (d : Dev) (who : Issuer) (tag : Nat) (status : Nat) :
    (Dev.reject d who tag status).mem = d.mem := by
  simp [Dev.reject]
@[simp] theorem Dev.emit_mem (d : Dev) (who : Issuer) (tag : Nat) (bs : List Byte) :
    (Dev.emit d who tag bs).mem = d.mem := by
  unfold Dev.emit; (repeat' (first | split | dsimp only)) <;> simp
@[simp] theorem Dev.forwardCmd_mem (d : Dev) (q : Nat) (tag : Nat) (target : Nat) (e : List Byte) :
    (Dev.forwardCmd d q tag target e).mem = d.mem := by
  simp [Dev.forwardCmd]
@[simp] theorem Dev.cmd_mem (d : Dev) (who : Issuer) (tag : BitVec 32) (op : Nat) (eff : List Byte → Dev → Dev) (heff : ∀ y0 y1, (eff y0 y1).mem = y1.mem) :
    (Dev.cmd d who tag op eff).mem = d.mem := by
  unfold Dev.cmd; (repeat' (first | split | dsimp only)) <;> simp [heff]
@[simp] theorem Dev.cmdNow_mem (d : Dev) (who : Issuer) (tag : BitVec 32) (op : Nat) (eff : List Byte → Dev → Dev × Nat × Nat × Nat) (heff : ∀ y0 y1, (eff y0 y1).1.mem = y1.mem) :
    (Dev.cmdNow d who tag op eff).mem = d.mem := by
  simp [Dev.cmdNow, heff]
@[simp] theorem Dev.sendOut_mem (d : Dev) (who : Issuer) (tag : BitVec 32) (out : DmaOut) (bs : List Byte) (r0 : Nat) (r1 : Nat) :
    (Dev.sendOut d who tag out bs r0 r1).1.mem = d.mem := by
  unfold Dev.sendOut; (repeat' (first | split | dsimp only)) <;> simp
@[simp] theorem Dev.badAccess_mem (d : Dev) :
    (Dev.badAccess d).mem = d.mem := by
  simp [Dev.badAccess]
@[simp] theorem Dev.headCheck_mem (d : Dev) (st : Option Nat) (e : List Byte) :
    (Dev.headCheck d st e).mem = d.mem := by
  unfold Dev.headCheck; (repeat' (first | split | dsimp only)) <;> simp
@[simp] theorem Dev.takeEntry_mem (d : Dev) (q : Nat) (x : QP) (e : List Byte) :
    (Dev.takeEntry d q x e).mem = d.mem := by
  unfold Dev.takeEntry; (repeat' (first | split | dsimp only)) <;> simp
@[simp] theorem Dev.readRing_mem (d : Dev) (q : Nat) (es : List (List Byte)) : (d.readRing q es).mem = d.mem := by
  induction es generalizing d with
  | nil => rfl
  | cons e es ih =>
    unfold Dev.readRing
    split
    · rfl
    dsimp only
    split
    · rfl
    split
    · rfl
    split
    · rfl
    · rw [ih, Dev.takeEntry_mem]
@[simp] theorem Dev.cmdTail_mem (d : Dev) (q t : Nat) (es : List (List Byte)) (r : Bool) : (d.cmdTail q t es r).mem = d.mem := by
  unfold Dev.cmdTail
  repeat' (first | split | dsimp only)
  all_goals simp
@[simp] theorem Dev.cplHead_mem (d : Dev) (q : Nat) (head : Nat) :
    (Dev.cplHead d q head).mem = d.mem := by
  unfold Dev.cplHead; (repeat' (first | split | dsimp only)) <;> simp
@[simp] theorem Dev.evtHead_mem (d : Dev) (q : Nat) (head : Nat) :
    (Dev.evtHead d q head).mem = d.mem := by
  unfold Dev.evtHead; (repeat' (first | split | dsimp only)) <;> simp
@[simp] theorem Dev.qpCreate_mem (d : Dev) (boot : Bool) (b : List Byte) :
    (Dev.qpCreate d boot b).1.mem = d.mem := by
  simp [Dev.qpCreate]
@[simp] theorem Dev.qpDestroy_mem (d : Dev) (b : List Byte) :
    (Dev.qpDestroy d b).1.mem = d.mem := by
  simp [Dev.qpDestroy]

/-! Flash -/
@[simp] theorem Dev.disableFlash_mem (d : Dev) :
    (Dev.disableFlash d).mem = d.mem := by
  simp [Dev.disableFlash]
@[simp] theorem Dev.wear_mem (d : Dev) (n : Nat) :
    (Dev.wear d n).mem = d.mem := by
  simp [Dev.wear]
@[simp] theorem Dev.channelFails_mem (d : Dev) (x : Nat) (ch : Nat) :
    (Dev.channelFails d x ch).mem = d.mem := by
  simp [Dev.channelFails]
@[simp] theorem Dev.gatherForeign_mem (d : Dev) :
    (Dev.gatherForeign d).mem = d.mem := by
  unfold Dev.gatherForeign; (repeat' (first | split | dsimp only)) <;> simp

/-! Sieve -/
@[simp] theorem Dev.dripOvf_mem (d : Dev) (p : Nat) :
    (Dev.dripOvf d p).mem = d.mem := by
  simp [Dev.dripOvf]

end Sys2Proof.Machine
end

