-- ==== Sys2Proof/Laws/MemPod.lean ====
section
/-! SUPPORT. The operations of the exchanges, the pod, its generations and its recovery that store nothing leave the memory unchanged. -/

set_option linter.unusedSimpArgs false
set_option linter.unusedVariables false

namespace Sys2Proof.Machine

/-! Exchange -/
@[simp] theorem Dev.putXch_mem (d : Dev) (p : Nat) (x : Xch) :
    (Dev.putXch d p x).mem = d.mem := by
  simp [Dev.putXch]
@[simp] theorem Dev.settle_mem (d : Dev) (p : Nat) :
    (Dev.settle d p).mem = d.mem := by
  simp [Dev.settle]
@[simp] theorem Dev.newStream_mem (d : Dev) (data : Bool) (l : Nat) (group : Nat) (tag : Nat) (src : Option Nat) :
    (Dev.newStream d data l group tag src).mem = d.mem := by
  simp [Dev.newStream]
@[simp] theorem Dev.leaveXch_mem (d : Dev) (p : Nat) (x : Xch) :
    (Dev.leaveXch d p x).mem = d.mem := by
  simp [Dev.leaveXch]
@[simp] theorem Dev.tellAbort_mem (d : Dev) (p : Nat) (x : Xch) :
    (Dev.tellAbort d p x).mem = d.mem := by
  simp [Dev.tellAbort]
@[simp] theorem Dev.failXch_mem (d : Dev) (p : Nat) (x : Xch) (code : Nat) (abort : Bool) :
    (Dev.failXch d p x code abort).mem = d.mem := by
  simp [Dev.failXch]
@[simp] theorem Dev.failSource_mem (d : Dev) (p : Nat) (x : Xch) (stop : Nat) :
    (Dev.failSource d p x stop).mem = d.mem := by
  simp [Dev.failSource]
@[simp] theorem Dev.landed_mem (d : Dev) (p : Nat) (x : Xch) (rest : Dev → Dev) (hrest : ∀ y0, (rest y0).mem = y0.mem) :
    (Dev.landed d p x rest).mem = d.mem := by
  simp [Dev.landed, hrest]
@[simp] theorem Dev.xchSlot_mem (d : Dev) (p : Nat) (x : Xch) (rd : ReadOutcome) (rest : Dev → Dev)
    (hrest : ∀ y0, (rest y0).mem = y0.mem) : (Dev.xchSlot d p x rd rest).mem = d.mem := by
  unfold Dev.xchSlot
  split
  · have h : (d.slotRead p x.desc.xSlot rd).1.mem = d.mem := Dev.slotRead_mem ..
    generalize d.slotRead p x.desc.xSlot rd = o at h
    obtain ⟨e, s⟩ := o
    cases s
    · exact (hrest _).trans h
    · exact (Dev.failSource_mem ..).trans h
  · exact hrest d
@[simp] theorem Dev.doneXch_mem (d : Dev) (p : Nat) (x : Xch) :
    (Dev.doneXch d p x).mem = d.mem := by
  simp [Dev.doneXch]
@[simp] theorem Dev.transmit_mem (d : Dev) (p : Nat) (x : Xch) (ctsTotal : Nat) (rd : ReadOutcome) :
    (Dev.transmit d p x ctsTotal rd).mem = d.mem := by
  unfold Dev.transmit
  split
  · simp
  refine Dev.xchSlot_mem _ _ _ _ _ (fun d => ?_)
  (repeat' (first | split | dsimp only)) <;> simp
@[simp] theorem Dev.openXch_mem (d : Dev) (p : Nat) (i : Issued) :
    (Dev.openXch d p i).2.mem = d.mem := by
  simp [Dev.openXch]
@[simp] theorem Dev.runXch_mem (d : Dev) (p : Nat) (prim : Nat) (eff : Xch → Dev → Dev) (heff : ∀ y0 y1, (eff y0 y1).mem = y1.mem) :
    (Dev.runXch d p prim eff).mem = d.mem := by
  simp [Dev.runXch, heff]
@[simp] theorem Dev.sendCts_mem (d : Dev) (p : Nat) (x : Xch) :
    (Dev.sendCts d p x).mem = d.mem := by
  simp [Dev.sendCts]
@[simp] theorem Dev.unmatched_mem (d : Dev) (c : Nat) :
    (Dev.unmatched d c).mem = d.mem := by
  simp [Dev.unmatched]
@[simp] theorem Dev.putStream_mem (d : Dev) (s : RxStream) (pk : Packet) (data : Bool) :
    (Dev.putStream d s pk data).mem = d.mem := by
  simp [Dev.putStream]
@[simp] theorem Dev.accept_mem (d : Dev) (c : Nat) (pk : Packet) (data : Bool) (always : Bool) :
    (Dev.accept d c pk data always).mem = d.mem := by
  simp [Dev.accept]
@[simp] theorem Dev.receive_mem (d : Dev) (c : Nat) (pk : Packet) (stream : Option Bool) (rest : Dev → Dev) (hrest : ∀ y0, (rest y0).mem = y0.mem) :
    (Dev.receive d c pk stream rest).mem = d.mem := by
  simp [Dev.receive, hrest]
@[simp] theorem Dev.onCts_mem (d : Dev) (c : Nat) (pk : Packet) (rd : ReadOutcome) : (Dev.onCts d c pk rd).mem = d.mem := by
  unfold Dev.onCts
  refine Dev.receive_mem _ _ _ _ _ (fun d => ?_)
  repeat' (first | split | dsimp only)
  all_goals simp
@[simp] theorem Dev.redSend_mem (d : Dev) (p : Nat) (c : Nat) (x : Xch) (own : Bool) (ptype : Nat) (off : Nat) (n : Nat) (pl : List Byte) (sg : Int) (hop : Nat) :
    (Dev.redSend d p c x own ptype off n pl sg hop).2.mem = d.mem := by
  simp [Dev.redSend]
@[simp] theorem Dev.redFlags_mem (d : Dev) (p : Nat) (c : Nat) (x : Xch) (inf : Bool) (nan : Bool) :
    (Dev.redFlags d p c x inf nan).2.mem = d.mem := by
  simp [Dev.redFlags]
@[simp] theorem Dev.onAbort_mem (d : Dev) (c : Nat) (pk : Packet) : (d.onAbort c pk).mem = d.mem := by
  unfold Dev.onAbort
  refine Dev.receive_mem _ _ _ _ _ (fun d => ?_)
  repeat' (first | split | dsimp only)
  all_goals simp
@[simp] theorem Dev.tenderTimeout_mem (d : Dev) (p : Nat) :
    (Dev.tenderTimeout d p).mem = d.mem := by
  simp [Dev.tenderTimeout]
@[simp] theorem Dev.e2eTimeout_mem (d : Dev) (p : Nat) (k : Nat) :
    (Dev.e2eTimeout d p k).mem = d.mem := by
  unfold Dev.e2eTimeout; (repeat' (first | split | dsimp only)) <;> simp
@[simp] theorem Dev.rduTimeout_mem (d : Dev) (c : Nat) (k : Nat) :
    (Dev.rduTimeout d c k).mem = d.mem := by
  unfold Dev.rduTimeout; (repeat' (first | split | dsimp only)) <;> simp
@[simp] theorem Dev.xchStall_mem (d : Dev) (p : Nat) (k : Nat) :
    (Dev.xchStall d p k).mem = d.mem := by
  unfold Dev.xchStall; (repeat' (first | split | dsimp only)) <;> simp
@[simp] theorem Dev.ctsResend_mem (d : Dev) (p : Nat) (k : Nat) :
    (Dev.ctsResend d p k).mem = d.mem := by
  unfold Dev.ctsResend; (repeat' (first | split | dsimp only)) <;> simp

/-! Pod -/
@[simp] theorem Dev.resetTile_mem (d : Dev) (p : Nat) :
    (Dev.resetTile d p).mem = d.mem := by
  simp [Dev.resetTile]
@[simp] theorem Dev.markBad_mem (d : Dev) (p : Nat) :
    (Dev.markBad d p).mem = d.mem := by
  simp [Dev.markBad]
@[simp] theorem Dev.placeEngines_mem (d : Dev) : (Dev.placeEngines d).mem = d.mem := by
  unfold Dev.placeEngines
  refine foldl_mem _ _ _ (fun d x => ?_)
  split
  · exact (Dev.setFld_mem ..).trans (Dev.withEngMap_mem ..)
  · rfl
@[simp] theorem Dev.endRun_mem (d : Dev) (status : Nat) (r0 : Nat) (r1 : Nat) :
    (Dev.endRun d status r0 r1).mem = d.mem := by
  unfold Dev.endRun; (repeat' (first | split | dsimp only)) <;> simp
@[simp] theorem Dev.leavePod_mem (d : Dev) :
    (Dev.leavePod d).mem = d.mem := by
  simp [Dev.leavePod]
@[simp] theorem Dev.leavePod2_mem (d : Dev) :
    (Dev.leavePod2 d).mem = d.mem := by
  simp [Dev.leavePod2]
@[simp] theorem Dev.dropState_mem (d : Dev) :
    (Dev.dropState d).mem = d.mem := by
  simp [Dev.dropState]
@[simp] theorem Dev.enterClean_mem (d : Dev) :
    (Dev.enterClean d).mem = d.mem := by
  simp [Dev.enterClean]
@[simp] theorem Dev.joinPod_mem (d : Dev) (m : Mgmt) :
    (Dev.joinPod d m).mem = d.mem := by
  unfold Dev.joinPod; (repeat' (first | split | dsimp only)) <;> simp
@[simp] theorem Dev.onEntry_mem (d : Dev) (m : Mgmt) (eff : Bool → Dev → Dev) (heff : ∀ y0 y1, (eff y0 y1).mem = y1.mem) :
    (Dev.onEntry d m eff).mem = d.mem := by
  simp [Dev.onEntry, heff]
@[simp] theorem Dev.onMgmt_mem (d : Dev) (m : Mgmt) (eff : Bool → Dev → Dev) (heff : ∀ y0 y1, (eff y0 y1).mem = y1.mem) :
    (Dev.onMgmt d m eff).mem = d.mem := by
  simp [Dev.onMgmt, heff]
@[simp] theorem Dev.onNew_mem (d : Dev) (m : Mgmt) (eff : Dev → Dev) (heff : ∀ y0, (eff y0).mem = y0.mem) :
    (Dev.onNew d m eff).mem = d.mem := by
  simp [Dev.onNew, heff]
@[simp] theorem Dev.wrongWay_mem (d : Dev) :
    (Dev.wrongWay d).mem = d.mem := by
  simp [Dev.wrongWay]
@[simp] theorem Dev.phase_mem (d : Dev) (ph : Nat) :
    (Dev.phase d ph).mem = d.mem := by
  simp [Dev.phase]
@[simp] theorem Dev.cause_mem (d : Dev) (code : Nat) (rank : Nat) (outcome : Nat) :
    (Dev.cause d code rank outcome).mem = d.mem := by
  simp [Dev.cause]
@[simp] theorem Dev.saveRecord_mem (d : Dev) :
    (Dev.saveRecord d).mem = d.mem := by
  simp [Dev.saveRecord]
@[simp] theorem Dev.tellRepaired_mem (d : Dev) :
    (Dev.tellRepaired d).mem = d.mem := by
  simp [Dev.tellRepaired]
@[simp] theorem Dev.tryStart_mem (d : Dev) :
    (Dev.tryStart d).mem = d.mem := by
  unfold Dev.tryStart; (repeat' (first | split | dsimp only)) <;> simp
@[simp] theorem Dev.sendAbortStep_mem (d : Dev) (code : Nat) (again : Bool) :
    (Dev.sendAbortStep d code again).mem = d.mem := by
  simp [Dev.sendAbortStep]
@[simp] theorem Dev.abortPod_mem (d : Dev) (code : Nat) (rank : Nat) (again : Bool) :
    (Dev.abortPod d code rank again).mem = d.mem := by
  unfold Dev.abortPod; (repeat' (first | split | dsimp only)) <;> simp
@[simp] theorem Dev.sendCommit_mem (d : Dev) (rs : List Nat) (c : Nat × Nat × Nat) :
    (Dev.sendCommit d rs c).mem = d.mem := by
  simp [Dev.sendCommit]
@[simp] theorem Dev.onReady_mem (d : Dev) (m : Mgmt) (a : Nat) (b : Nat) (x : Nat) (y : Nat) :
    (Dev.onReady d m a b x y).mem = d.mem := by
  unfold Dev.onReady; (repeat' (first | split | dsimp only)) <;> simp

/-! Members -/
@[simp] theorem Dev.takeMirror_mem (d : Dev) (m : Option Mirror) :
    (Dev.takeMirror d m).mem = d.mem := by
  unfold Dev.takeMirror; (repeat' (first | split | dsimp only)) <;> simp
@[simp] theorem Dev.disablePorts_mem (d : Dev) (ports : Nat) :
    (Dev.disablePorts d ports).mem = d.mem := by
  simp [Dev.disablePorts]
@[simp] theorem Dev.enablePorts_mem (d : Dev) (ports : Nat) :
    (Dev.enablePorts d ports).mem = d.mem := by
  simp [Dev.enablePorts]
@[simp] theorem Dev.greet_mem (d : Dev) (me : Nat) (c : Change) :
    (Dev.greet d me c).mem = d.mem := by
  simp [Dev.greet]
@[simp] theorem Dev.forgetRank_mem (d : Dev) (r : Nat) :
    (Dev.forgetRank d r).mem = d.mem := by
  simp [Dev.forgetRank]
@[simp] theorem Dev.newSeats_mem (d : Dev) (me : Nat) (c : Change) :
    (Dev.newSeats d me c).mem = d.mem := by
  simp [Dev.newSeats]
@[simp] theorem Dev.applyChange_mem (d : Dev) (c : Change) :
    (Dev.applyChange d c).mem = d.mem := by
  simp [Dev.applyChange]
@[simp] theorem Dev.sendPublish_mem (d : Dev) (parts : List (Nat × Change)) (rs : List Nat) :
    (Dev.sendPublish d parts rs).mem = d.mem := by
  simp [Dev.sendPublish]
@[simp] theorem Dev.finishPublish_mem (d : Dev) :
    (Dev.finishPublish d).mem = d.mem := by
  unfold Dev.finishPublish; (repeat' (first | split | dsimp only)) <;> simp
@[simp] theorem Dev.publishPod_mem (d : Dev) (np : NewPod) (renames : List (Nat × Nat)) (refills : List Nat) (cmd : Option (Issuer × Nat × Nat)) :
    (Dev.publishPod d np renames refills cmd).mem = d.mem := by
  simp [Dev.publishPod]
@[simp] theorem Dev.stagedPublish_mem (d : Dev) (r : Nat) :
    (Dev.stagedPublish d r).mem = d.mem := by
  unfold Dev.stagedPublish; (repeat' (first | split | dsimp only)) <;> simp
@[simp] theorem Dev.dropStandby_mem (d : Dev) (q : Nat) :
    (Dev.dropStandby d q).mem = d.mem := by
  simp [Dev.dropStandby]
@[simp] theorem Dev.modFence_mem (d : Dev) (f : Fencing) (g : Fencing → Fencing) :
    (Dev.modFence d f g).mem = d.mem := by
  simp [Dev.modFence]
@[simp] theorem Dev.publishRoles_mem (d : Dev) :
    (Dev.publishRoles d).mem = d.mem := by
  simp [Dev.publishRoles]
@[simp] theorem Dev.tellShort_mem (d : Dev) (f : Fencing) :
    (Dev.tellShort d f).mem = d.mem := by
  simp [Dev.tellShort]
@[simp] theorem Dev.publishReplacement_mem (d : Dev) (f : Fencing) (q : Nat) :
    (Dev.publishReplacement d f q).mem = d.mem := by
  simp [Dev.publishReplacement]
@[simp] theorem Dev.publishFence_mem (d : Dev) (f : Fencing) :
    (Dev.publishFence d f).mem = d.mem := by
  unfold Dev.publishFence; (repeat' (first | split | dsimp only)) <;> simp
@[simp] theorem Dev.nextPublish_mem (d : Dev) :
    (Dev.nextPublish d).mem = d.mem := by
  unfold Dev.nextPublish; (repeat' (first | split | dsimp only)) <;> simp
@[simp] theorem Dev.setRankState_mem (d : Dev) (r : Nat) (st : Nat) :
    (Dev.setRankState d r st).mem = d.mem := by
  simp [Dev.setRankState]
@[simp] theorem Dev.dropForwarded_mem (d : Dev) (sel : Forwarded → Bool) : (d.dropForwarded sel).mem = d.mem := by
  unfold Dev.dropForwarded
  refine (foldl_mem _ _ _ (fun d f => ?_)).trans (Dev.modPod_mem ..)
  split <;> simp
@[simp] theorem Dev.declareFailed_mem (d : Dev) (r code : Nat) : (d.declareFailed r code).mem = d.mem := by
  unfold Dev.declareFailed
  split
  · rfl
  extract_lets +onlyGivenNames -merge e ls d1 d2 d3 d4 ns own far d5 d6 d7 d8 d9
  have h9 : d9.mem = d.mem := by
    refine (Dev.dropForwarded_mem ..).trans ?_
    have h7 : d7.mem = d.mem := by simp [d7, d6, d5, d4, d3, d2, d1]
    clear_value d7
    unfold d8
    split <;> simp [h7]
  clear_value d9
  split
  · simp [h9]
  · rw [Dev.nextPublish_mem]
    split
    · split <;> simp [h9]
    · simp [h9]
@[simp] theorem Dev.stagePublish_mem (d : Dev) (m : Mgmt) (c : Change) :
    (Dev.stagePublish d m c).mem = d.mem := by
  simp [Dev.stagePublish]
@[simp] theorem Dev.releasePublish_mem (d : Dev) :
    (Dev.releasePublish d).mem = d.mem := by
  unfold Dev.releasePublish; (repeat' (first | split | dsimp only)) <;> simp
@[simp] theorem Dev.stagedFence_mem (d : Dev) (r : Nat) :
    (Dev.stagedFence d r).mem = d.mem := by
  unfold Dev.stagedFence; (repeat' (first | split | dsimp only)) <;> simp
@[simp] theorem Dev.askVotes_mem (d : Dev) :
    (Dev.askVotes d).mem = d.mem := by
  simp [Dev.askVotes]
@[simp] theorem Dev.becomeManager_mem (d : Dev) (old : Nat) :
    (Dev.becomeManager d old).mem = d.mem := by
  simp [Dev.becomeManager]
@[simp] theorem Dev.commitAgain_mem (d : Dev) (old : Nat) :
    (Dev.commitAgain d old).mem = d.mem := by
  simp [Dev.commitAgain]
@[simp] theorem Dev.takeOver_mem (d : Dev) (old : Nat) :
    (Dev.takeOver d old).mem = d.mem := by
  simp [Dev.takeOver]

/-! Generations -/
@[simp] theorem Dev.commandAll_mem (d : Dev) (op : Nat) (tag : Nat) (body : List Byte) :
    (Dev.commandAll d op tag body).mem = d.mem := by
  simp [Dev.commandAll]
@[simp] theorem Dev.startGen_mem (d : Dev) :
    (Dev.startGen d).mem = d.mem := by
  simp [Dev.startGen]
@[simp] theorem Dev.finishGen_mem (d : Dev) (num : Nat) :
    (Dev.finishGen d num).mem = d.mem := by
  unfold Dev.finishGen; (repeat' (first | split | dsimp only)) <;> simp
@[simp] theorem Dev.genReply_mem (d : Dev) (r : Nat) (num : Nat) (status : Nat) :
    (Dev.genReply d r num status).mem = d.mem := by
  simp [Dev.genReply]
@[simp] theorem Dev.pinGen_mem (d : Dev) (num : Nat) :
    (Dev.pinGen d num).mem = d.mem := by
  simp [Dev.pinGen]
@[simp] theorem Dev.spareTest_mem (d : Dev) (failing : List Nat) :
    (Dev.spareTest d failing).mem = d.mem := by
  simp [Dev.spareTest]
@[simp] theorem Dev.sendRestore_mem (d : Dev) (x : Restoring) :
    (Dev.sendRestore d x).mem = d.mem := by
  simp [Dev.sendRestore]
@[simp] theorem Dev.waitStore_mem (d : Dev) :
    (Dev.waitStore d).mem = d.mem := by
  simp [Dev.waitStore]
@[simp] theorem Dev.beginRestore_mem (d : Dev) (cmd : Option (Issuer × Nat)) (n s : Nat) (e : Dev)
    (h : d.beginRestore cmd n s = .inl e) : e.mem = d.mem := by
  unfold Dev.beginRestore at h
  repeat' (first | split at h | dsimp only at h)
  all_goals first | (cases h; done) | (injection h with h; subst h; simp)
@[simp] theorem Dev.outcome23_mem (d : Dev) : d.outcome23.mem = d.mem := by
  unfold Dev.outcome23
  extract_lets +onlyGivenNames -merge d1
  have h1 : d1.mem = d.mem := Dev.modPod_mem ..
  clear_value d1
  split
  · simp [h1]
  split
  · rw [Dev.beginRestore_mem _ _ _ _ _ (by assumption), h1]
  · simp [h1]
@[simp] theorem Dev.endRestore_mem (d : Dev) (x : Restoring) (status : Nat) (r0 : Nat) :
    (Dev.endRestore d x status r0).mem = d.mem := by
  unfold Dev.endRestore; (repeat' (first | split | dsimp only)) <;> simp
@[simp] theorem Dev.restoreReply_mem (d : Dev) (r : Nat) (status : Nat) (r0 : Nat) (r1 : Nat) :
    (Dev.restoreReply d r status r0 r1).mem = d.mem := by
  unfold Dev.restoreReply; (repeat' (first | split | dsimp only)) <;> simp

/-! Recovery -/
@[simp] theorem Dev.drain_mem (d : Dev) :
    (Dev.drain d).mem = d.mem := by
  unfold Dev.drain; (repeat' (first | split | dsimp only)) <;> simp
@[simp] theorem Dev.admitJoined_mem (d : Dev) :
    (Dev.admitJoined d).mem = d.mem := by
  unfold Dev.admitJoined; (repeat' (first | split | dsimp only)) <;> simp
@[simp] theorem Dev.recoverPod_mem (d : Dev) :
    (Dev.recoverPod d).mem = d.mem := by
  unfold Dev.recoverPod; (repeat' (first | split | dsimp only)) <;> simp
@[simp] theorem Dev.advance_mem (d : Dev) :
    (Dev.advance d).mem = d.mem := by
  simp [Dev.advance]
@[simp] theorem Dev.onCommitted_mem (d : Dev) (m : Mgmt) :
    (Dev.onCommitted d m).mem = d.mem := by
  unfold Dev.onCommitted; (repeat' (first | split | dsimp only)) <;> simp
@[simp] theorem Dev.tellManager_mem (d : Dev) (code : Nat) :
    (Dev.tellManager d code).mem = d.mem := by
  simp [Dev.tellManager]
@[simp] theorem Dev.setFailedStack_mem (d : Dev) (f : Nat) :
    (Dev.setFailedStack d f).mem = d.mem := by
  simp [Dev.setFailedStack]
@[simp] theorem Dev.endAborted_mem (d : Dev) (code : Nat) :
    (Dev.endAborted d code).mem = d.mem := by
  simp [Dev.endAborted]
@[simp] theorem Dev.noCopy_mem (d : Dev) :
    (Dev.noCopy d).mem = d.mem := by
  simp [Dev.noCopy]
@[simp] theorem Dev.onFault_mem (d : Dev) (m : Mgmt) (code : Nat) (eng : Nat) (seq : Nat) :
    (Dev.onFault d m code eng seq).mem = d.mem := by
  simp [Dev.onFault]
@[simp] theorem Dev.onStaged_mem (d : Dev) (m : Mgmt) (e : Nat) :
    (Dev.onStaged d m e).mem = d.mem := by
  unfold Dev.onStaged; (repeat' (first | split | dsimp only)) <;> simp
@[simp] theorem Dev.onTrigger_mem (d : Dev) (rank : Nat) (num : Nat) (capture : Bool) :
    (Dev.onTrigger d rank num capture).mem = d.mem := by
  simp [Dev.onTrigger]
@[simp] theorem Dev.onHostCmd_mem (d : Dev) (m : Mgmt) (h : HostHdr) (bs : List Byte) :
    (Dev.onHostCmd d m h bs).mem = d.mem := by
  unfold Dev.onHostCmd; (repeat' (first | split | dsimp only)) <;> simp
@[simp] theorem Dev.formReply_mem (d : Dev) (r : Nat) (c : Nat) :
    (Dev.formReply d r c).mem = d.mem := by
  simp [Dev.formReply]
@[simp] theorem Dev.innerReply_mem (d : Dev) (r : Nat) (tag : Nat) (status : Nat) (r0 : Nat) (r1 : Nat) :
    (Dev.innerReply d r tag status r0 r1).mem = d.mem := by
  simp [Dev.innerReply]
@[simp] theorem Dev.onHostCpl_mem (d : Dev) (m : Mgmt) (h : HostHdr) (bs : List Byte) :
    (Dev.onHostCpl d m h bs).mem = d.mem := by
  simp [Dev.onHostCpl]
@[simp] theorem Dev.forwardTimeout_mem (d : Dev) (tag : Nat) :
    (Dev.forwardTimeout d tag).mem = d.mem := by
  simp [Dev.forwardTimeout]
@[simp] theorem Dev.moveRegs_mem (d : Dev) (old : Nat) (new : Nat) :
    (Dev.moveRegs d old new).mem = d.mem := by
  simp [Dev.moveRegs]
@[simp] theorem Dev.restoreRegisters_mem (d : Dev) (rs : List (Nat × Nat)) : (d.restoreRegisters rs).mem = d.mem := by
  refine foldl_mem _ _ _ (fun d e => ?_)
  split <;> simp
@[simp] theorem Dev.completeSince_mem (d : Dev) (since : List (Nat × Nat)) :
    (Dev.completeSince d since).mem = d.mem := by
  simp [Dev.completeSince]
@[simp] theorem Dev.complexSwitch_mem (d : Dev) :
    (Dev.complexSwitch d).mem = d.mem := by
  simp [Dev.complexSwitch]

end Sys2Proof.Machine
end

