-- ==== Sys2Proof/Laws/MemHost.lean ====
section
/-! SUPPORT. The operations of the Dammel commands, the host, the observers, power and the vector unit that store nothing leave the memory unchanged. -/

set_option linter.unusedSimpArgs false
set_option linter.unusedVariables false

namespace Sys2Proof.Machine

/-! Commands -/
@[simp] theorem Dev.addKey_mem (d : Dev) (k : KeyEntry) :
    (Dev.addKey d k).mem = d.mem := by
  simp [Dev.addKey]
@[simp] theorem Dev.addAdmitted_mem (d : Dev) (device : Nat) (a : AdmitIn) :
    (Dev.addAdmitted d device a).mem = d.mem := by
  simp [Dev.addAdmitted]
@[simp] theorem Dev.addSelf_mem (d : Dev) :
    (Dev.addSelf d).mem = d.mem := by
  simp [Dev.addSelf]
@[simp] theorem Dev.startManaging_mem (d : Dev) :
    (Dev.startManaging d).mem = d.mem := by
  simp [Dev.startManaging]
@[simp] theorem Dev.formPod_mem (d : Dev) (x : PodIn) :
    (Dev.formPod d x).mem = d.mem := by
  simp [Dev.formPod]
@[simp] theorem Dev.podForm_mem (d : Dev) (x : PodIn) :
    (Dev.podForm d x).1.mem = d.mem := by
  unfold Dev.podForm; (repeat' (first | split | dsimp only)) <;> simp
@[simp] theorem Dev.greetPorts_mem (d : Dev) (r : Nat) (e : RankEntry) :
    (Dev.greetPorts d r e).mem = d.mem := by
  simp [Dev.greetPorts]
@[simp] theorem Dev.podAdmit_mem (d : Dev) (who : Issuer) (tag : Nat) (device : Nat) (a : AdmitIn) :
    (Dev.podAdmit d who tag device a).mem = d.mem := by
  unfold Dev.podAdmit; (repeat' (first | split | dsimp only)) <;> simp
@[simp] theorem Dev.podRemove_mem (d : Dev) (who : Issuer) (tag : Nat) (r : Nat) (how : Nat) :
    (Dev.podRemove d who tag r how).mem = d.mem := by
  simp [Dev.podRemove]
@[simp] theorem Dev.releaseSeats_mem (d : Dev) (ms : List (Nat × List Nat)) :
    (Dev.releaseSeats d ms).mem = d.mem := by
  simp [Dev.releaseSeats]
@[simp] theorem Dev.takePlan_mem (d : Dev) (who : Issuer) (tag : Nat) (bs : List Byte) (l : List (Nat × Nat × List Nat)) :
    (Dev.takePlan d who tag bs l).mem = d.mem := by
  simp [Dev.takePlan]
@[simp] theorem Dev.groupPlan_mem (d : Dev) (who : Issuer) (tag : Nat) (inp : DmaIn) :
    (Dev.groupPlan d who tag inp).mem = d.mem := by
  unfold Dev.groupPlan; (repeat' (first | split | dsimp only)) <;> simp
@[simp] theorem Dev.setSeed_mem (d : Dev) (seed : Nat) :
    (Dev.setSeed d seed).mem = d.mem := by
  simp [Dev.setSeed]
@[simp] theorem Dev.streamProgram_mem (d : Dev) :
    (Dev.streamProgram d).mem = d.mem := by
  simp [Dev.streamProgram]
@[simp] theorem Dev.hostAbort_mem (d : Dev) (n : Nat) :
    (Dev.hostAbort d n).1.mem = d.mem := by
  simp [Dev.hostAbort]

/-! Security -/
@[simp] theorem Dev.setImage_mem (d : Dev) (b : Bool) (img : List Byte) :
    (Dev.setImage d b img).mem = d.mem := by
  simp [Dev.setImage]
@[simp] theorem Dev.showSvn_mem (d : Dev) :
    (Dev.showSvn d).mem = d.mem := by
  simp [Dev.showSvn]
@[simp] theorem Dev.burnSvn_mem (d : Dev) (v : Nat) :
    (Dev.burnSvn d v).mem = d.mem := by
  simp [Dev.burnSvn]
@[simp] theorem Dev.svnRule_mem (d : Dev) :
    (Dev.svnRule d).mem = d.mem := by
  simp [Dev.svnRule]
@[simp] theorem Dev.fwUpdate_mem (d : Dev) (target : Nat) (inp : DmaIn) (good : Bool) :
    (Dev.fwUpdate d target inp good).1.mem = d.mem := by
  unfold Dev.fwUpdate; (repeat' (first | split | dsimp only)) <;> simp
@[simp] theorem Dev.fwActivate_mem (d : Dev) (who : Issuer) (tag : Nat) (image : Nat) :
    (Dev.fwActivate d who tag image).mem = d.mem := by
  simp [Dev.fwActivate]
@[simp] theorem Dev.setMbxState_mem (d : Dev) (v : Nat) :
    (Dev.setMbxState d v).mem = d.mem := by
  simp [Dev.setMbxState]
@[simp] theorem Dev.showImage_mem (d : Dev) (b : Bool) :
    (Dev.showImage d b).mem = d.mem := by
  simp [Dev.showImage]
@[simp] theorem Dev.certRead_mem (d : Dev) (who : Issuer) (tag : BitVec 32) (out : DmaOut) (item : Nat) :
    (Dev.certRead d who tag out item).1.mem = d.mem := by
  simp [Dev.certRead]
@[simp] theorem Dev.ownerEnrol_mem (d : Dev) (body : List Byte) :
    (Dev.ownerEnrol d body).1.mem = d.mem := by
  simp [Dev.ownerEnrol]
@[simp] theorem Dev.drawChallenge_mem (d : Dev) (scope : Nat) (duration : Nat) :
    (Dev.drawChallenge d scope duration).1.mem = d.mem := by
  simp [Dev.drawChallenge]
@[simp] theorem Dev.denied_mem (d : Dev) :
    (Dev.denied d).1.mem = d.mem := by
  simp [Dev.denied]
@[simp] theorem Dev.openDebug_mem (d : Dev) (scope : Nat) (duration : Nat) :
    (Dev.openDebug d scope duration).mem = d.mem := by
  simp [Dev.openDebug]
@[simp] theorem Dev.answerChallenge_mem (d : Dev) (sig : List Byte) (late : Bool) :
    (Dev.answerChallenge d sig late).1.mem = d.mem := by
  unfold Dev.answerChallenge; (repeat' (first | split | dsimp only)) <;> simp
@[simp] theorem Dev.debugUnlock_mem (d : Dev) (b : List Byte) (late : Bool) :
    (Dev.debugUnlock d b late).1.mem = d.mem := by
  simp [Dev.debugUnlock]
@[simp] theorem Dev.closeDebug_mem (d : Dev) :
    (Dev.closeDebug d).mem = d.mem := by
  simp [Dev.closeDebug]
@[simp] theorem Dev.writeSecDebug_mem (d : Dev) (v : Nat) :
    (Dev.writeSecDebug d v).mem = d.mem := by
  simp [Dev.writeSecDebug]
@[simp] theorem Dev.portOff_mem (d : Dev) (c : Nat) :
    (Dev.portOff d c).mem = d.mem := by
  simp [Dev.portOff]
@[simp] theorem Dev.extest_mem (d : Dev) :
    (Dev.extest d).mem = d.mem := by
  simp [Dev.extest]

/-! Host -/
@[simp] theorem Dev.bootOut_mem (d : Dev) (tag : Nat) (out : DmaOut) (bs : List Byte) (r0 : Nat) (r1 : Nat) :
    (Dev.bootOut d tag out bs r0 r1).1.mem = d.mem := by
  unfold Dev.bootOut; (repeat' (first | split | dsimp only)) <;> simp
@[simp] theorem Dev.bootCommand_mem (d : Dev) (e : List Byte) (out : DmaOut) : (d.bootCommand e out).1.mem = d.mem := by
  unfold Dev.bootCommand
  dsimp only
  repeat' split
  all_goals simp [bootAnswer]
@[simp] theorem Dev.bootDone_mem (d : Dev) (tag : Nat) (x : List Byte × Nat × Nat × Nat) :
    (Dev.bootDone d tag x).mem = d.mem := by
  simp [Dev.bootDone]
@[simp] theorem Dev.bootExecute_mem (d : Dev) (out : DmaOut) :
    (Dev.bootExecute d out).mem = d.mem := by
  unfold Dev.bootExecute; (repeat' (first | split | dsimp only)) <;> simp
@[simp] theorem Dev.writeMbxBoot_mem (d : Dev) (v : Nat) (inbound : List Byte) (out : DmaOut) :
    (Dev.writeMbxBoot d v inbound out).mem = d.mem := by
  simp [Dev.writeMbxBoot]
@[simp] theorem Dev.writeMbx_mem (d : Dev) (eff : Dev → Dev) (heff : ∀ y0, (eff y0).mem = y0.mem) :
    (Dev.writeMbx d eff).mem = d.mem := by
  simp [Dev.writeMbx, heff]
@[simp] theorem Dev.writeAperture_mem (d : Dev) (v : Nat) :
    (Dev.writeAperture d v).mem = d.mem := by
  simp [Dev.writeAperture]
@[simp] theorem Dev.restartWatchdog_mem (d : Dev) :
    (Dev.restartWatchdog d).mem = d.mem := by
  simp [Dev.restartWatchdog]
@[simp] theorem Dev.configRequest_mem (d : Dev) (reg : Nat) (w : Option (BitVec 32)) :
    (Dev.configRequest d reg w).mem = d.mem := by
  unfold Dev.configRequest; (repeat' (first | split | dsimp only)) <;> simp
@[simp] theorem Dev.hostLost_mem (d : Dev) :
    (Dev.hostLost d).mem = d.mem := by
  simp [Dev.hostLost]
@[simp] theorem Dev.resetMailbox_mem (d : Dev) :
    (Dev.resetMailbox d).mem = d.mem := by
  simp [Dev.resetMailbox]
@[simp] theorem Dev.flr_mem (d : Dev) :
    (Dev.flr d).mem = d.mem := by
  simp [Dev.flr]
@[simp] theorem Dev.loseDammel_mem (d : Dev) :
    (Dev.loseDammel d).mem = d.mem := by
  simp [Dev.loseDammel]
@[simp] theorem Dev.startImage_mem (d : Dev) (b : Bool) (fallback : Bool) :
    (Dev.startImage d b fallback).mem = d.mem := by
  simp [Dev.startImage]
@[simp] theorem Dev.bootFlash_mem (d : Dev) :
    (Dev.bootFlash d).mem = d.mem := by
  simp [Dev.bootFlash]
@[simp] theorem Dev.fundCleared_mem (d : Dev) :
    (Dev.fundCleared d).mem = d.mem := by
  simp [Dev.fundCleared]
@[simp] theorem Dev.fundReset_mem (d : Dev) :
    (Dev.fundReset d).mem = d.mem := by
  simp [Dev.fundReset]
@[simp] theorem Dev.lockPlls_mem (d : Dev) :
    (Dev.lockPlls d).mem = d.mem := by
  simp [Dev.lockPlls]
@[simp] theorem Dev.failModule_mem (d : Dev) :
    (Dev.failModule d).mem = d.mem := by
  simp [Dev.failModule]
@[simp] theorem Dev.keepEnables_mem (d : Dev) (old : Dev) :
    (Dev.keepEnables d old).mem = d.mem := by
  simp [Dev.keepEnables]
@[simp] theorem Dev.broughtUp_mem (d : Dev) (failing : List Nat) :
    (Dev.broughtUp d failing).mem = d.mem := by
  unfold Dev.broughtUp; (repeat' (first | split | dsimp only)) <;> simp

/-! Observe -/
@[simp] theorem Dev.counterRead_mem (d : Dev) (who : Issuer) (tag : BitVec 32) (out : DmaOut) (p : Nat) (sel : Nat) :
    (Dev.counterRead d who tag out p sel).1.mem = d.mem := by
  simp [Dev.counterRead]
@[simp] theorem Dev.cntClear_mem (d : Dev) (x : Nat) (v : Nat) :
    (Dev.cntClear d x v).mem = d.mem := by
  simp [Dev.cntClear]
@[simp] theorem Dev.baseClear_mem (d : Dev) (s : Nat) (v : Nat) :
    (Dev.baseClear d s v).mem = d.mem := by
  simp [Dev.baseClear]
@[simp] theorem Dev.armTrace_mem (d : Dev) (x : Nat) :
    (Dev.armTrace d x).mem = d.mem := by
  simp [Dev.armTrace]
@[simp] theorem Dev.writeTrcCtrl_mem (d : Dev) (x : Nat) (v : Nat) :
    (Dev.writeTrcCtrl d x v).mem = d.mem := by
  simp [Dev.writeTrcCtrl]
@[simp] theorem Dev.freezeTrace_mem (d : Dev) (x : Nat) :
    (Dev.freezeTrace d x).mem = d.mem := by
  simp [Dev.freezeTrace]
@[simp] theorem Dev.traceRead_mem (d : Dev) (who : Issuer) (tag : BitVec 32) (out : DmaOut) (x : Nat) (flags : Nat) :
    (Dev.traceRead d who tag out x flags).1.mem = d.mem := by
  simp [Dev.traceRead]
@[simp] theorem Dev.snapshotRead_mem (d : Dev) (who : Issuer) (tag : BitVec 32) (out : DmaOut) (flags : Nat) :
    (Dev.snapshotRead d who tag out flags).1.mem = d.mem := by
  simp [Dev.snapshotRead]
@[simp] theorem Dev.hostTrigger_mem (d : Dev) (b : List Byte) :
    (Dev.hostTrigger d b).1.mem = d.mem := by
  simp [Dev.hostTrigger]
@[simp] theorem Dev.trigIn_mem (d : Dev) (sinceOut : Option Nat) :
    (Dev.trigIn d sinceOut).mem = d.mem := by
  simp [Dev.trigIn]
@[simp] theorem Dev.pulseEnd_mem (d : Dev) :
    (Dev.pulseEnd d).mem = d.mem := by
  simp [Dev.pulseEnd]
@[simp] theorem Dev.trigOutFault_mem (d : Dev) :
    (Dev.trigOutFault d).mem = d.mem := by
  simp [Dev.trigOutFault]
@[simp] theorem Dev.writeTrigCfg_mem (d : Dev) (v : Nat) :
    (Dev.writeTrigCfg d v).mem = d.mem := by
  simp [Dev.writeTrigCfg]
@[simp] theorem Dev.smbAttempt_mem (d : Dev) (sda : Bool) (scl : Bool) (freed : Bool) :
    (Dev.smbAttempt d sda scl freed).mem = d.mem := by
  simp [Dev.smbAttempt]
@[simp] theorem Dev.smbStuck_mem (d : Dev) (sda : Bool) (scl : Bool) (freed : Bool) :
    (Dev.smbStuck d sda scl freed).mem = d.mem := by
  simp [Dev.smbStuck]

/-! Power -/
@[simp] theorem Dev.modPower_mem (d : Dev) (f : Power → Power) :
    (Dev.modPower d f).mem = d.mem := by
  simp [Dev.modPower]
@[simp] theorem Dev.applySteps_mem (d : Dev) :
    (Dev.applySteps d).mem = d.mem := by
  simp [Dev.applySteps]
@[simp] theorem Dev.judgePower_mem (d : Dev) :
    (Dev.judgePower d).mem = d.mem := by
  simp [Dev.judgePower]
@[simp] theorem Dev.powerSample_mem (d : Dev) (watts : Nat) (dv : Nat) :
    (Dev.powerSample d watts dv).mem = d.mem := by
  simp [Dev.powerSample]
@[simp] theorem Dev.judgeHeat_mem (d : Dev) (hot : Nat) :
    (Dev.judgeHeat d hot).mem = d.mem := by
  simp [Dev.judgeHeat]
@[simp] theorem Dev.inputLow_mem (d : Dev) (dv : Nat) :
    (Dev.inputLow d dv).mem = d.mem := by
  simp [Dev.inputLow]
@[simp] theorem Dev.inputRelease_mem (d : Dev) (dv : Nat) :
    (Dev.inputRelease d dv).mem = d.mem := by
  simp [Dev.inputRelease]
@[simp] theorem Dev.inputHigh_mem (d : Dev) (dv : Nat) :
    (Dev.inputHigh d dv).mem = d.mem := by
  simp [Dev.inputHigh]
@[simp] theorem Dev.enginePll_mem (d : Dev) (x : Nat) :
    (Dev.enginePll d x).mem = d.mem := by
  simp [Dev.enginePll]
@[simp] theorem Dev.writeTileCtrl_mem (d : Dev) (x : Nat) (v : Nat) :
    (Dev.writeTileCtrl d x v).mem = d.mem := by
  simp [Dev.writeTileCtrl]
@[simp] theorem Dev.joinTested_mem (d : Dev) :
    (Dev.joinTested d).mem = d.mem := by
  simp [Dev.joinTested]
@[simp] theorem Dev.tileResetDone_mem (d : Dev) (p : Nat) (pass : Bool) :
    (Dev.tileResetDone d p pass).mem = d.mem := by
  simp [Dev.tileResetDone]
@[simp] theorem Dev.sensor_mem (d : Dev) (f : Fld) (ok : Bool) :
    (Dev.sensor d f ok).mem = d.mem := by
  simp [Dev.sensor]
@[simp] theorem Dev.showReading_mem (d : Dev) (f : Fld) (ok : Bool) (v : Nat) :
    (Dev.showReading d f ok v).mem = d.mem := by
  simp [Dev.showReading]
@[simp] theorem Dev.readCoolant_mem (d : Dev) (x : Coolant) :
    (Dev.readCoolant d x).mem = d.mem := by
  simp [Dev.readCoolant]
@[simp] theorem Dev.judgeOutlet_mem (d : Dev) (t : Int) :
    (Dev.judgeOutlet d t).mem = d.mem := by
  simp [Dev.judgeOutlet]
@[simp] theorem Dev.judgeFlow_mem (d : Dev) (i : Nat) :
    (Dev.judgeFlow d i).mem = d.mem := by
  simp [Dev.judgeFlow]
@[simp] theorem Dev.judgeLeak_mem (d : Dev) (r : Nat) :
    (Dev.judgeLeak d r).mem = d.mem := by
  simp [Dev.judgeLeak]
@[simp] theorem Dev.coolantSample_mem (d : Dev) (x : Coolant) :
    (Dev.coolantSample d x).mem = d.mem := by
  simp [Dev.coolantSample]

/-! Shunter -/
@[simp] theorem Dev.shnSeal_mem (d : Dev) (p : Nat) (x : Desc) (rd : ReadOutcome) :
    (Dev.shnSeal d p x rd).1.mem = d.mem := by
  simp [Dev.shnSeal]

/-! Vec -/
@[simp] theorem Dev.vecRun_mem (d : Dev) (p : Nat) (op : Nat) (chk : Desc → Dev → Chk) (eff : Desc → Dev → Dev) (heff : ∀ y0 y1, (eff y0 y1).mem = y1.mem) :
    (Dev.vecRun d p op chk eff).mem = d.mem := by
  simp [Dev.vecRun, heff]

/-! Update -/
@[simp] theorem Dev.updTell_mem (d : Dev) (p : Nat) (run : UpdRun) (run' : UpdRun) (drips : Nat) (mat : Nat) :
    (Dev.updTell d p run run' drips mat).mem = d.mem := by
  simp [Dev.updTell]
@[simp] theorem Dev.updItems_mem (d : Dev) (p : Nat) (x : Desc) (whisk : Bool) (kp : Nat) :
    (Dev.updItems d p x whisk kp).mem = d.mem := by
  simp [Dev.updItems]

/-! Writes -/

end Sys2Proof.Machine
end

