-- ==== Sys2Proof/Laws/Raise.lean ====
section
/-! SUPPORT. What raising an event, firing a trigger and sending a message may write: of the registers only the counts and states of
events, traces and triggers (`raisedRegs`), and of the rest of the device only what `Dev.rest` blanks. -/

namespace Sys2Proof

/-- The registers that raising an event may write. -/
def raisedRegs : List RegName := [.SNP_STATUS, .TRC_STATUS, .TRC_RSEQ, .MBX_STATUS]

/-- A register that no event writes. -/
def RegId.calm (r : RegId) : Prop := r.name ∉ raisedRegs ∧ r.inst < 255 ∧ r.idx < 4096

theorem RegId.calm.ne {r : RegId} (h : r.calm) {n : RegName} (hn : n ∈ raisedRegs) : r.name ≠ n := fun e => h.1 (e ▸ hn)

end Sys2Proof

namespace Sys2Proof.Machine

/-- A register of another name keeps its value when a field is replaced. -/
theorem Dev.reg_setFld_name (d : Dev) (f : Fld) (v i j : Nat) (r : RegId) (h : r.name ≠ f.reg) (hr : r.inst < 255 ∧ r.idx < 4096)
    (hi : i < 255) (hj : j < 4096) : (d.setFld f v i j).reg r = d.reg r :=
  Dev.reg_setFld_other d f v i j r (RegId.key_ne_of_name h hr.1 hr.2 hi hj)

theorem Dev.reg_bump_name (d : Dev) (f : Fld) (k i j : Nat) (r : RegId) (h : r.name ≠ f.reg) (hr : r.inst < 255 ∧ r.idx < 4096)
    (hi : i < 255) (hj : j < 4096) : (d.bump f k i j).reg r = d.reg r :=
  Dev.reg_setFld_name d f _ i j r h hr hi hj

theorem foldl_reg {β : Type} (r : RegId) (f : Dev → β → Dev) (l : List β) (d : Dev) (h : ∀ d x, (f d x).reg r = d.reg r) :
    (l.foldl f d).reg r = d.reg r := foldl_keeps (fun d => d.reg r) f l d h

/-! ## Updates of other fields leave the registers alone -/

@[simp] theorem Dev.withFree_reg (d : Dev) (x : Nat) (r : RegId) : (d.withFree x).reg r = d.reg r := id rfl
@[simp] theorem Dev.withQps_reg (d : Dev) (x : Tbl (Option QP)) (r : RegId) : (d.withQps x).reg r = d.reg r := id rfl
@[simp] theorem Dev.withHostOut_reg (d : Dev) (x : List HostWrite) (r : RegId) : (d.withHostOut x).reg r = d.reg r := id rfl
@[simp] theorem Dev.withMsi_reg (d : Dev) (x : List Nat) (r : RegId) : (d.withMsi x).reg r = d.reg r := id rfl
@[simp] theorem Dev.withMsixPending_reg (d : Dev) (x : List Nat) (r : RegId) : (d.withMsixPending x).reg r = d.reg r := id rfl
@[simp] theorem Dev.withEvents_reg (d : Dev) (x : List Event) (r : RegId) : (d.withEvents x).reg r = d.reg r := id rfl
@[simp] theorem Dev.withTraces_reg (d : Dev) (x : Tbl Trace) (r : RegId) : (d.withTraces x).reg r = d.reg r := id rfl
@[simp] theorem Dev.withTrig_reg (d : Dev) (x : Trig) (r : RegId) : (d.withTrig x).reg r = d.reg r := id rfl
@[simp] theorem Dev.withMgmtOut_reg (d : Dev) (x : List Mgmt) (r : RegId) : (d.withMgmtOut x).reg r = d.reg r := id rfl
@[simp] theorem Dev.withAwaiting_reg (d : Dev) (x : List Mgmt) (r : RegId) : (d.withAwaiting x).reg r = d.reg r := id rfl
@[simp] theorem Dev.withMgmtSeq_reg (d : Dev) (x : Tbl Nat) (r : RegId) : (d.withMgmtSeq x).reg r = d.reg r := id rfl
@[simp] theorem Dev.withSvc_reg (d : Dev) (x : Service) (r : RegId) : (d.withSvc x).reg r = d.reg r := id rfl
@[simp] theorem Dev.withPower_reg (d : Dev) (x : Power) (r : RegId) : (d.withPower x).reg r = d.reg r := id rfl
@[simp] theorem Dev.withPod_reg (d : Dev) (x : Pod) (r : RegId) : (d.withPod x).reg r = d.reg r := id rfl
@[simp] theorem Dev.withTiles_reg (d : Dev) (x : Tbl TileSt) (r : RegId) : (d.withTiles x).reg r = d.reg r := id rfl
@[simp] theorem Dev.withFlash_reg (d : Dev) (x : BootFlash) (r : RegId) : (d.withFlash x).reg r = d.reg r := id rfl
@[simp] theorem Dev.withFuses_reg (d : Dev) (x : Fuses) (r : RegId) : (d.withFuses x).reg r = d.reg r := id rfl
@[simp] theorem Dev.withMem_reg (d : Dev) (x : List Host.Cell) (r : RegId) : (d.withMem x).reg r = d.reg r := id rfl
@[simp] theorem Dev.withHandover_reg (d : Dev) (x : Record) (r : RegId) : (d.withHandover x).reg r = d.reg r := id rfl
@[simp] theorem Dev.setQp_reg (d : Dev) (q : Nat) (x : QP) (r : RegId) : (d.setQp q x).reg r = d.reg r := id rfl

/-! ## What is left alone beside the registers -/

@[simp] theorem Dev.fireMsi_rest (d : Dev) (v : Nat) : (d.fireMsi v).rest = d.rest := by
  unfold Dev.fireMsi; repeat' split
  all_goals simp
@[simp] theorem Dev.putEvent_rest (d : Dev) (q code rank step : Nat) (data : List Byte) : (d.putEvent q code rank step data).rest = d.rest := by
  unfold Dev.putEvent; (repeat' (first | split | dsimp only)) <;> simp
@[simp] theorem Dev.sendMgmtAt_rest (d : Dev) (epoch dst step : Nat) (body : MgmtBody) : (d.sendMgmtAt epoch dst step body).rest = d.rest := by
  unfold Dev.sendMgmtAt; (repeat' (first | split | dsimp only)) <;> simp
@[simp] theorem Dev.sendMgmt_rest (d : Dev) (dst step : Nat) (body : MgmtBody) : (d.sendMgmt dst step body).rest = d.rest := by
  simp [Dev.sendMgmt]
@[simp] theorem Dev.forwardEvent_rest (d : Dev) (code step : Nat) : (d.forwardEvent code step).rest = d.rest := by
  simp [Dev.forwardEvent]
@[simp] theorem Dev.logOne_rest (d : Dev) (code step : Nat) : (d.logOne code step).rest = d.rest := by
  simp [Dev.logOne]
@[simp] theorem Dev.log_rest (d : Dev) (code : Nat) : (d.log code).rest = d.rest := by
  unfold Dev.log; (repeat' (first | split | dsimp only)) <;> simp
@[simp] theorem Dev.logs_rest (d : Dev) (codes : List Nat) : (d.logs codes).rest = d.rest := by
  simp [Dev.logs]
@[simp] theorem Dev.trace_rest (d : Dev) (x kind : Nat) (tile : Option Nat) (src : Nat) (body : List Byte) :
    (d.trace x kind tile src body).1.rest = d.rest := by
  unfold Dev.trace; (repeat' (first | split | dsimp only)) <;> simp
@[simp] theorem Dev.pulse_rest (d : Dev) : d.pulse.rest = d.rest := by
  unfold Dev.pulse; split <;> simp
@[simp] theorem Dev.deliverDie_rest (d : Dev) (capture : Bool) (body : List Byte) (x : Nat) :
    (d.deliverDie capture body x).rest = d.rest := by
  unfold Dev.deliverDie; (repeat' (first | split | dsimp only)) <;> simp
@[simp] theorem Dev.capture_rest (d : Dev) (num : Nat) (h : Bool → List (Nat × Nat)) (out : Bool) :
    (d.capture num h out).rest = d.rest := by
  unfold Dev.capture; (repeat' (first | split | dsimp only)) <;> simp
@[simp] theorem Dev.deliver_rest (d : Dev) (sources : Nat) (capture : Bool) (origin : Option (Nat × Nat)) (out : Bool) :
    (d.deliver sources capture origin out).rest = d.rest := by
  unfold Dev.deliver; (repeat' (first | split | dsimp only)) <;> simp
@[simp] theorem Dev.sendTrigger_rest (d : Dev) (capture : Bool) (sources : Nat) : (d.sendTrigger capture sources).rest = d.rest := by
  simp [Dev.sendTrigger]
@[simp] theorem Dev.fire_rest (d : Dev) (source : Nat) : (d.fire source).rest = d.rest := by
  unfold Dev.fire; (repeat' (first | split | dsimp only)) <;> simp
/-- Raising an event writes none of what `Dev.rest` keeps: memory, tiles, pod, power, fuses, flash and the others. -/
@[simp] theorem Dev.raise_rest (d : Dev) (code : Nat) : (d.raise code).rest = d.rest := by
  unfold Dev.raise; (repeat' (first | split | dsimp only)) <;> simp

/-! ## The registers left alone -/

section
variable {r : RegId}

theorem Dev.fireMsi_reg (d : Dev) (v : Nat) (r : RegId) : (d.fireMsi v).reg r = d.reg r := by
  unfold Dev.fireMsi; repeat' split
  all_goals simp
theorem Dev.putEvent_reg (d : Dev) (q code rank step : Nat) (data : List Byte) (h : r.calm) :
    (d.putEvent q code rank step data).reg r = d.reg r := by
  unfold Dev.putEvent
  split
  · rfl
  · split
    · rfl
    · split
      · simp
      · split
        · refine (Dev.reg_bump_name _ MBX_STATUS.EVT_LOST _ _ _ r (h.ne (by decide)) h.2 (by decide) (by decide)).trans (by simp)
        · dsimp only
          split
          · refine (Dev.fireMsi_reg _ _ r).trans (by simp)
          · simp
theorem Dev.sendMgmtAt_reg (d : Dev) (epoch dst step : Nat) (body : MgmtBody) (r : RegId) : (d.sendMgmtAt epoch dst step body).reg r = d.reg r := by
  unfold Dev.sendMgmtAt
  split
  · rfl
  · simp
theorem Dev.sendMgmt_reg (d : Dev) (dst step : Nat) (body : MgmtBody) (r : RegId) : (d.sendMgmt dst step body).reg r = d.reg r :=
  Dev.sendMgmtAt_reg _ _ _ _ _ r
theorem Dev.forwardEvent_reg (d : Dev) (code step : Nat) (r : RegId) : (d.forwardEvent code step).reg r = d.reg r :=
  (Dev.sendMgmt_reg _ _ _ _ r).trans (by simp)
theorem Dev.logOne_reg (d : Dev) (code step : Nat) (h : r.calm) : (d.logOne code step).reg r = d.reg r := by
  unfold Dev.logOne
  refine (foldl_reg r _ _ _ (fun d x => Dev.putEvent_reg _ _ _ _ _ _ h)).trans (by simp)
theorem Dev.log_reg (d : Dev) (code : Nat) (h : r.calm) : (d.log code).reg r = d.reg r := by
  have h1 : ∀ c s, (d.logOne c s).reg r = d.reg r := fun c s => Dev.logOne_reg d c s h
  unfold Dev.log
  dsimp only
  split <;> split
  · rw [Dev.forwardEvent_reg, Dev.logOne_reg _ _ _ h, h1]
  · rw [Dev.logOne_reg _ _ _ h, h1]
  · rw [Dev.forwardEvent_reg, h1]
  · exact h1 _ _
theorem Dev.logs_reg (d : Dev) (codes : List Nat) (h : r.calm) : (d.logs codes).reg r = d.reg r :=
  foldl_reg r _ _ _ (fun _ _ => Dev.log_reg _ _ h)
theorem Dev.trace_reg (d : Dev) (x kind : Nat) (tile : Option Nat) (src : Nat) (body : List Byte) (hx : x < 255) (h : r.calm) :
    (d.trace x kind tile src body).1.reg r = d.reg r := by
  have hs : ∀ (d : Dev) (f : Fld) v, f.reg ∈ raisedRegs → (d.setFld f v x).reg r = d.reg r :=
    fun d f v hf => Dev.reg_setFld_name d f v x 0 r (h.ne hf) h.2 hx (by decide)
  have hn : ∀ v, ((d.withFree (d.free + 1)).setFld TRC_RSEQ.NEXT v x).reg r = d.reg r :=
    fun v => (hs _ _ _ (by decide)).trans (by simp)
  have hb : ∀ (d : Dev) (f : Fld) k, f.reg ∈ raisedRegs → (d.bump f k x).reg r = d.reg r := fun d f _ hf => hs d f _ hf
  have he := hn (d.fld TRC_RSEQ.NEXT x + 1)
  unfold Dev.trace
  dsimp only [Dev.fresh]
  generalize (d.withFree (d.free + 1)).setFld TRC_RSEQ.NEXT (d.fld TRC_RSEQ.NEXT x + 1) x = e at he ⊢
  (repeat' split) <;> first
    | rfl
    | exact he
    | simp (disch := decide) only [Dev.withTraces_reg, hb, hs, he]

theorem Dev.pulse_reg (d : Dev) (r : RegId) : d.pulse.reg r = d.reg r := by
  unfold Dev.pulse
  split
  · rfl
  · simp
theorem Dev.deliverDie_reg (d : Dev) (capture : Bool) (body : List Byte) (x : Nat) (hx : x < 255) (h : r.calm) :
    (d.deliverDie capture body x).reg r = d.reg r := by
  have hs : ∀ (d : Dev) (f : Fld) v, f.reg ∈ raisedRegs → (d.setFld f v x).reg r = d.reg r :=
    fun d f v hf => Dev.reg_setFld_name d f v x 0 r (h.ne hf) h.2 hx (by decide)
  unfold Dev.deliverDie
  dsimp only
  generalize hb : body ++ leBytes 6 (Config.freeNat d.free) = b
  have h0 : ((d.withFree (d.free + 1)).trace x 5 none 0 b).1.reg r = d.reg r :=
    (Dev.trace_reg _ x 5 none 0 b hx h).trans (by simp)
  have h1 : ∀ cs, (((d.withFree (d.free + 1)).trace x 5 none 0 b).1.logs cs).reg r = d.reg r :=
    fun cs => (Dev.logs_reg _ _ h).trans h0
  split
  · exact h1 _
  · split
    · exact (hs _ _ _ (by decide)).trans (h1 _)
    · split
      · exact (Dev.log_reg _ _ h).trans ((hs _ _ _ (by decide)).trans ((hs _ _ _ (by decide)).trans (h1 _)))
      · rw [Dev.withTraces_reg]; exact (hs _ _ _ (by decide)).trans (h1 _)
theorem Dev.capture_reg (d : Dev) (num : Nat) (hd : Bool → List (Nat × Nat)) (out : Bool) (h : r.calm) :
    (d.capture num hd out).reg r = d.reg r := by
  have hs : ∀ (d : Dev) (f : Fld) v, f.reg ∈ raisedRegs → (d.setFld f v).reg r = d.reg r :=
    fun d f v hf => Dev.reg_setFld_name d f v 0 0 r (h.ne hf) h.2 (by decide) (by decide)
  unfold Dev.capture
  dsimp only
  have h1 : ∀ (c : Prop) [Decidable c], (if c then (d.log 0xD801).pulse else d.log 0xD801).reg r = d.reg r := by
    intro c _
    split
    · exact (Dev.pulse_reg _ r).trans (Dev.log_reg _ _ h)
    · exact Dev.log_reg _ _ h
  have h2 := h1 (out = true ∨ (d.log 0xD801).flag SNP_TRIG_CFG.OUT_EN = true)
  have hb : ∀ (d : Dev) (f : Fld) k, f.reg ∈ raisedRegs → (d.bump f k).reg r = d.reg r := fun d f _ hf => hs d f _ hf
  generalize (if out = true ∨ (d.log 0xD801).flag SNP_TRIG_CFG.OUT_EN = true then (d.log 0xD801).pulse else d.log 0xD801) = e at h2 ⊢
  split
  · rw [Dev.log_reg _ _ h, hb _ _ _ (by decide)]; exact h2
  · rw [hs _ _ _ (by decide), hs _ _ _ (by decide), Dev.withTrig_reg, Dev.withFree_reg]; exact h2
theorem Dev.deliver_reg (d : Dev) (sources : Nat) (capture : Bool) (origin : Option (Nat × Nat)) (out : Bool) (h : r.calm) :
    (d.deliver sources capture origin out).reg r = d.reg r := by
  have h1 : ∀ (d : Dev) body, ((List.range 16).foldl (fun d x => d.deliverDie capture body x) d).reg r = d.reg r := by
    intro d body
    have : ∀ (l : List Nat) (d : Dev), (∀ x ∈ l, x < 255) → (l.foldl (fun d x => d.deliverDie capture body x) d).reg r = d.reg r := by
      intro l
      induction l with
      | nil => intro d _; rfl
      | cons x l ih =>
        intro d hl
        rw [List.foldl_cons, ih _ (fun y hy => hl y (List.mem_cons_of_mem _ hy)), Dev.deliverDie_reg _ _ _ _ (hl x (List.mem_cons_self ..)) h]
    exact this _ d (by decide)
  have h0 : ∀ (d : Dev) v, (d.setFld SNP_STATUS.TRIG_NUM v).reg r = d.reg r :=
    fun d v => Dev.reg_setFld_name d _ v 0 0 r (h.ne (by decide)) h.2 (by decide) (by decide)
  unfold Dev.deliver
  dsimp only
  split
  · rw [Dev.withTrig_reg, Dev.capture_reg _ _ _ _ h, h1, Dev.withTrig_reg]; exact h0 _ _
  · rw [Dev.withTrig_reg, h1, Dev.withTrig_reg]; exact h0 _ _
theorem Dev.sendTrigger_reg (d : Dev) (capture : Bool) (sources : Nat) (r : RegId) : (d.sendTrigger capture sources).reg r = d.reg r :=
  foldl_reg r _ _ _ (fun _ _ => Dev.sendMgmt_reg _ _ _ _ r)
theorem Dev.fire_reg (d : Dev) (source : Nat) (h : r.calm) : (d.fire source).reg r = d.reg r := by
  unfold Dev.fire
  split
  · rfl
  · split
    · simp
    · dsimp only
      split
      · exact (Dev.sendTrigger_reg _ _ _ r).trans (Dev.deliver_reg _ _ _ _ _ h)
      · exact Dev.deliver_reg _ _ _ _ _ h
/-- Raising an event leaves every register but `raisedRegs` alone. -/
theorem Dev.raise_reg (d : Dev) (code : Nat) (h : r.calm) : (d.raise code).reg r = d.reg r := by
  have h1 : ∀ (c : Prop) [Decidable c], (if c then (d.log code).fire 1 else d.log code).reg r = d.reg r := by
    intro c _
    split
    · exact (Dev.fire_reg _ _ h).trans (Dev.log_reg _ _ h)
    · exact Dev.log_reg _ _ h
  unfold Dev.raise
  dsimp only
  have h2 := h1 (¬(0xD800 ≤ code ∧ code ≤ 0xDFFF) ∧
    Nat.land code ((d.log code).fld SNP_MATCH.MASK) = Nat.land ((d.log code).fld SNP_MATCH.CODE) ((d.log code).fld SNP_MATCH.MASK))
  generalize (if ¬(0xD800 ≤ code ∧ code ≤ 0xDFFF) ∧
    Nat.land code ((d.log code).fld SNP_MATCH.MASK) = Nat.land ((d.log code).fld SNP_MATCH.CODE) ((d.log code).fld SNP_MATCH.MASK)
    then (d.log code).fire 1 else d.log code) = e at h2 ⊢
  split
  · exact (Dev.fire_reg _ _ h).trans h2
  · exact h2

end

/-- A field of a calm register is as before an event. -/
theorem Dev.raise_fld (d : Dev) (code : Nat) (f : Fld) (i j : Nat) (h : RegId.calm ⟨f.reg, i, j⟩) : (d.raise code).fld f i j = d.fld f i j := by
  unfold Dev.fld; rw [Dev.raise_reg _ _ h]

/-- The power's state is as before an event. -/
@[simp] theorem Dev.raise_power (d : Dev) (code : Nat) : (d.raise code).power = d.power :=
  show (d.raise code).rest.power = d.rest.power from congrArg (fun d : Dev => d.power) (Dev.raise_rest d code)
@[simp] theorem Dev.raise_svc (d : Dev) (code : Nat) : (d.raise code).svc = d.svc :=
  show (d.raise code).rest.svc = d.rest.svc from congrArg (fun d : Dev => d.svc) (Dev.raise_rest d code)
@[simp] theorem Dev.raise_pod (d : Dev) (code : Nat) : (d.raise code).pod = d.pod :=
  show (d.raise code).rest.pod = d.rest.pod from congrArg (fun d : Dev => d.pod) (Dev.raise_rest d code)
@[simp] theorem Dev.raise_tiles (d : Dev) (code : Nat) : (d.raise code).tiles = d.tiles :=
  show (d.raise code).rest.tiles = d.rest.tiles from congrArg (fun d : Dev => d.tiles) (Dev.raise_rest d code)
@[simp] theorem Dev.sendMgmt_power (d : Dev) (dst step : Nat) (body : MgmtBody) : (d.sendMgmt dst step body).power = d.power :=
  show (d.sendMgmt dst step body).rest.power = d.rest.power from congrArg (fun d : Dev => d.power) (Dev.sendMgmt_rest d dst step body)

end Sys2Proof.Machine
end

