-- ==== Sys2Proof/Laws/Starts.lean ====
section
/-! SUPPORT. One law for each shared operation that starts a command, or takes a message or a packet: under the conditions of
Safety.lean it has its effect, and nothing else happens. -/

namespace Sys2Proof.Machine

/-- A command is what its meaning makes of the device. -/
theorem run_eq {f : Dev → Dev} {s : State} {d : Dev} (h : f s.dev = d) : run f s = .next (s.put d) := by
  unfold run; rw [h]

theorem Dev.startChecked_none (d : Dev) (p : Nat) (i : Issued) (eff : Dev → Dev) : d.startChecked p i none eff = eff d := rfl

theorem Dev.startChecked_some (d : Dev) (p : Nat) (i : Issued) (code : Nat) (eff : Dev → Dev) :
    d.startChecked p i (some code) eff = d.readHalt p code i.desc := rfl

/-- What a unit's command does with the device that it leaves the queue of decides what it leaves. -/
theorem Dev.ranUnit_congr {d : Dev} {p : Nat} {i : Issued} {f g : Dev → Dev} (h : f (d.leaveQueue p i) = g (d.leaveQueue p i)) :
    d.ranUnit p i f = d.ranUnit p i g := by
  unfold Dev.ranUnit; rw [h]

/-- The head of a unit's queue runs where it is of the kind named and may start (R236). -/
theorem Dev.runUnit_starts {d : Dev} {p u : Nat} {sel : Desc → Bool} {i : Issued} (h : d.Starts p u sel i) (body : Issued → Dev → Dev) :
    (d.runUnit p u sel body).liftHold p = d.ranUnit p i (body i) := by
  unfold Dev.runUnit Dev.ranUnit
  rw [h.1]
  dsimp only
  rw [if_pos h.2]

/-- A unit whose head may not start, or has none, does nothing. -/
theorem Dev.runUnit_idle {d : Dev} {p u : Nat} (h : d.startable p u = none) (sel : Desc → Bool) (body : Issued → Dev → Dev) :
    d.runUnit p u sel body = d := by
  unfold Dev.runUnit
  rw [h]

theorem firstOf_none_cons (l : List Chk) : firstOf (none :: l) = firstOf l := rfl
theorem firstOf_none_single (c : Chk) : firstOf [c] = c := by cases c <;> rfl

/-- A VEC whose checks pass has its effect and completes (R250, R258). -/
theorem Dev.vecRun_starts {d : Dev} {p op : Nat} {i : Issued} (h : d.VecStarts p op i) {chk : Desc → Dev → Chk} (eff : Desc → Dev → Dev)
    (hc : chk i.desc (d.leaveQueue p i) = none) :
    d.vecRun p op chk eff = d.ranUnit p i (fun d => d.vecEnd (eff i.desc d) p i) := by
  unfold Dev.vecRun
  rw [Dev.runUnit_starts ⟨h.1, h.2.1⟩]
  refine Dev.ranUnit_congr ?_
  dsimp only
  rw [hc, h.2.2, firstOf_none_cons, firstOf_none_single, Dev.startChecked_none]
  rfl

/-- A slot whose words read well takes the contributions (R168, R178). -/
theorem Dev.vecSlot_clean {d : Dev} {p : Nat} {x : Desc} {rd : ReadOutcome} (h : d.slotRead p (x.vImm0 % 256) rd = (d, none))
    (cs : Nat → Nat → List Contrib) : d.vecSlot p x rd cs = d.slotAdd p (x.vImm0 % 256) ((d.gIn p x.vImm1).getD 0) x.mb cs := by
  unfold Dev.vecSlot
  dsimp only
  rw [h]

/-- An exchange whose checks pass starts (R353). -/
theorem Dev.runXch_starts {d : Dev} {p prim : Nat} {i : Issued} (h : d.XchStarts p prim i) (eff : Xch → Dev → Dev) :
    d.runXch p prim eff = d.ranXch p i eff := by
  unfold Dev.runXch Dev.ranXch
  rw [Dev.runUnit_starts (i := i) ⟨h.1, by rw [h.2.1, h.2.2.1]; simp⟩]
  refine congrArg Dev.rduSync (Dev.ranUnit_congr ?_)
  dsimp only
  rw [h.2.2.2, Dev.startChecked_none]

/-- An exchange whose slot reads well goes on (R178). -/
theorem Dev.xchSlot_good {d : Dev} {p : Nat} {x : Xch} {rd : ReadOutcome} (h : d.SlotGood p x rd) (rest : Dev → Dev) :
    d.xchSlot p x rd rest = rest (d.slotRed p x rd) := by
  unfold Dev.xchSlot Dev.slotRed
  unfold Dev.SlotGood at h
  split
  · have h := h (by assumption)
    generalize d.slotRead p x.desc.xSlot rd = o at h ⊢
    obtain ⟨e, o⟩ := o
    cases h
    rfl
  · rfl

/-- An exchange whose writes have landed goes on. -/
theorem Dev.landed_lands {d : Dev} {p : Nat} {x : Xch} (h : d.Lands p x) (rest : Dev → Dev) :
    d.landed p x rest = rest (d.afterLanding p x) := by
  unfold Dev.landed Dev.afterLanding
  unfold Dev.Lands at h
  dsimp only
  rw [h]
  rfl

/-- A Dammel command whose checks pass has its effect (R447). -/
theorem Dev.cmd_runs {d : Dev} {who : Issuer} {tag : BitVec 32} {op : Nat} {body : List Byte} (h : d.Runs who tag op body)
    (eff : List Byte → Dev → Dev) : d.cmd who tag op eff = eff body d := by
  obtain ⟨e, h1, h2, h3, h4, h5, h6, h7, h8, h9, h10⟩ := h
  unfold Dev.cmd
  rw [h1]
  dsimp only
  rw [if_neg (by simp [h2, h4, h5]), h6, if_neg (by simp), h7]
  simp only [Bool.false_eq_true, if_false, h8, h9, h10, Bool.not_true]
  rw [h3]

/-- A Dammel command that answers at once posts what its effect answers. -/
theorem Dev.cmdNow_runs {d : Dev} {who : Issuer} {tag : BitVec 32} {op : Nat} {body : List Byte} (h : d.Runs who tag op body)
    (eff : List Byte → Dev → Dev × Nat × Nat × Nat) :
    d.cmdNow who tag op eff =
      (if [5, 6, 7, 8, 9].contains (eff body d).2.1 then (eff body d).1.bump MBX_STATUS.REJECTED else (eff body d).1).complete who tag.toNat
        (eff body d).2.1 (eff body d).2.2.1 (eff body d).2.2.2 := by
  unfold Dev.cmdNow
  rw [Dev.cmd_runs h]

/-- A list that can take the bytes takes them (R461). -/
theorem Dev.sendOut_can {d : Dev} {who : Issuer} {out : DmaOut} {bs : List Byte} (h : d.CanSend who out bs.length) (tag : BitVec 32)
    (r0 r1 : Nat) : d.sendOut who tag out bs r0 r1 = (d.emit who tag.toNat bs, 0, r0, r1) := by
  obtain ⟨h1, h2, h3⟩ := h
  unfold Dev.sendOut
  rw [if_neg (by omega), h2, h3]
  rfl

/-- A Dammel command that runs and answers 0 completes with it. -/
theorem Dev.cmdNow_ok {d e : Dev} {who : Issuer} {tag : BitVec 32} {op r0 r1 : Nat} {body : List Byte} (h : d.Runs who tag op body)
    {eff : List Byte → Dev → Dev × Nat × Nat × Nat} (he : eff body d = (e, 0, r0, r1)) :
    d.cmdNow who tag op eff = e.complete who tag.toNat 0 r0 r1 := by
  rw [Dev.cmdNow_runs h, he]
  rfl

/-- A management message that is new has its effect (R349): it is not late. -/
theorem Dev.onMgmt_hears {d : Dev} {m : Mgmt} (h : d.Hears m) (eff : Bool → Dev → Dev) : d.onMgmt m eff = eff false (d.heardNew m) := by
  obtain ⟨h1, h2, h3, h4, h5, h6, h7, h8⟩ := h
  unfold Dev.onMgmt
  dsimp only
  rw [if_neg (by simp [h1, h2]), if_neg (by simp [h3]), if_neg (by simp [h4]), if_neg (by simp [h5, h6]), if_neg h7, h8]
  rfl

theorem Dev.onNew_hears {d : Dev} {m : Mgmt} (h : d.Hears m) (eff : Dev → Dev) : d.onNew m eff = eff (d.heardNew m) := by
  unfold Dev.onNew
  rw [Dev.onMgmt_hears h]
  rfl

/-- A packet that passes the checks of R349 has its effect. -/
theorem Dev.receive_takes {d : Dev} {c : Nat} {pk : Packet} {stream : Option Bool} (h : d.Takes c pk stream) (rest : Dev → Dev) :
    d.receive c pk stream rest = rest (d.took c pk) := by
  obtain ⟨h1, h2, h3, h4, h5⟩ := h
  unfold Dev.receive
  unfold Dev.fetched at h1 h3 h4 h5
  dsimp only
  rw [if_neg (by simpa using h1), if_neg (by simpa using h2), if_neg (by simp [h3, h4]), if_neg (by
    rintro ⟨h, h'⟩
    rcases h5 with h5 | h5
    · simp [h5] at h
    · exact h5 h')]
  rfl

end Sys2Proof.Machine
end

