-- ==== Sys2Proof/WellFormed.lean ====
section
/-! DEFINITION. What makes a command one that can reach the device: operands in the ranges that their carriers have. The meanings
are total and do not rest on it. -/

namespace Sys2Proof

/-- A piece of a unit of u bytes: not empty, and inside the unit that holds its first byte. -/
def piece (u a : Nat) (bs : List Byte) : Bool := !bs.isEmpty && decide (a % u + bs.length ≤ u)

/-- A written line of a larder has 128 B (R293). -/
def LarderReq.wf (r : LarderReq) : Bool :=
  match r.write with
  | some line => line.length == 128
  | none => true

/-- No walk has more blocks than this: BATCH, M, N and K have 16, 24, 24 and 24 bits at most (R245, R246); the logs keep the
index modulo 4,096 (R100, R180). -/
def ArrayFault.wf (f : ArrayFault) : Bool := decide (f.block < 2 ^ 88)

/-- A payload fits a packet (R346). -/
def Packet.wf (pk : Packet) : Bool := decide (pk.payload.length ≤ 4096)

/-- A command whose operands fit what carries them. -/
def Instr.wf (i : Instr) : Bool :=
  match i with
  | .queueEntryFetch _ errs => errs.all (fun e => e.1 ≤ 256)
  | .fmm _ faults => faults.all ArrayFault.wf
  | .bmm _ faults _ => faults.all ArrayFault.wf
  | .shadowTile _ faults => faults.all ArrayFault.wf
  | .fallbackRecomputation _ faults => faults.all ArrayFault.wf
  | .gradientRerun _ faults => faults.all ArrayFault.wf
  | .registerWrite r _ => r.exists
  | .dramWrite _ _ line => line.length == 64
  | .dramPartialWrite a _ bytes _ _ _ => piece 64 a.toNat bytes
  | .larderAccess _ reqs _ _ => reqs.all LarderReq.wf
  | .larderPartialWrite _ _ a bytes _ _ => piece 32 a.toNat bytes
  | .acbFabricWrite _ a bytes => a.toNat + bytes.length ≤ 0x800000
  | .portTraining _ r => r.sender.length == 9 && r.sender.all (· < 9)
  | .serWindowExpiry _ counts _ => counts.all (fun e => e.1 < 9)
  | .flitReceive _ f _ => f.payload.length == 504
  | .data _ pk _ => pk.wf
  | .cts _ pk _ => pk.wf
  | .e2eAck _ pk => pk.wf
  | .partialSum _ pk _ => pk.wf
  | .result _ pk => pk.wf
  | .abort _ pk => pk.wf
  | .packetForward _ pk _ => pk.wf
  | .tenderStream _ pk => pk.wf
  | .heartbeat m => (match m.body with | .heartbeat .. => true | _ => false)
  | .ready m => (match m.body with | .ready .. => true | _ => false)
  | .commit m => (match m.body with | .commit .. => true | _ => false)
  | .committed m => (match m.body with | .committed => true | _ => false)
  | .start m => (match m.body with | .start => true | _ => false)
  | .abortStepMessage m _ => (match m.body with | .abortStep .. => true | _ => false)
  | .fault m => (match m.body with | .fault .. => true | _ => false)
  | .publish m => (match m.body with | .publish _ => true | _ => false)
  | .staged m => (match m.body with | .staged _ => true | _ => false)
  | .activate m => (match m.body with | .activate _ => true | _ => false)
  | .fencePort m => (match m.body with | .fencePort _ => true | _ => false)
  | .takeoverQuery m _ => (match m.body with | .takeoverQuery => true | _ => false)
  | .takeoverVote m => (match m.body with | .takeoverVote _ => true | _ => false)
  | .triggerMessage m => (match m.body with | .trigger .. => true | _ => false)
  | .hostCmd m => (match m.body with | .hostCmd h bytes => h.kind == 1 && decide (32 ≤ bytes.length) && decide (bytes.length ≤ 128) | _ => false)
  | .hostCpl m => (match m.body with | .hostCpl h _ => [2, 3, 4].contains h.kind.toNat | _ => false)
  | .podForm _ _ inp => decide (inp.ranks.length ≤ 4096)
  | .ownerEnrol _ _ body => body.length == 128
  | .mbxBootDoorbell _ inbound _ => inbound.length == 256
  | .cmdTail _ _ entries _ => entries.all (fun e => e.length == 128)
  | .bar2Read off len => 1 ≤ len && off.toNat + len ≤ 0x1000000000
  | .bar2Write off bytes => !bytes.isEmpty && off.toNat + bytes.length ≤ 0x1000000000
  | .powerOn failing => failing.all (· < 80)
  | .thermalSample temps => temps.length == 32
  | .smbusStuck sda scl _ => sda || scl
  | .cvtPlain _ | .cvtNarrowing _ | .cvtWeightConversion _ | .add _ | .mul _ | .fma _ | .scale _ | .max _ | .min _ | .exp2 _
  | .log2 _ | .recip _ | .rsqrt _ | .rmsnorm _ | .rmsnormBwd _ _ | .softmax _ | .softmaxBwd _ | .xent _ | .silu _ | .siluBwd _
  | .drop _ | .dropBwd _ | .slotAdd _ _ | .slotIdxAdd _ _ | .maxmask _ | .bincount _ | .updMom _ | .updAda _ | .shnPermute _ _
  | .shnPermutePadmat _ _ | .shnGather _ _ | .send _ _ | .recvInto _ | .reduceInto _ _ | .syn _ | .chk _ | .mrk _
  | .checkGroupEvaluation _ | .checkSemaphoreSignal _ | .dripCorrection _ | .adapterAddition _ _ _ _ _ | .engWatchdog _
  | .engCqFlush _ _ | .engFlushed _ | .engSemAdd _ _ | .engStepCtxWrite _ _ | .acbCtrlClear _ _ | .sivPreWinWrite _ _
  | .acbSlotGeomWrite _ _ _ | .dramRead _ _ _ _ _ | .patrolScrub _ _ _ _ | .stackFailover _ _ _ | .cplCtrlRetrain _ _
  | .cplCtrlEnable _ _ | .laneLossOfLock _ _ | .laneSwap _ | .laneRetrain _ _ _ | .alignmentCodeword _ | .flitTransmit _
  | .flitAck _ | .creditReturn _ | .e2eTimeout _ _ | .rduTimeout _ _ | .cplXchStall _ _ | .ctsResend _ _ | .heartbeatSend
  | .heartbeatTimeout _ | .readyWaitExpiry _ | .stepClose | .fallbackStorm | .fencePublishTimeout _ | .messageResend
  | .isolationTimeout | .standbyTimeout | .takeoverVoteWindow | .takeoverRetry | .forwardTimeout _ | .tileReplacement _ _
  | .moduleRefill _ _ | .flashInterval _ | .storeInterval | .livenessWrite | .svcComplexSwitch | .deviceInfo _ _ _
  | .qpCreate _ _ | .qpDestroy _ _ | .getState _ _ | .setConfig _ _ | .podAdmit _ _ _ | .podRemove _ _ | .groupPlan _ _ _
  | .programLoad _ _ _ | .tensorBind _ _ _ | .tensorWrite _ _ _ | .tensorRead _ _ _ | .stateInit _ _ _ | .runStep _ _
  | .abortStep _ _ | .inputConfirm _ _ | .checkpoint _ _ _ | .restore _ _ _ | .storeBlocks _ _ _ | .exportGen _ _ _
  | .exportRelease _ _ | .counterRead _ _ _ | .traceRead _ _ _ | .snapshotRead _ _ _ | .trigger _ _ | .fwUpdate _ _ _ _
  | .fwActivate _ _ | .handover _ | .pwrHandoverReverted | .attest _ _ _ | .certRead _ _ _ | .debugUnlock _ _ _
  | .secDebugClosed | .secDebugClose _ | .extest | .cplHead _ _ | .evtHead _ _ | .msixCoalesceTimeout _ _ | .mbxApertureWrite _
  | .mbxHostAliveWrite _ | .configurationRequest _ _ | .mbxFlr | .d3hotEntry | .mbxHostLost | .pwrFundReset
  | .pwrTileCtrlReset _ _ | .pwrTileReset _ _ | .pwrCapWrite _ | .powerSample _ _ | .pwrInputFail | .pwrInputLow _
  | .inputLowRelease _ | .pwrInputHigh _ | .inputOverVoltage _ | .inputReversed _ | .presentOpen | .pwrPllUnlock _
  | .coolantSample _ | .pwrLeakOff _ | .trigInEdge _ | .snpTrigInStuck | .trigInRelease | .trigOutPulseEnd | .snpTrigOutFault
  | .beacon | .cntCtrlClear _ _ | .cntBaseClear _ _ | .trcCtrlArm _ _ | .smbusRetry _ | .flashChannelFailure _ _ | .msixUnmask _
  | .pcieLinkDown => true

end Sys2Proof
end

