-- ==== Sys2Proof/Tests/Slice0.lean ====
section
/-! SUPPORT. Tests. Three kinds: the well-formedness check refuses an ill-formed command for each of its clauses; single commands on
small states, with results worked out by hand from the rule named; and for every statement of Certificates/Slice0 one witness for
each of its clauses. A witness takes the statement as its argument h and applies it to a concrete state and operands, so that it
type-checks only where every hypothesis of that clause is met there. -/


open Sys2Proof Sys2Proof.Machine

namespace Sys2Proof.Tests

set_option Elab.async false
set_option maxRecDepth 4000
set_option exponentiation.threshold 600

/-! ## Small states -/

/-- The device after reset, and a state of a device with nothing waiting. -/
def dev0 : Dev := State.reset.dev
def st (d : Dev) : State := ⟨[], d⟩

/-- A descriptor of opcode op with the bytes fs, each field as (first byte, value). -/
def desc (op : Nat) (fs : List (Nat × Nat)) : Desc := BitVec.ofNat 512 (fs.foldl (fun n f => n + f.2 * 256 ^ f.1) op)

/-- Writes the little-endian values vs into memory, each as (address, bytes, value). -/
def poke (d : Dev) (vs : List (Nat × Nat × Nat)) : Dev := vs.foldl (fun (d : Dev) (v : Nat × Nat × Nat) => d.write v.1 (leBytes v.2.1 v.2.2)) d

/-- Tile 0 with a table of eight 1 × 8 tensors in W32, records 0–7 at 0x10000 and 256 B apart, in DRAM. -/
def eng0 : Dev :=
  poke (dev0.setFld ENG_TTAB.ENTRIES 8 0) ((List.range 8).map (fun i =>
    (larderAddr 0 (32 * i), 20, (0x10000 + 256 * i) + 7 * 2 ^ 48 + 1 * 2 ^ 64 + 8 * 2 ^ 96 + 4 * 2 ^ 128)))

/-- That tile with these descriptors dispatched, in this order. -/
def queued (d : Dev) (xs : List Desc) : Dev :=
  d.modTile 0 (fun t => { t with issue := (List.range xs.length).zip xs |>.map (fun e => ⟨e.1, e.2, [], d.namedRecs 0 e.2⟩) })

/-- A first command of a device, with the records that it holds for it, and one of eng0. -/
def firstOn (d : Dev) (x : Desc) : Issued := ⟨0, x, [], d.namedRecs 0 x⟩
def first (x : Desc) : Issued := firstOn eng0 x

/-- The device after a command. -/
def after (c : Instr) (d : Dev) : Dev := match exec c (st d) with | .next t => t.dev | _ => d

theorem ok_of_eq {c : Instr} {s t : State} (h : exec c s = .next t) : completes (exec c s) := ⟨t, h⟩
theorem ok_of_ex {c : Instr} {s : State} {P : State → Prop} (h : ∃ t, exec c s = .next t ∧ P t) : completes (exec c s) := h.elim (fun t ht => ⟨t, ht.1⟩)

theorem starts {d : Dev} {p u : Nat} {sel : Desc → Bool} {i : Issued} (h : d.startable p u = some i ∧ sel i.desc = true) : d.Starts p u sel i := h
theorem some_of {α : Type} {o : Option α} (h : o.isSome = true) : o = some (o.get h) := (Option.some_get h).symm

/-! ## The well-formedness check refuses -/

def pk0 : Packet := ⟨0, 0, 0, 0, 0, 0, 0, 0, 0, 0, 0, 0, 0, 0, 0, 0, 0, [], 0⟩
def long : Packet := { pk0 with payload := List.replicate 4097 0 }
def msg (b : MgmtBody) : Mgmt := ⟨0, 0, 0, 0, 0, b⟩
def hdr (k : BitVec 8) : HostHdr := ⟨k, 0, 0, 0, 0⟩
def badFault : ArrayFault := ⟨2 ^ 88, false, 0⟩

theorem test_wf_errors : (Instr.queueEntryFetch 0 [(257, true)]).wf = false := by decide +kernel
theorem test_wf_faults :
    [Instr.fmm 0 [badFault], .bmm 0 [badFault] .clean, .shadowTile 0 [badFault], .fallbackRecomputation 0 [badFault],
      .gradientRerun 0 [badFault]].any Instr.wf = false := by decide +kernel
theorem test_wf_register : (Instr.registerWrite ⟨.FWA_STATUS, 80, 0⟩ 0).wf = false := by decide +kernel
theorem test_wf_dram :
    [Instr.dramWrite 0 .host [1], .dramPartialWrite 0 .host [] .clean [] [],
      .dramPartialWrite 63 .host [1, 2] .clean [] []].any Instr.wf = false := by
  decide +kernel
theorem test_wf_larder :
    [Instr.larderAccess 0 [⟨0, false, 0, some [1]⟩] .clean [], .larderPartialWrite 0 0 31 [1, 2] .clean [],
      .acbFabricWrite 0 0x7FFFFF [1, 2]].any Instr.wf =
      false := by decide +kernel
theorem test_wf_training : [Instr.portTraining 0 ⟨0, 0, [1]⟩, .portTraining 0 ⟨0, 0, [9, 0, 0, 0, 0, 0, 0, 0, 0]⟩].any Instr.wf = false := by
  decide +kernel
theorem test_wf_lanes : (Instr.serWindowExpiry 0 [(9, 0)] 0).wf = false := by decide +kernel
theorem test_wf_flit : (Instr.flitReceive 0 ⟨0, 0, 0, 0, 0, false, false, [], none, 0⟩ .clean).wf = false := by decide +kernel
theorem test_wf_packets :
    [Instr.data 0 long .clean, .cts 0 long .clean, .e2eAck 0 long, .partialSum 0 long .clean, .result 0 long, .abort 0 long,
      .packetForward 0 long .clean,
      .tenderStream 0 long].any Instr.wf = false := by decide +kernel
theorem test_wf_messages :
    [Instr.heartbeat (msg .start), .ready (msg .start), .commit (msg .start), .committed (msg .start), .start (msg .committed),
      .abortStepMessage (msg .start) [], .fault (msg .start), .publish (msg .start), .staged (msg .start), .activate (msg .start),
      .fencePort (msg .start), .takeoverQuery (msg .start) false, .takeoverVote (msg .start), .triggerMessage (msg .start), .hostCmd (msg .start),
      .hostCpl (msg .start)].any Instr.wf = false := by decide +kernel
theorem test_wf_forwarded :
    [Instr.hostCmd (msg (.hostCmd (hdr 2) (List.replicate 32 0))), .hostCmd (msg (.hostCmd (hdr 1) (List.replicate 31 0))),
      .hostCmd (msg (.hostCmd (hdr 1) (List.replicate 129 0))), .hostCpl (msg (.hostCpl (hdr 5) []))].any Instr.wf = false := by decide +kernel
theorem test_wf_lists :
    [Instr.ownerEnrol (.qp 0) 0 [1], .mbxBootDoorbell 1 [1] {}, .cmdTail 0 0 [[1]] true, .podForm (.qp 0) 0 { ranks := List.replicate 4097 (0, {}) },
      .powerOn [80], .thermalSample [1], .smbusStuck false false true].any Instr.wf = false := by decide +kernel
theorem test_wf_aperture :
    [Instr.bar2Read 0 0, .bar2Read 0xFFFFFFFFF 2, .bar2Write 0 [], .bar2Write 0xFFFFFFFFF [1, 2]].any Instr.wf = false := by decide +kernel

/-! ## Single commands, by hand -/

/-- The check value of CRC-32C for the ASCII digits 1–9 is E3069283 (R503's polynomial). -/
theorem test_crc32c : crc32c [0x31, 0x32, 0x33, 0x34, 0x35, 0x36, 0x37, 0x38, 0x39] = 0xE3069283 := by decide +kernel
/-- SHA-256 of "abc" begins BA7816BF. -/
theorem test_sha256 : (sha256 [0x61, 0x62, 0x63]).take 4 = [0xBA, 0x78, 0x16, 0xBF] := by decide +kernel
/-- R270: 65,535 + 2 stays at 65,535 and halts. -/
theorem test_semaphore_saturates :
    let d := after (.engSemAdd 0 0x30002) (dev0.setFld ENG_SEM.COUNT 65535 0 3)
    d.fld ENG_SEM.COUNT 0 3 = 65535 ∧ d.flag ENG_STATUS.HALTED 0 = true := by decide +kernel
/-- R145: SIZE 64 at BASE 192 fits, at BASE 193 it does not. -/
theorem test_preload_window :
    (after (.sivPreWinWrite 0 0x40C0) dev0).fld SIV_PRE_WIN.BASE 0 = 192 ∧ (after (.sivPreWinWrite 0 0x40C1) dev0).fld SIV_PRE_WIN.BASE 0 ≠ 193 := by
  decide +kernel
/-- R9: a bit written 1 clears a W1C field, and PWR_CAP is R560's. -/
theorem test_power_cap :
    (after (.pwrCapWrite 1600) dev0).fld PWR_CAP.CAP_W = 1600 ∧ (after (.pwrCapWrite 1599) dev0).fld PWR_CAP.CAP_W = 0 := by decide +kernel
/-- R283: a partial write leaves the bytes beside it. -/
theorem test_partial_write :
    let d := after (.dramPartialWrite 0x41 .host [7, 8] .clean [] []) (poke dev0 [(0x40, 4, 0x04030201)])
    d.bytes 0x40 4 = [1, 7, 8, 4] := by decide +kernel
/-- R281: the line read is the 64 B unit that holds the address. -/
theorem test_dram_read : (after (.dramRead 0x7F .host .clean [] []) (poke dev0 [(0x40, 1, 9)])).answer.take 2 = [9, 0] := by decide +kernel
/-- R251: 1 + 2 = 3 and 2.5 + −2.5 = 0 in W32. -/
theorem test_add :
    let d := poke eng0 [(0x10000, 4, 0x3F800000), (0x10100, 4, 0x40000000), (0x10004, 4, 0x40200000), (0x10104, 4, 0xC0200000)]
    (after (.add 0) (queued d [desc 0x40 [(16, 1), (17, 0x70), (18, 0x77), (19, 0), (22, 1), (34, 2), (37, 1), (40, 8)]])).bytes 0x10200 8 =
      [0, 0, 0x40, 0x40, 0, 0, 0, 0] := by decide +kernel
/-- R293: line 65 lies in bank 65 mod 64 xor 1 = 0. -/
theorem test_bank : larBank (65 * 128) = 0 := by decide
/-- R278: chunk 17 is the second chunk of stack 1. -/
theorem test_home : homeStack (17 * 2048 + 5) = 1 ∧ localAddr (17 * 2048 + 5) = 2048 + 5 := by decide
/-- R514: the expected value is good, the one before it a repetition, any other a gap. -/
theorem test_alive : aliveJudge (some 7) 7 = (false, false, 8) ∧ aliveJudge (some 7) 6 = (true, false, 7) ∧ aliveJudge (some 7) 9 = (false, true, 10) := by
  decide
/-- R543: 80.1 V is outside the ratings, 80.0 V is not. -/
theorem test_ratings : exec (.inputReversed 801) (st dev0) = .fault .outsideRatings := rfl
theorem test_ratings_inside : (after (.inputReversed 800) dev0).power.reversed = true := by decide +kernel

/-! ## The specification's worked examples -/

/-- "123456789" in ASCII. -/
def digits : List Byte := [0x31, 0x32, 0x33, 0x34, 0x35, 0x36, 0x37, 0x38, 0x39]
/-- R508: the four check values and empty values. -/
theorem test_crc_checks :
    (List.range 4).map (fun c => (cvuCrc (crcOfCode c) digits, cvuCrc (crcOfCode c) [])) =
      [(0xCBF43926, 0), (0xE3069283, 0), (0x6C40DF5F0B497347, 0), (0x29B1, 0xFFFF)] := by decide +kernel
/-- 00, "locating logical engine 37 at reset". -/
theorem test_engine_37 : dev0.tileOf 37 = 46 ∧ tileBase 46 + 0x3000000 = 0x0100BB000000 := by decide +kernel
/-- 02, "the G16 overflow threshold from W32". -/
theorem test_g16_threshold : convert { dst := .G16 } (decW32 0x5F7FC000) = (0x7EFF, { ovf := true }) := by decide +kernel
/-- 02, "stochastic rounding of 2.25 into I8". -/
theorem test_sr : [(0x4020, 0xBFFF), (0x4020, 0xC000), (0xC020, 0xC000)].map (fun e => convert { dst := .I8, rnd := .sr, rand := e.2 } (decG16 e.1)) =
    [(0x02, { inexact := true }), (0x03, { inexact := true }), (0xFD, { inexact := true })] := by decide +kernel
/-- 02, "a Q4 weight at the escape boundary and a U8 activation". -/
theorem test_q4 : [0x40E0, 0x40D0].map (fun c => convert { dst := .Q4, scale := 1 / 2 } (decG16 c)) = [(8, { esc := true }), (7, { inexact := true })] := by
  decide +kernel
theorem test_u8 : [(0x3E00, false), (0xBF00, false), (0xBF00, true)].map (fun e =>
    (convert { dst := .U8, scale := 1 / 128, zp := 127, intWrap := e.2 } (decG16 e.1)).1) = [0xBF, 0x00, 0xFF] := by decide +kernel

/-- 03, "one output with a U8 row, a zero point and a Q2 escape": tensors 0 (X), 1 (W, packed tiles), 2 (Y), and its FMM. -/
def q2Desc : Desc := desc 0x10 [(16, 0), (19, 1), (22, 2), (25, 0xFFFF), (28, 0xFFFF), (31, 1), (34, 1), (37, 4), (40, 1), (42, 0x10), (43, 0x614)]
def q2Dev : Dev :=
  let r := fun (i base fmt flags cols pitch scale drip : Nat) =>
    (larderAddr 0 (32 * i), 32, base + fmt * 2 ^ 48 + flags * 2 ^ 56 + 2 ^ 64 + cols * 2 ^ 96 + pitch * 2 ^ 128 + scale * 2 ^ 160 + drip * 2 ^ 208)
  queued (poke (dev0.setFld ENG_TTAB.ENTRIES 8 0)
    [r 0 0x10000 4 2 4 1 0x11000 0, r 1 0x20000 0x11 4 4 128 0 0x30000, r 2 0x40000 6 0 1 2 0 0, (0x10000, 4, 0x3C8782C8), (0x11000, 2, 0x3900),
      (0x11020, 1, 0x7F), (0x20000, 1, 0x6D), (0x21000, 2, 0x3E00), (0x21100, 4, 1), (0x21300, 2, 1), (0x21320, 2, 1), (0x30000, 4, 0x40400002)]) [q2Desc]
theorem test_fmm_before_drips : (after (.fmm 0 []) q2Dev).nat 0x40000 2 = 0x3980 := by decide +kernel
theorem test_fmm_drips : (after (.dripCorrection 0) (after (.fmm 0 []) q2Dev)).nat 0x40000 2 = 0x3D58 := by decide +kernel

/-- 04, "a one-hot row through the whisk": with D[0] = −1 every u is −1, and its scale and codes follow. -/
def spike : List XR := (hadamard (.fin true 1 :: List.replicate 127 .zero))
theorem test_whisk_sum : spike.all (· == .fin true 1) = true := by decide +kernel
theorem test_whisk_scale : (rowScaling .I8 true (decG16 0x4100) spike).1 = 0x346D := by decide +kernel
theorem test_whisk_code : convert { dst := .I8, scale := (divisor true 0x346D).val } (.fin true 1) = (0x81, { inexact := true }) := by decide +kernel

/-- 05, "one overflowing product beside a NaN", and R49's canonical NaN. -/
theorem test_overflow_beside_nan :
    (edgeSum [[decG16 0x7E00 |>.mul (decG16 0x4200), .one, .one, .one]]).1 = decW32 0x60800000 ∧
    convert { dst := .G16 } (decW32 0x60800000) = (0x7EFF, { ovf := true }) ∧ convert { dst := .G16 } .nan = (0x7F80, { nonfin := true }) := by
  decide +kernel
/-- 05, "cycle table for one dW slice": 12,452 cycles; 04, "a layer that falls back": 6,500,964 cycles. -/
theorem test_bmm_cycles : (bmmCycles (desc 0x20 [(31, 256), (34, 5888), (37, 512), (40, 1), (42, 0x40)]) false 0 0 0 none).busy = 12452 := by decide +kernel
theorem test_fallback_cycles : fallbackCycles (desc 0x10 [(31, 2048), (34, 17664), (37, 5888), (40, 1)]) false = 6500964 := by decide +kernel
/-- 04, the drip-overflow test: 3,072 of 12,058,624 exceed 16 of 65,536. -/
theorem test_drip_share : shareFails 3072 0x10 12058624 = true ∧ shareFails 2944 0x10 12058624 = false := by decide

/-- 06, "choosing U and EM for very small gradients". -/
theorem test_update_constants :
    let k := updConst false ⟨decW32 0x39400000, .zero, .zero, .zero, .zero, 0, 0⟩ ⟨90, -70, 0, 1, .one, .one, 0, 0⟩ .one
    k.u = 0x53 ∧ k.emN = 0x5E ∧ encW32 k.kLr = 0x33C00000 ∧ encW32 (wmul k.kLr (decG16 0x5640)) = 0x3F700000 := by decide +kernel
/-- 06, "the input words of one stochastic-rounding draw", after the first two operations of round 0. -/
theorem test_mix_words :
    let a : BitVec 64 := 7 + 42
    let d : BitVec 64 := (0x0001000000010005 ^^^ a).rotateLeft 29
    a = 0x31 ∧ d = 0x0000200680002000 ∧ 1000 * 65536 + 17 = 0x3E80011 ∧ 1 * 2 ^ 48 + 65541 = 0x0001000000010005 := by decide +kernel
/-- 07, "encoding the FMM of layer 17": the fields read from its words. -/
def layer17 : Desc :=
  BitVec.ofNat 512 (([0x2805000200111D10, 0x0400000000183123, 0x0042000041000040, 0x0000FFFF00FFFF00, 0x0017000045000008, 0x0000000613100001,
    0x0043004A00000000] : List Nat).reverse.foldl (fun n w => n * 2 ^ 64 + w) 0)
theorem test_fmm_header : layer17.opcode = 0x10 ∧ layer17.layer = 17 ∧ layer17.operator = 2 ∧ layer17.mb = 5 ∧ layer17.pass = 0 ∧ layer17.chkSem = 10 ∧
    layer17.seq = 0x123 ∧ layer17.waitASem = 3 ∧ layer17.waitAVal = 6 ∧ layer17.sigSem = 4 ∧ layer17.waitAEn = true ∧ layer17.waitBEn = false ∧
    layer17.sigEn = true ∧ layer17.chkEn = true ∧ layer17.chkLast = true := by decide +kernel
theorem test_fmm_operands : layer17.walk = ⟨0, 2048, 17664, 5888, 1⟩ ∧ [16, 19, 22, 25, 28].map (layer17.f · 3) = [0x40, 0x41, 0x42, 0xFFFF, 0xFFFF] ∧
    layer17.fDrip = true ∧ layer17.fXFmt = 3 ∧ layer17.fWFmt = 1 ∧ layer17.fOut = 6 ∧ layer17.fStat = 0x4A00 ∧ layer17.f 54 3 = 0x43 := by decide +kernel

/-- 08, "where one address lives, before and after a stack failure". -/
theorem test_stack_failure : homeStack 0x000300012A40 = 5 ∧ localAddr 0x000300012A40 = 0x30001240 ∧
    homeStack (cellOf (some 5) 0x000300012A40) = 14 ∧ localAddr (cellOf (some 5) 0x000300012A40) = 0xF03333240 := by decide +kernel
/-- 09, "element address and larder bank in a G16 tensor". -/
theorem test_larder_bank : larBank 0x44A7D0 = 42 ∧ larBank (0x44A7D0 + 8192) = 41 := by decide +kernel
/-- 10, "reducing one dW slice over 16 devices": the chunk. -/
theorem test_chunk : chunkSize 16 1507328 = 94208 := by decide
/-- 13, "submitting RUN_STEP on queue pair 3": the entry's words pass the head's checks, and are what Dammel reads. -/
def runEntry : List Byte :=
  let h := leBytes 8 0x000001022C000030 ++ leBytes 8 0x10 ++ leBytes 12 0
  let b := leBytes 8 0x0004000000001389 ++ leBytes 8 0x3F000000
  padTo 128 (h ++ leBytes 4 (crc32c (h ++ b)) ++ b)
theorem test_run_step_entry : checkHead runEntry 0x2C 96 = (none, 0x2D) ∧ fieldAt runEntry 0 2 = 0x30 ∧ entryTag runEntry = 0x102 ∧
    fieldAt (runEntry.drop 32) 0 6 = 5001 ∧ fieldAt (runEntry.drop 32) 6 2 = 4 ∧ fieldAt (runEntry.drop 32) 8 4 = 0x3F000000 := by decide +kernel
/-- 15, "one packet triple at the receiver": repetitions, skips and the value expected. -/
theorem test_packet_triple : ([0xFE, 0xFF, 0xFF, 0x02, 0x03, 0x04] : List Nat).foldl (fun (s : Nat × Nat × Nat) a =>
    let j := aliveJudge (some s.2.2) a
    (s.1 + (if j.1 then 1 else 0), s.2.1 + (if j.2.1 then 1 else 0), j.2.2)) (0, 0, 0xFE) = (1, 1, 5) := by decide +kernel
/-- 16, "the debug unlock message". -/
theorem test_unlock_message : unlockMsg 0x00003200000104D2 (0x8877665544332211 + 0x0FEDCBA976543210 * 2 ^ 64) 3 30 =
    [0x47, 0x5A, 0x44, 0x42, 0xD2, 0x04, 0x01, 0x00, 0x00, 0x32, 0x00, 0x00, 0x11, 0x22, 0x33, 0x44, 0x55, 0x66, 0x77, 0x88, 0x10, 0x32, 0x54, 0x76,
      0xA9, 0xCB, 0xED, 0x0F, 0x03, 0x00, 0x1E, 0x00] := by decide +kernel
/-- 17, "a cap set during full training": at 3,150 W under a cap of 2,600 W the first sample steps down; 2,480 W leaves step 3. -/
def capped (step w since : Nat) : Dev :=
  { dev0.setFld PWR_CAP.CAP_W 2600 with power := { on := true, capStep := step, since := since, watts := List.replicate 999 w } }
theorem test_cap_steps : (after (.powerSample 3150 538) (capped 0 3150 1000)).power.capStep = 1 ∧
    (after (.powerSample 2480 538) (capped 3 2480 1000)).power.capStep = 3 := by decide +kernel
/-- 18, "trigger-out wired back to trigger-in": the echo. -/
theorem test_trigger_echo : (after (.trigInEdge (some 0)) { dev0 with trig := { dev0.trig with outDriven := true } }).reg ⟨.SVC_MGMT_STATUS, 0, 0⟩ = 0x10000 := by
  decide +kernel

/-- 09, "a halo row materialised inside the ownership box", on 8 columns: two halo rows around four rows at a 128 B pitch. -/
def haloPlan : List Byte :=
  let lev := fun (e ss ds : Nat) => leBytes 4 e ++ leBytes 4 ss ++ leBytes 4 ds
  let box := fun (sh se lo hi : Nat) => leBytes 3 sh ++ leBytes 3 se ++ leBytes 3 lo ++ leBytes 3 hi
  lev 8 2 2 ++ lev 6 128 128 ++ lev 1 0 0 ++ lev 1 0 0 ++ lev 1 0 0 ++ [2, 1, 0, 0] ++ leBytes 4 0 ++ box 0 8 0 8 ++ box 0xFFFFFF 4 0 5 ++
    box 0 1 0 1 ++ box 0 1 0 1 ++ box 0 1 0 1
def haloD : Dev :=
  let d := poke eng0 [(0x10000, 2, 0x1111), (0x10180, 2, 0x4444), (0x10200, 2, 0xFFFF), (0x10480, 2, 0x5555), (larderAddr 0 32, 4, 0x10200)]
  let x := desc 0x50 [(16, 0xA), (18, 0), (21, 1)]
  d.modTile 0 (fun t => { t with issue := [⟨0, x, haloPlan, d.namedRecs 0 x⟩] })
theorem test_halo : let d := after (.shnPermutePadmat 0 .clean) haloD
    d.nat 0x10200 2 = 0 ∧ d.nat 0x10280 2 = 0x1111 ∧ d.nat 0x10400 2 = 0x4444 ∧ d.nat 0x10480 2 = 0x5555 ∧ d.fld SHN_COUNTS.PAD_SKIP 0 = 8 ∧
    d.flag SHN_STATUS.SKIPPED 0 = true := by decide +kernel

/-! ## Witnesses: the queue, reset, invariants, frames, registers -/

/-- A member whose engine 0 has halted in an open step. -/
def haltedS : State := st { dev0.setFld ENG_STATUS.HALTED 1 0 with openStep := some 5 }
theorem witness_StepRunsTheFrontCommand (h : Obligations.StepRunsTheFrontCommand) :
    step (st dev0) = .next (st dev0) ∧ step ⟨[.trigInRelease], dev0⟩ = exec .trigInRelease (st dev0) ∧
    step haltedS = .next (haltedS.put haltedS.dev.ownAbort) := by
  refine ⟨?_, h.1 .trigInRelease [] (st dev0), ?_⟩
  · rw [h.2 _ rfl, show (st dev0).dev.ownError = false by decide +kernel]; rfl
  · rw [h.2 _ rfl, show haltedS.dev.ownError = true by decide +kernel]; rfl
theorem test_own_abort : haltedS.dev.ownAbort.openStep = none := by decide +kernel
theorem witness_StepTakesOneCommand (h : Obligations.StepTakesOneCommand) :
    ∀ t, step ⟨[.trigInRelease, .beacon], dev0⟩ = .next t → t.pending = [.beacon] := fun t => h .trigInRelease _ _ t rfl
theorem witness_StepTakesOneCommand_next : completes (step ⟨[.trigInRelease, .beacon], dev0⟩) := ⟨_, rfl⟩
theorem witness_RegistersHoldTheirResetValues (h : Obligations.RegistersHoldTheirResetValues) : dev0.fld PWR_CAP.CAP_W 0 0 = 0 :=
  h .PWR_CAP PWR_CAP.CAP_W (by decide) 0 0

/-- A step from a state that meets the three invariants, which each of them then speaks of. -/
def one : State := ⟨[.trigInRelease], dev0⟩
def oneNext : State := st (after .trigInRelease dev0)
theorem one_next : step one = .next oneNext := rfl
theorem witness_MemoryStaysCanonical (h : Obligations.MemoryStaysCanonical) : Memory.wf oneNext.dev.mem = true :=
  h one oneNext (by decide +kernel) one_next
theorem witness_EnginesStayOnTheirDies (h : Obligations.EnginesStayOnTheirDies) : oneNext.dev.OnDie :=
  h one oneNext (by unfold Dev.OnDie; decide +kernel) one_next
theorem witness_FusesOnlyBurn (h : Obligations.FusesOnlyBurn) : Fuses.Keeps dev0.fuses oneNext.dev.fuses := h one oneNext one_next
theorem witness_StoresNothingLeavesMemory (h : Obligations.StoresNothingLeavesMemory) :
    ∀ a, Memory.read oneNext.dev.mem a = Memory.read dev0.mem a := h .trigInRelease (st dev0) oneNext rfl (by decide +kernel) rfl

theorem witness_QuietCommandsLeaveRegisters (h : Obligations.QuietCommandsLeaveRegisters) :
    (∀ t, exec (.sivPreWinWrite 1 0) (st dev0) = .next t → t.dev.reg ⟨.SIV_PRE_WIN, 0, 0⟩ = dev0.reg ⟨.SIV_PRE_WIN, 0, 0⟩) ∧
    (∀ t, exec (.acbSlotGeomWrite 0 1 0) (st dev0) = .next t → t.dev.reg ⟨.ACB_SLOT_GEOM, 0, 0⟩ = dev0.reg ⟨.ACB_SLOT_GEOM, 0, 0⟩) ∧
    (∀ t, exec (.acbCtrlClear 1 1) (st dev0) = .next t → t.dev.reg ⟨.ACB_SLOT_STATE, 0, 0⟩ = dev0.reg ⟨.ACB_SLOT_STATE, 0, 0⟩) ∧
    (∀ t, exec (.pwrCapWrite 0) (st dev0) = .next t → t.dev.reg ⟨.MBX_STATUS, 0, 0⟩ = dev0.reg ⟨.MBX_STATUS, 0, 0⟩) ∧
    (∀ t, exec (.mbxApertureWrite 1) (st dev0) = .next t → t.dev.reg ⟨.PWR_CAP, 0, 0⟩ = dev0.reg ⟨.PWR_CAP, 0, 0⟩) ∧
    (∀ t, exec (.mbxHostAliveWrite 1) (st dev0) = .next t → t.dev.reg ⟨.PWR_CAP, 0, 0⟩ = dev0.reg ⟨.PWR_CAP, 0, 0⟩) ∧
    (∀ t, exec .trigInRelease (st dev0) = .next t → t.dev.reg ⟨.PWR_CAP, 0, 0⟩ = dev0.reg ⟨.PWR_CAP, 0, 0⟩) :=
  let w := fun (r : RegId) (hr : r.exists = true) => h (st dev0) r hr
  ⟨(w ⟨.SIV_PRE_WIN, 0, 0⟩ (by decide +kernel)).1 1 0 (Or.inr (by decide)),
   (w ⟨.ACB_SLOT_GEOM, 0, 0⟩ (by decide +kernel)).2.1 0 1 0 (Or.inr (Or.inr (by decide))),
   (w ⟨.ACB_SLOT_STATE, 0, 0⟩ (by decide +kernel)).2.2.1 1 1 (Or.inr (by decide)),
   (w ⟨.MBX_STATUS, 0, 0⟩ (by decide +kernel)).2.2.2.1 0 (by decide),
   (w ⟨.PWR_CAP, 0, 0⟩ (by decide +kernel)).2.2.2.2.1 1 (by decide) (by decide),
   ((w ⟨.PWR_CAP, 0, 0⟩ (by decide +kernel)).2.2.2.2.2.1 1 0 (by decide)).1,
   (w ⟨.PWR_CAP, 0, 0⟩ (by decide +kernel)).2.2.2.2.2.2.1 (by decide)⟩

theorem witness_FieldsStandApart (h : Obligations.FieldsStandApart) : PWR_CAP.CAP_W.reg = .PWR_CAP := ((h .PWR_CAP).2 _ (by decide)).1
theorem witness_FieldsActByAccessCode (h : Obligations.FieldsActByAccessCode) :
    PWR_CAP.CAP_W.get (writeByAccess ⟨.PWR_CAP, 0, 0⟩ true 5 7) = 7 := (h ⟨.PWR_CAP, 0, 0⟩ PWR_CAP.CAP_W true 5 7 (by decide)).1
/-- Tile 0 in an open step. -/
def openS : State := st (dev0.setFld ENG_STEP_CTX.OPEN 1 0)
theorem witness_RegisterWriteActsOnOneRegister (h : Obligations.RegisterWriteActsOnOneRegister) :
    completes (exec (.registerWrite ⟨.SIV_CTRL, 3, 0⟩ 1) (st dev0)) ∧ completes (exec (.registerWrite ⟨.ENG_TTAB, 3, 0⟩ 1) (st dev0)) ∧
    completes (exec (.registerWrite ⟨.ENG_TTAB, 0, 0⟩ 1) openS) :=
  ⟨ok_of_ex ((h ⟨.SIV_CTRL, 3, 0⟩ ⟨.SIV_CTRL, 4, 0⟩ 1 (st dev0) (by decide +kernel) (by decide +kernel)).1 (Or.inl rfl) (by decide +kernel)),
   ok_of_ex ((h ⟨.ENG_TTAB, 3, 0⟩ ⟨.SIV_CTRL, 4, 0⟩ 1 (st dev0) (by decide +kernel) (by decide +kernel)).1
     (Or.inr ⟨by decide, by decide +kernel⟩) (by decide +kernel)),
   ok_of_eq ((h ⟨.ENG_TTAB, 0, 0⟩ ⟨.ENG_TTAB, 0, 0⟩ 1 openS (by decide +kernel) (by decide +kernel)).2 (by decide) (by decide +kernel))⟩

/-! ## Witnesses: the engines -/

/-- A state of tile 0 with one dispatched command, and that tile with its group. -/
def run1 (x : Desc) : State := st (queued eng0 [x])
def syn0 : Desc := desc 0x70 []

/-- An open step, and one entry at HEAD of one SYN. -/
def fetch0 : State :=
  let x := leBytes 60 0x70
  let d := (dev0.setFld ENG_STEP_CTX.OPEN 1 0).setFld ENG_CQ_PTR.TAIL 1 0
  let e := leBytes 28 (0x1000 + 2 ^ 64)
  st ((d.write (queueAddr 0 0) (e ++ leBytes 4 (crc32c e))).write 0x1000 (x ++ leBytes 4 (crc32c x)))
theorem dispatch_plain {gs : List Group} {i : Issued} (h : i.desc.chkEn = false) : dispatchGroup gs i = .ok gs := by unfold dispatchGroup; simp [h]
theorem witness_QueueEntryIsDispatched (h : Obligations.QueueEntryIsDispatched) : completes (exec (.queueEntryFetch 0 []) fetch0) :=
  ok_of_eq (by refine h 0 fetch0 _ ?_ ?_ ?_ ?_ ?_ ?_ ?_ ?_ ?_ ?_ (dispatch_plain ?_) <;> decide +kernel)

def chkS : Desc := desc 0x78 [(17, 0), (26, 64), (30, cvuCrc (crcOfCode 0) (List.replicate 64 0))]
def mrkS : Desc := desc 0x7F [(16, 9), (18, 0x100), (21, 1)]
theorem witness_ControlCommandsComplete (h : Obligations.ControlCommandsComplete) :
    completes (exec (.syn 0) (run1 syn0)) ∧ completes (exec (.chk 0) (run1 chkS)) ∧ completes (exec (.mrk 0) (run1 mrkS)) :=
  ⟨ok_of_eq ((h 0 (run1 syn0) (first syn0)).1 (starts (by decide +kernel))),
   ok_of_eq ((h 0 (run1 chkS) (first chkS)).2.1 _ (starts (by decide +kernel)) (some_of (by decide +kernel)) (by decide +kernel) (by decide +kernel)),
   ok_of_eq ((h 0 (run1 mrkS) (first mrkS)).2.2 (starts (by decide +kernel)) (by decide +kernel))⟩

def dogS : State := st ((dev0.setFld ENG_WD.LIMIT 1 0).setFld ENG_STATUS.IDLE 0 0)
def flushS : State := st (dev0.setFld ENG_STATUS.FLUSHING 1 0)
theorem witness_EngineWritesAct (h : Obligations.EngineWritesAct) :
    completes (exec (.engStepCtxWrite 0 0) openS) ∧ completes (exec (.engStepCtxWrite 0 0x8000000000000000) (st dev0)) ∧ completes (exec (.engWatchdog 0) dogS) ∧
    completes (exec (.engCqFlush 0 1) (st dev0)) ∧ completes (exec (.engFlushed 0) flushS) ∧ completes (exec (.acbCtrlClear 0 1) (st dev0)) :=
  ⟨ok_of_eq ((h 0 openS).1 0 (by decide +kernel) (by decide +kernel)), ok_of_eq ((h 0 (st dev0)).2.1 0x8000000000000000 (by decide +kernel) (by decide +kernel)),
   ok_of_eq ((h 0 dogS).2.2.1 (by decide +kernel) (by decide +kernel)),
   ok_of_eq ((h 0 (st dev0)).2.2.2.1 1 (by decide +kernel) (by decide +kernel)), ok_of_eq ((h 0 flushS).2.2.2.2.1 (by decide +kernel)),
   ok_of_eq ((h 0 (st dev0)).2.2.2.2.2 1 (by decide +kernel) (by decide +kernel))⟩

/-! ### The arrays and the check groups -/

def fmmD : Desc := desc 0x10 [(16, 0), (19, 1), (22, 2), (25, 0xFFFF), (28, 0xFFFF), (31, 1), (34, 8), (37, 8), (40, 1)]
def bmmD : Desc := desc 0x20 [(16, 0), (19, 1), (22, 2), (25, 0xFFFF), (31, 1), (34, 8), (37, 8), (40, 1), (43, 0x777)]
def bmmSlotD : Desc := desc 0x20 [(16, 0), (19, 1), (22, 0xFFFF), (25, 0xFFFF), (31, 1), (34, 8), (37, 8), (40, 1), (42, 0x40), (43, 0x777), (45, 3)]
def chkEnBit : Nat × Nat := (1, 8)
def second (x : Desc) : Issued := { first x with n := 1 }
def cvtD : Desc := desc 0x30 [chkEnBit, (16, 0), (19, 1), (22, 0xFFFF), (25, 1), (28, 8), (31, 1), (32, 0x77)]
def fmmG : Desc := desc 0x10 [chkEnBit, (16, 0), (19, 1), (22, 2), (25, 0xFFFF), (28, 0xFFFF), (31, 1), (34, 8), (37, 8), (40, 1), (54, 0xFFFF)]
/-- A forward group of one FMM whose CVT has run. -/
def grp0 : Group := { fwd := true, layer := 0, mb := 0, sem := 0, closed := true, cvt := some (first cvtD), cmds := [second fmmG], done := [1] }
def inGroup (g : Group) (f : TileSt → TileSt) : State := st (eng0.modTile 0 (fun t => f { t with groups := [g] }))
def pinS : State := inGroup { grp0 with pinned := true, done := [] } (fun t => { t with issue := [second fmmG] })

theorem witness_ForwardProductCompletes (h : Obligations.ForwardProductCompletes) :
    completes (exec (.fmm 0 []) pinS) ∧ completes (exec (.fmm 0 [⟨0, false, 1⟩]) (run1 fmmD)) :=
  ⟨ok_of_eq ((h 0 [] pinS (second fmmG) (starts (by decide +kernel))).1 (by decide +kernel)),
   ok_of_eq (by refine (h 0 [⟨0, false, 1⟩] (run1 fmmD) (first fmmD) (starts ?_)).2 _ _ _ ?_ ?_ (some_of ?_) (some_of ?_) (some_of ?_) ?_ <;> decide +kernel)⟩

theorem witness_BackwardProductCompletes (h : Obligations.BackwardProductCompletes) :
    completes (exec (.bmm 0 [] .clean) (run1 bmmD)) ∧ completes (exec (.bmm 0 [] .clean) (run1 bmmSlotD)) :=
  ⟨ok_of_eq (by refine h 0 [] .clean (run1 bmmD) (first bmmD) (starts ?_) _ _ 0 (some_of ?_) (some_of ?_) ?_ ?_ ?_ ?_ <;> decide +kernel),
   ok_of_eq (by refine h 0 [] .clean (run1 bmmSlotD) (first bmmSlotD) (starts ?_) _ _ 0 (some_of ?_) (some_of ?_) ?_ ?_ ?_ ?_ <;> decide +kernel)⟩

def dripS : State := st (eng0.modTile 0 (fun t => { t with drips := [⟨0, fmmD, [], [], [], (first fmmD).recs⟩] }))
def shadowS : State := inGroup { grp0 with shadow := [(1, 0)] } id
def fbS : State := inGroup grp0 (fun t => { t with fbs := [1] })
def rerunS : State := st (eng0.modTile 0 (fun t => { t with reruns := [⟨0, bmmD, 0, (first bmmD).recs⟩] }))
def evalS : State := inGroup grp0 id
def sigS : State := inGroup { grp0 with evaluated := true } id
def adapterS : State := st (eng0.modTile 0 (fun t => { t with confirmed := [second fmmG] }))
theorem witness_GroupWorkCompletes (h : Obligations.GroupWorkCompletes) :
    completes (exec (.dripCorrection 0) dripS) ∧ completes (exec (.shadowTile 0 []) shadowS) ∧
    completes (exec (.fallbackRecomputation 0 []) fbS) ∧ completes (exec (.gradientRerun 0 []) rerunS) ∧
    completes (exec (.checkGroupEvaluation 0) evalS) ∧ completes (exec (.checkSemaphoreSignal 0) sigS) ∧
    completes (exec (.adapterAddition 0 2 3 0 false) adapterS) :=
  ⟨ok_of_eq ((h 0 dripS).1 ⟨0, fmmD, [], [], [], (first fmmD).recs⟩ [] _ _ _ (by decide +kernel) (some_of (by decide +kernel)) (some_of (by decide +kernel))
     (some_of (by decide +kernel))),
   ok_of_eq (by refine (h 0 shadowS).2.1 [] 1 0 (second fmmG) ((shadowS.dev.tensor 0 0).get ?_) 8 ?_ ?_ ?_ ?_ <;> decide +kernel),
   ok_of_eq (by refine (h 0 fbS).2.2.1 [] 1 [] grp0 (second fmmG) ((fbS.dev.tensor 0 0).get ?_) 8 ?_ ?_ ?_ ?_ ?_ <;> decide +kernel),
   ok_of_eq ((h 0 rerunS).2.2.2.1 [] ⟨0, bmmD, 0, (first bmmD).recs⟩ [] (by decide +kernel) (by decide +kernel) (by decide +kernel)),
   ok_of_eq ((h 0 evalS).2.2.2.2.1 grp0 (by decide +kernel) (by decide +kernel)),
   ok_of_eq ((h 0 sigS).2.2.2.2.2.1 0 { grp0 with evaluated := true } (by decide +kernel) (by decide +kernel)),
   ok_of_eq ((h 0 adapterS).2.2.2.2.2.2 2 3 0 false (second fmmG) _ _ (by decide +kernel) (some_of (by decide +kernel)) (some_of (by decide +kernel)))⟩

def cvtOf (kind : Nat) : Desc := desc 0x30 [(16, 0), (19, 1), (22, 0xFFFF), (25, 1), (28, 8), (31, kind), (32, 0x77)]
theorem witness_ConversionsComplete (h : Obligations.ConversionsComplete) :
    completes (exec (.cvtPlain 0) (run1 (cvtOf 0))) ∧ completes (exec (.cvtNarrowing 0) (run1 (cvtOf 1))) ∧
    completes (exec (.cvtWeightConversion 0) (run1 (cvtOf 2))) :=
  ⟨ok_of_eq ((h 0 (run1 (cvtOf 0)) (first (cvtOf 0)) _ _ (some_of (by decide +kernel)) (some_of (by decide +kernel))).1 (starts (by decide +kernel)) (by decide +kernel)),
   ok_of_eq ((h 0 (run1 (cvtOf 1)) (first (cvtOf 1)) _ _ (some_of (by decide +kernel)) (some_of (by decide +kernel))).2.1 (starts (by decide +kernel)) (by decide +kernel)),
   ok_of_eq ((h 0 (run1 (cvtOf 2)) (first (cvtOf 2)) _ _ (some_of (by decide +kernel)) (some_of (by decide +kernel))).2.2 (starts (by decide +kernel)) (by decide +kernel))⟩

/-! ### The vector unit and the shunter -/

def vecD (op : Nat) : Desc :=
  desc 0x40 [(16, op), (17, 0x70), (18, 0x77), (19, 0), (22, 1), (25, 2), (28, 3), (31, 4), (34, 5), (37, 1), (40, 8)]
theorem vecStarts {d : Dev} {p op : Nat} {i : Issued} (h : d.startable p 3 = some i ∧ isVec op i.desc = true ∧
    (d.leaveQueue p i).readErrors ((d.leaveQueue p i).vecReads p i.desc) = none) : d.VecStarts p op i := h
theorem witness_ElementVecsComplete (h : Obligations.ElementVecsComplete) :
    completes (exec (.add 0) (run1 (vecD 0x01))) ∧ completes (exec (.mul 0) (run1 (vecD 0x02))) ∧ completes (exec (.fma 0) (run1 (vecD 0x03))) ∧
    completes (exec (.scale 0) (run1 (vecD 0x04))) ∧ completes (exec (.max 0) (run1 (vecD 0x05))) ∧ completes (exec (.min 0) (run1 (vecD 0x06))) :=
  ⟨ok_of_eq (h.1 0 _ (first (vecD 0x01)) _ (vecStarts (by decide +kernel)) (some_of (by decide +kernel))),
   ok_of_eq (h.2.1 0 _ (first (vecD 0x02)) _ (vecStarts (by decide +kernel)) (some_of (by decide +kernel))),
   ok_of_eq (h.2.2.1 0 _ (first (vecD 0x03)) _ (vecStarts (by decide +kernel)) (some_of (by decide +kernel))),
   ok_of_eq (h.2.2.2.1 0 _ (first (vecD 0x04)) _ (vecStarts (by decide +kernel)) (some_of (by decide +kernel))),
   ok_of_eq (h.2.2.2.2.1 0 _ (first (vecD 0x05)) _ (vecStarts (by decide +kernel)) (some_of (by decide +kernel))),
   ok_of_eq (h.2.2.2.2.2 0 _ (first (vecD 0x06)) _ (vecStarts (by decide +kernel)) (some_of (by decide +kernel)))⟩
theorem witness_FunctionVecsComplete (h : Obligations.FunctionVecsComplete) :
    completes (exec (.exp2 0) (run1 (vecD 0x08))) ∧ completes (exec (.log2 0) (run1 (vecD 0x09))) ∧ completes (exec (.recip 0) (run1 (vecD 0x0A))) ∧
    completes (exec (.rsqrt 0) (run1 (vecD 0x0B))) ∧ completes (exec (.silu 0) (run1 (vecD 0x1C))) :=
  ⟨ok_of_eq (h.1 0 _ (first (vecD 0x08)) _ (vecStarts (by decide +kernel)) (some_of (by decide +kernel))),
   ok_of_eq (h.2.1 0 _ (first (vecD 0x09)) _ (vecStarts (by decide +kernel)) (some_of (by decide +kernel))),
   ok_of_eq (h.2.2.1 0 _ (first (vecD 0x0A)) _ (vecStarts (by decide +kernel)) (some_of (by decide +kernel))),
   ok_of_eq (h.2.2.2.1 0 _ (first (vecD 0x0B)) _ (vecStarts (by decide +kernel)) (some_of (by decide +kernel))),
   ok_of_eq (h.2.2.2.2 0 _ (first (vecD 0x1C)) _ (vecStarts (by decide +kernel)) (some_of (by decide +kernel)))⟩
/-- Slot 3 is 1 × 8; index list 1 holds zeros. -/
def slotVec (op : Nat) : Desc := desc 0x40 [(16, op), (18, 0x77), (19, 0), (22, 1), (37, 1), (40, 8), (43, 3)]
def slotS (op : Nat) : State := st (queued ((eng0.setFld ACB_SLOT_GEOM.ROWS 1 0 3).setFld ACB_SLOT_GEOM.COLS 8 0 3) [slotVec op])
theorem slot_empty {d : Dev} {p n : Nat} (h : d.fld ACB_SLOT_STATE.STATE p n = 0) : d.slotRead p n .clean = (d, none) := by
  unfold Dev.slotRead; simp [h]
theorem hasOps {d : Dev} {p : Nat} {os : List Nat} (h : ∀ o ∈ os, (d.tensor p o).isSome = true) : d.has p os := h
theorem witness_RowVecsComplete (h : Obligations.RowVecsComplete) :
    completes (exec (.rmsnorm 0) (run1 (vecD 0x10))) ∧ completes (exec (.rmsnormBwd 0 .clean) (slotS 0x11)) ∧
    completes (exec (.softmax 0) (run1 (vecD 0x14))) ∧ completes (exec (.softmaxBwd 0) (run1 (vecD 0x15))) ∧
    completes (exec (.xent 0) (run1 (vecD 0x18))) ∧ completes (exec (.siluBwd 0) (run1 (vecD 0x1D))) ∧
    completes (exec (.drop 0) (run1 (vecD 0x20))) ∧ completes (exec (.dropBwd 0) (run1 (vecD 0x21))) ∧
    completes (exec (.maxmask 0) (run1 (vecD 0x30))) ∧ completes (exec (.bincount 0) (run1 (vecD 0x34))) :=
  ⟨ok_of_eq (h.1 0 _ (first (vecD 0x10)) (vecStarts (by decide +kernel)) (hasOps (by decide +kernel))),
   ok_of_eq (h.2.1 0 (slotS 0x11) (first (slotVec 0x11)) (vecStarts (by decide +kernel)) (by decide +kernel) (slot_empty (by decide +kernel))
     (by decide +kernel)),
   ok_of_eq (h.2.2.1 0 _ (first (vecD 0x14)) (vecStarts (by decide +kernel)) (hasOps (by decide +kernel))),
   ok_of_eq (h.2.2.2.1 0 _ (first (vecD 0x15)) (vecStarts (by decide +kernel)) (hasOps (by decide +kernel))),
   ok_of_eq (h.2.2.2.2.1 0 _ (first (vecD 0x18)) (vecStarts (by decide +kernel)) (hasOps (by decide +kernel))),
   ok_of_eq (h.2.2.2.2.2.1 0 _ (first (vecD 0x1D)) (vecStarts (by decide +kernel)) (hasOps (by decide +kernel))),
   ok_of_eq (h.2.2.2.2.2.2.1 0 _ (first (vecD 0x20)) (vecStarts (by decide +kernel)) (hasOps (by decide +kernel))),
   ok_of_eq (h.2.2.2.2.2.2.2.1 0 _ (first (vecD 0x21)) (vecStarts (by decide +kernel)) (hasOps (by decide +kernel))),
   ok_of_eq (h.2.2.2.2.2.2.2.2.1 0 _ (first (vecD 0x30)) (vecStarts (by decide +kernel)) (hasOps (by decide +kernel))),
   ok_of_eq (h.2.2.2.2.2.2.2.2.2 0 _ (first (vecD 0x34)) (vecStarts (by decide +kernel)) (hasOps (by decide +kernel)))⟩

theorem witness_SlotVecsComplete (h : Obligations.SlotVecsComplete) :
    completes (exec (.slotAdd 0 .clean) (slotS 0x28)) ∧ completes (exec (.slotIdxAdd 0 .clean) (slotS 0x29)) :=
  ⟨ok_of_eq ((h 0 (slotS 0x28) (first (slotVec 0x28)) (by decide +kernel) (slot_empty (by decide +kernel))).1 (vecStarts (by decide +kernel)) (by decide +kernel)),
   ok_of_eq ((h 0 (slotS 0x29) (first (slotVec 0x29)) (by decide +kernel) (slot_empty (by decide +kernel))).2 (vecStarts (by decide +kernel)) (by decide +kernel))⟩

/-- An update whose record, at tensor 5, names its recipe. -/
def updD (op : Nat) : Desc := desc 0x40 [(8, 0), (16, op), (18, 0x67), (19, 0), (22, 1), (25, 2), (28, 3), (31, 4), (34, 5), (37, 1), (40, 8)]
def updE (op : Nat) : Dev :=
  let rec28 := leBytes 28 (2 ^ 24 * (op - 0x40))
  (eng0.write 0x10500 (rec28 ++ leBytes 4 (crc32c rec28))).write (larderAddr 0 20) [BitVec.ofNat 8 (op - 0x40)]
def updS (op : Nat) : State := st (queued (updE op) [updD op])
theorem witness_UpdatesComplete (h : Obligations.UpdatesComplete) :
    completes (exec (.updMom 0) (updS 0x40)) ∧ completes (exec (.updAda 0) (updS 0x41)) :=
  ⟨ok_of_eq (by refine h 0 (updS 0x40) (firstOn (updE 0x40) (updD 0x40)) false (starts ?_) ?_ (hasOps ?_) ?_ ?_ <;> decide +kernel),
   ok_of_eq (by refine h 0 (updS 0x41) (firstOn (updE 0x41) (updD 0x41)) true (starts ?_) ?_ (hasOps ?_) ?_ ?_ <;> decide +kernel)⟩

/-- Four bytes from tensor 0 to tensor 1; the gather takes row 0 of them. -/
def shnD (kind : Nat) : Desc := desc 0x50 [(16, kind), (18, 0), (21, 1), (39, 2), (42, 1)]
def plan0 : List Byte :=
  leBytes 128 (4 + 2 ^ 32 + 2 ^ 64 + ((List.range 4).map (fun i => 2 ^ (96 * (i + 1)))).foldl (· + ·) 0 + 2 ^ 480)
def shnI (kind : Nat) : Issued := { first (shnD kind) with plan := plan0 }
def shnS (kind : Nat) : State := st (eng0.modTile 0 (fun t => { t with issue := [shnI kind] }))
theorem test_plan : (planOf plan0).ext = [4, 1, 1, 1, 1] ∧ (planOf plan0).ndim = 1 := by decide +kernel
theorem witness_ShuntsComplete (h : Obligations.ShuntsComplete) :
    completes (exec (.shnPermute 0 .clean) (shnS 0)) ∧ completes (exec (.shnGather 0 .clean) (shnS 1)) ∧
    completes (exec (.shnPermutePadmat 0 .clean) (shnS 2)) :=
  ⟨ok_of_eq (h 0 .clean (shnS 0) (shnI 0) 0 (starts (by decide +kernel)) (by decide +kernel) (by decide +kernel) (by decide +kernel)),
   ok_of_eq (h 0 .clean (shnS 1) (shnI 1) 1 (starts (by decide +kernel)) (by decide +kernel) (by decide +kernel) (by decide +kernel)),
   ok_of_eq (h 0 .clean (shnS 2) (shnI 2) 2 (starts (by decide +kernel)) (by decide +kernel) (by decide +kernel) (by decide +kernel))⟩

/-! ## Witnesses: memory -/

theorem witness_DramAddressesHaveAHome (h : Obligations.DramAddressesHaveAHome) :
    homeStack 0x7800 = 15 ∧ dev0.region (cellAt 15 (60 * 2 ^ 30 - 1)) = .dram :=
  ⟨((h dev0).1 0x7800 (by decide +kernel)).1, ((h dev0).2 15 (60 * 2 ^ 30 - 1) (by decide) (by decide +kernel)).1⟩
theorem witness_SparePlacesStandApart (h : Obligations.SparePlacesStandApart) :
    cellOf (some 1) 0 = 0 ∧ homeStack (cellOf (some 1) 2048) ≠ 1 :=
  ⟨(h 1 0 1 (by decide) (by decide) (by decide)).1 (by decide), ((h 1 2048 1 (by decide) (by decide) (by decide)).2.1 (by decide)).2.1⟩
theorem witness_LarderBanksHoldEveryLineOnce (h : Obligations.LarderBanksHoldEveryLineOnce) : larBank 0x1FFFFFF < 64 ∧ (0 : Nat) / 128 = 5 / 128 :=
  ⟨(h 0x1FFFFFF (by decide)).2.1, (h 0 (by decide)).2.2 5 (by decide) (by decide) (by decide)⟩
theorem witness_MemoryWritesStoreExactly (h : Obligations.MemoryWritesStoreExactly) :
    completes (exec (.dramWrite 0x40 .host [1]) (st dev0)) ∧ completes (exec (.dramPartialWrite 0x41 .host [1] .clean [] []) (st dev0)) ∧
    completes (exec (.larderPartialWrite 0 0 5 [1] .clean []) (st dev0)) ∧ completes (exec (.acbFabricWrite 0 5 [1]) (st dev0)) :=
  let w := h (st dev0) (by decide +kernel) rfl rfl
  ⟨ok_of_ex (w.1 0x40 .host [1] (by decide +kernel)), ok_of_ex (w.2.1 0x41 .host [1] [] [] (by decide +kernel)), ok_of_ex (w.2.2.1 0 0 5 [1] []),
   ok_of_ex (w.2.2.2 0 5 [1] (by decide +kernel))⟩
def gapS : State := st (dev0.setFld MEM_SCRUB.GAP 1 0)
theorem witness_MemoryAccessesComplete (h : Obligations.MemoryAccessesComplete) :
    completes (exec (.dramRead 0x40 .host .clean [] []) (st dev0)) ∧ completes (exec (.patrolScrub 0 .clean [] []) gapS) ∧
    completes (exec (.larderAccess 0 [⟨0, false, 5, none⟩] .clean []) (st dev0)) :=
  ⟨ok_of_eq ((h (st dev0)).1 0x40 .host [] [] (by decide +kernel) (by decide +kernel)),
   ok_of_eq ((h gapS).2.1 0 [] [] (by decide +kernel) (by decide +kernel) (by decide +kernel)),
   ok_of_ex ((h (st dev0)).2.2 0 5 0 false [] (by decide +kernel))⟩

/-! ## Witnesses: the coupler ports -/

def trained : TrainResult := ⟨0x1FF, 0, [0, 1, 2, 3, 4, 5, 6, 7, 8]⟩
def trainS : State := st (dev0.setFld CPL_CTRL.ENABLE 1 0)
/-- Port 0 up, lanes 0–7 active, lane 8 on standby. -/
def upD : Dev :=
  ((((dev0.setFld CPL_CTRL.ENABLE 1 0).setFld CPL_PORT_STATUS.STATE 2 0).setLanes 0 2).setLane 0 8 3).setFld CPL_LANE_MAP.PHYS 0x76543210 0
def swapS : State := st (upD.setPort 0 { upD.port 0 with swap := some 2, agreed := [⟨2, 0, true⟩] })
def failedS : State := st (upD.setLane 0 2 4)
theorem witness_LanesTrainAndSwap (h : Obligations.LanesTrainAndSwap) :
    completes (exec (.portTraining 0 trained) trainS) ∧ completes (exec (.cplCtrlRetrain 0 3) (st dev0)) ∧ completes (exec (.cplCtrlEnable 0 0) trainS) ∧
    completes (exec (.laneLossOfLock 0 2) (st upD)) ∧ completes (exec (.laneSwap 0) swapS) ∧ completes (exec (.laneRetrain 0 2 true) failedS) :=
  ⟨ok_of_eq ((h 0 trainS).1 trained (by decide +kernel) (by decide +kernel) (by decide +kernel)
     (by unfold trainOrder; rw [List.length_mergeSort]; decide +kernel)),
   ok_of_eq ((h 0 (st dev0)).2.1 3 (by decide +kernel) (by decide +kernel)), ok_of_eq ((h 0 trainS).2.2.1 0 (by decide +kernel) (by decide +kernel)),
   ok_of_eq (by refine (h 0 (st upD)).2.2.2.1 2 ?_ ?_ ?_ ?_ ?_ <;> decide +kernel),
   ok_of_eq ((h 0 swapS).2.2.2.2.1 ⟨2, 0, true⟩ 8 (by decide +kernel) (by decide +kernel)), ok_of_eq ((h 0 failedS).2.2.2.2.2.1 2 (by decide +kernel))⟩
/-- Windows at their limits: SER_MAX symbols and 64 codewords replace no lane, one symbol more replaces that lane, one codeword more the lane
that counts most. -/
theorem witness_SerWindowExpiry (h : Obligations.LanesTrainAndSwap) :
    completes (exec (.serWindowExpiry 0 [(2, upD.fld CPL_CTRL.SER_MAX 0)] 64) (st upD)) ∧
    completes (exec (.serWindowExpiry 0 [(2, upD.fld CPL_CTRL.SER_MAX 0 + 1)] 64) (st upD)) ∧
    completes (exec (.serWindowExpiry 0 [(2, 5), (3, 5)] 65) (st upD)) :=
  let w := (h 0 (st upD)).2.2.2.2.2.2
  ⟨ok_of_eq ((w _ 64).1 (by decide +kernel) (by decide +kernel)), ok_of_eq ((w _ 64).2.1 2 (by decide +kernel) (by decide +kernel)),
   ok_of_eq ((w [(2, 5), (3, 5)] 65).2.2 2 (by decide +kernel) (by decide +kernel) (by decide +kernel) (by decide +kernel))⟩

/-- A good flit in sequence, and one whose FCRC is wrong. -/
def flit0 : Flit := let f : Flit := ⟨0, 0, 0, 0, 0, false, false, List.replicate 504 0, none, 0⟩; { f with fcrc := BitVec.ofNat 32 (crc32c (flitBytes f)) }
def flitX : Flit := { flit0 with fcrc := flit0.fcrc + 1 }
def againS : State := st (upD.setPort 0 { upD.port 0 with again := [flit0], sinceAck := 1, freed := [(0, 5)] })
def alignS : State := st (upD.setPort 0 { upD.port 0 with txBits := 16383 * 5140 })
theorem witness_FlitsMove (h : Obligations.FlitsMove) :
    completes (exec (.alignmentCodeword 0) alignS) ∧ completes (exec (.flitTransmit 0) againS) ∧ completes (exec (.flitTransmit 0) (st upD)) ∧
    completes (exec (.flitAck 0) againS) ∧ completes (exec (.creditReturn 0) againS) ∧ completes (exec (.flitReceive 0 flitX .clean) (st upD)) ∧
    completes (exec (.flitReceive 0 flit0 .uncorrectable) (st upD)) ∧ completes (exec (.flitReceive 0 flit0 .clean) (st upD)) :=
  let u := h 0 (st upD) (by decide +kernel)
  let a := h 0 againS (by decide +kernel)
  ⟨ok_of_eq ((h 0 alignS (by decide +kernel)).1 (by decide +kernel)), ok_of_eq (a.2.1 flit0 [] (by decide +kernel) (by decide +kernel)),
   ok_of_eq (by refine u.2.2.1 ?_ ?_ ?_ ?_ ?_ <;> decide +kernel), ok_of_eq (a.2.2.2.1 (by decide +kernel)),
   ok_of_eq (a.2.2.2.2.1 (by decide +kernel) (by decide +kernel)), ok_of_eq (u.2.2.2.2.2.1 flitX .clean (.inr (by decide +kernel))),
   ok_of_eq (u.2.2.2.2.2.1 flit0 .uncorrectable (.inl (by decide +kernel))),
   ok_of_ex (by refine u.2.2.2.2.2.2 flit0 .clean ?_ ?_ ?_ ?_ ?_ ?_ <;> decide +kernel)⟩

/-! ## Witnesses: exchanges -/

/-- Rank 0 in group 1 of two members, its successor rank 1. -/
def podD : Dev :=
  (((eng0.setFld CPL_GROUP.VALID 1 0 1).setFld CPL_GROUP.SIZE 2 0 1).setFld CPL_GROUP.NEXT 1 0 1).setFld CPL_XCH_CTRL.RETRIES 3 0
def xchD (prim : Nat) : Desc :=
  desc 0x60 [(16, prim), (17, 1), (18, if prim = 2 then 0 else 1), (20, 0), (36, 32), (40, 0x77), (42, 5), (53, if prim = 2 then 1 else 0xFFFF)]
def xchS (prim : Nat) : State := st (queued podD [xchD prim])
def heldS : State := st ((queued podD [xchD 0]).modTile 0 (fun t => { t with cts := [⟨1, 1, 5, 8, 0⟩] }))
theorem xchStarts {d : Dev} {p prim : Nat} {i : Issued} (h : d.startable p 5 = some i ∧ i.desc.opcode = 0x60 ∧ i.desc.xPrim = prim ∧
    (d.leaveQueue p i).xchChk p i.desc = none) : d.XchStarts p prim i := h
theorem witness_ExchangesStart (h : Obligations.ExchangesStart) :
    completes (exec (.send 0 .clean) (xchS 0)) ∧ completes (exec (.send 0 .clean) heldS) ∧ completes (exec (.recvInto 0) (xchS 1)) ∧
    completes (exec (.reduceInto 0 .clean) (xchS 2)) :=
  ⟨ok_of_eq ((h 0 (xchS 0) (firstOn podD (xchD 0))).1 .clean (xchStarts (by decide +kernel)) (by decide +kernel)),
   ok_of_eq ((h 0 heldS (firstOn podD (xchD 0))).2.1 .clean ⟨1, 1, 5, 8, 0⟩ (xchStarts (by decide +kernel)) (by decide +kernel)),
   ok_of_eq ((h 0 (xchS 1) (firstOn podD (xchD 1))).2.2.1 (xchStarts (by decide +kernel))),
   ok_of_eq ((h 0 (xchS 2) (firstOn podD (xchD 2))).2.2.2 .clean (xchStarts (by decide +kernel)) (by unfold Dev.SlotGood; decide +kernel))⟩

/-- A running exchange of tile 0, and a packet of its stream from rank 1. -/
def x0 (prim : Nat) : Xch := { n := 0, desc := xchD prim, prim := prim, total := 8, started := prim == 0, recs := podD.namedRecs 0 (xchD prim) }
def runningS (prim : Nat) : State := st (podD.modTile 0 (fun t => { t with xchs := [x0 prim] }))
def packet (ptype : Nat) (payload : List Byte) : Packet :=
  let pk : Packet := { pk0 with ptype := BitVec.ofNat 4 ptype, src := 1, group := 1, tag := 5, nelem := 8, total := 8, fmts := 0x77, payload := payload }
  { pk with crc := BitVec.ofNat 32 (crc32c pk.body) }
theorem takes {d : Dev} {c : Nat} {pk : Packet} {o : Option Bool} (h : pk.dst.toNat = (d.fetched c pk).rank ∧ crc32c pk.body = pk.crc.toNat ∧
    (d.fetched c pk).flag CPL_GROUP.VALID c pk.group.toNat = true ∧ (d.fetched c pk).fld CPL_GROUP.EPOCH c pk.group.toNat = pk.epoch.toNat)
    (g : o = none ∨ pk.pseq.toNat ∉ ((d.fetched c pk).rxStream pk (o.getD true)).got) : d.Takes c pk o := ⟨h.1, h.2.1, h.2.2.1, h.2.2.2, g⟩
def dataPk : Packet := packet 1 (List.replicate 32 0)
def ctsPk : Packet := packet 2 []
def partialPk : Packet := packet 4 (List.replicate 32 0)
def resultPk : Packet := packet 5 (List.replicate 32 0)
def ackPk : Packet := packet 3 []
def abortPk : Packet := packet 6 []
def otherPk : Packet := { packet 1 [] with dst := 7 }
def tenderPk : Packet := let pk : Packet := { pk0 with ptype := 1, src := 1, tag := 0xFFFF, payload := [1] }; { pk with crc := BitVec.ofNat 32 (crc32c pk.body) }
def ackX : Xch := { x0 0 with unacked := [dataPk] }
/-- A SEND that has not had its CTS. -/
def waitsS : State := st (podD.modTile 0 (fun t => { t with xchs := [{ x0 0 with started := false }] }))
def ackS : State := st (podD.modTile 0 (fun t => { t with xchs := [ackX] }))
def wardS : State :=
  let d := ((podD.setFld CPL_GROUP.VALID 1 0 0).setFld SVC_TENDER_CFG.VALID 1).setFld SVC_TENDER_CFG.WARD 1
  st { d with wardBytes := 64, wardProgram := 64 }
theorem witness_PacketsAreTaken (h : Obligations.PacketsAreTaken) :
    completes (exec (.data 0 dataPk .clean) (runningS 1)) ∧ completes (exec (.tenderStream 0 tenderPk) wardS) ∧
    completes (exec (.cts 0 ctsPk .clean) (st podD)) ∧ completes (exec (.cts 0 ctsPk .clean) waitsS) ∧
    completes (exec (.partialSum 0 partialPk .clean) (runningS 2)) ∧ completes (exec (.result 0 resultPk) (runningS 2)) ∧
    completes (exec (.e2eAck 0 ackPk) ackS) ∧ completes (exec (.abort 0 abortPk) (runningS 1)) ∧
    completes (exec (.packetForward 0 otherPk .clean) (st podD)) :=
  ⟨ok_of_eq (by
     refine (h 0 dataPk .clean (runningS 1)).1 0 (x0 1) (takes ?_ ?_) ?_ ?_ ?_ ?_ ?_ ?_
     case refine_7 => unfold Dev.SlotGood; decide +kernel
     case refine_8 => unfold Dev.Lands; decide +kernel
     all_goals decide +kernel),
   ok_of_eq (by refine (h 0 tenderPk .clean wardS).2.1 (takes ?_ ?_) ?_ ?_ ?_ ?_ ?_ <;> decide +kernel),
   ok_of_eq (((h 0 ctsPk .clean (st podD)).2.2.1 (takes (by decide +kernel) (by decide +kernel))).1 (by decide +kernel) (by decide +kernel)),
   ok_of_eq (((h 0 ctsPk .clean waitsS).2.2.1 (takes (by decide +kernel) (by decide +kernel))).2 0 { x0 0 with started := false } (by decide +kernel) rfl),
   ok_of_eq (by
     refine (h 0 partialPk .clean (runningS 2)).2.2.2.1 0 (x0 2) (takes ?_ ?_) ?_ ?_ ?_ ?_ ?_ ?_
     case refine_6 => unfold Dev.SlotGood; decide +kernel
     case refine_8 => unfold Dev.Lands; decide +kernel
     all_goals decide +kernel),
   ok_of_eq (by
     refine (h 0 resultPk .clean (runningS 2)).2.2.2.2.1 0 (x0 2) (takes ?_ ?_) ?_ ?_ ?_ ?_
     case refine_6 => unfold Dev.Lands; decide +kernel
     all_goals decide +kernel),
   ok_of_eq (by refine (h 0 ackPk .clean ackS).2.2.2.2.2.1 0 ackX (takes ?_ ?_) ?_ ?_ ?_ ?_ ?_ ?_ <;> decide +kernel),
   ok_of_eq ((h 0 abortPk .clean (runningS 1)).2.2.2.2.2.2.1 0 (x0 1) (takes (by decide +kernel) (by decide +kernel)) (by decide +kernel)),
   ok_of_eq ((h 0 otherPk .clean (st podD)).2.2.2.2.2.2.2 (by decide +kernel) (by decide +kernel))⟩

def stallS : State := st (ackS.dev.setFld CPL_XCH_CTRL.STALL 1 0)
def rduX : Xch := { x0 2 with held := [(0, partialPk)] }
def rduS : State := st (podD.modTile 0 (fun t => { t with xchs := [rduX] }))
theorem witness_ExchangeTimersAct (h : Obligations.ExchangeTimersAct) :
    completes (exec (.e2eTimeout 0 0) ackS) ∧ completes (exec (.cplXchStall 0 0) stallS) ∧ completes (exec (.ctsResend 0 0) (runningS 1)) ∧
    completes (exec (.rduTimeout 0 0) rduS) :=
  ⟨ok_of_eq (((h ackS).1 0 0 ackX (by decide +kernel)).1 (by decide +kernel) (by decide +kernel)),
   ok_of_eq (((h stallS).1 0 0 ackX (by decide +kernel)).2.1 (by decide +kernel)),
   ok_of_eq (((h (runningS 1)).1 0 0 (x0 1) (by decide +kernel)).2.2 (by decide +kernel) (by decide +kernel)),
   ok_of_eq ((h rduS).2 0 0 0 rduX (by decide +kernel) (by decide +kernel))⟩
theorem witness_ReductionChunksPartitionTheStream (h : Obligations.ReductionChunksPartitionTheStream) : 128 / chunkSize 2 129 < 2 :=
  ((h 2 129 (by decide)).2.2 128 (by decide)).1
theorem witness_AliveCountersAreJudged (h : Obligations.AliveCountersAreJudged) :
    aliveJudge (some 255) 255 = (false, false, 0) ∧ aliveJudge (some 0) 255 = (true, false, 0) ∧ aliveJudge (some 255) 0 = (false, true, 1) :=
  ⟨(h.2 255 255 (by decide) (by decide)).1 rfl, (h.2 0 255 (by decide) (by decide)).2.1 rfl, (h.2 255 0 (by decide) (by decide)).2.2 (by decide) (by decide)⟩

/-! ## Witnesses: the pod -/

/-- Rank 0, the manager of ranks 0 and 1, with step 5 open; and rank 1 of the same pod. -/
def memberD (role rank : Nat) : Dev :=
  let d := ((((dev0.setFld CPL_GROUP.VALID 1 0 0).setFld SVC_ROLE.STATE 1).setFld SVC_ROLE.ROLE role).setFld SVC_ROLE.RANK rank).setFld MBX_STATE.STATE 1
  { d with ranks := [(0, { deviceId := 1, state := 1 }), (1, { deviceId := 2, state := 1 })], committed := 4, openStep := some 5 }
def mgrS : State := st (memberD 1 0)
def workerD : Dev := memberD 0 1
def workerS : State := st workerD
def toMgr (b : MgmtBody) : Mgmt := ⟨1, 0, 0, 0, 5, b⟩
def toWorker (b : MgmtBody) : Mgmt := ⟨0, 1, 0, 0, 5, b⟩
def armed5 : Armed := ⟨5, 1, 0, .qp 1, 0, false⟩
def armedS : State := st { workerD with openStep := none, pod := { workerD.pod with armed := some armed5 } }
theorem hears {d : Dev} {m : Mgmt} (h : d.state ≠ 2 ∧ d.flag SEC_STATUS.BSCAN = false ∧ d.joins m.body = false ∧ m.dst.toNat = d.rank ∧ d.inPod = true ∧
    m.epoch.toNat = d.podEpoch ∧ d.pod.unheeded ≠ some m.src.toNat ∧ (tget [] d.mgmtSeen m.src.toNat).contains m.pseq.toNat = false) : d.Hears m := h
theorem witness_StepMessagesAreTaken (h : Obligations.StepMessagesAreTaken) :
    completes (exec (.ready (toMgr (.ready 1 0 0 0))) mgrS) ∧ completes (exec (.commit (toWorker (.commit 0 0))) workerS) ∧
    completes (exec (.committed (toMgr .committed)) mgrS) ∧ completes (exec (.start (toWorker .start)) armedS) ∧
    completes (exec (.abortStepMessage (toWorker (.abortStep 0x1101 true)) []) workerS) ∧
    completes (exec (.fault (toMgr (.fault 0xF008 0 0))) mgrS) ∧ completes (exec (.fault (toMgr (.fault 0xA002 0 0))) mgrS) :=
  ⟨ok_of_eq (by refine (h (toMgr (.ready 1 0 0 0)) mgrS (hears ?_)).1 1 0 0 0 rfl ?_ ?_ ?_ ?_ ?_ ?_ <;> decide +kernel),
   ok_of_eq ((h (toWorker (.commit 0 0)) workerS (hears (by decide +kernel))).2.1 0 0 rfl (by decide +kernel) (by decide +kernel) (by decide +kernel)),
   ok_of_eq ((h (toMgr .committed) mgrS (hears (by decide +kernel))).2.2.1 rfl (by decide +kernel)),
   ok_of_eq (by refine (h (toWorker .start) armedS (hears ?_)).2.2.2.1 rfl ?_ ?_ ?_ ?_ ?_ ?_ <;> decide +kernel),
   ok_of_eq ((h (toWorker (.abortStep 0x1101 true)) workerS (hears (by decide +kernel))).2.2.2.2.1 _ _ [] rfl (by decide +kernel) (by decide +kernel)),
   ok_of_eq (((h (toMgr (.fault 0xF008 0 0)) mgrS (hears (by decide +kernel))).2.2.2.2.2 _ _ _ rfl (by decide +kernel)).1 (by decide +kernel)),
   ok_of_eq (by refine ((h (toMgr (.fault 0xA002 0 0)) mgrS (hears ?_)).2.2.2.2.2 _ _ _ rfl ?_).2 ?_ ?_ ?_ <;> decide +kernel)⟩

def change1 : Change := { epoch := 1 }
def stagedS : State := st { workerD with pod := { workerD.pod with staged := some change1 } }
def trigS : State := st (workerD.setFld SNP_TRIG_CFG.EN 64)
/-- A GET_STATE entry with TAG 7, sealed. -/
def entry (op : Nat) (body : List Byte) : List Byte :=
  let h := leBytes 28 (op + 2 ^ 64 * body.length + 7 * 2 ^ 32)
  h ++ leBytes 4 (crc32c (h ++ body)) ++ body
def cmdMsg : Mgmt := toWorker (.hostCmd ⟨1, 1, 0, 7, 0⟩ (entry 4 []))
def evtMsg : Mgmt := toMgr (.hostCpl ⟨3, 0, 1, 0, 0⟩ (leBytes 12 0x1101))
theorem witness_PodMessagesAreTaken (h : Obligations.PodMessagesAreTaken) :
    completes (exec (.heartbeat (toMgr (.heartbeat 0 4 true))) mgrS) ∧ completes (exec (.publish (toWorker (.publish change1))) workerS) ∧
    completes (exec (.staged (toMgr (.staged 1))) mgrS) ∧ completes (exec (.activate (toWorker (.activate 1))) stagedS) ∧
    completes (exec (.fencePort (toWorker (.fencePort 1))) workerS) ∧ completes (exec (.takeoverQuery (toWorker .takeoverQuery) true) workerS) ∧
    completes (exec (.takeoverVote (toMgr (.takeoverVote true))) mgrS) ∧
    completes (exec (.triggerMessage (toWorker (.trigger 0 1 true 0))) trigS) ∧ completes (exec (.hostCmd cmdMsg) workerS) ∧
    completes (exec (.hostCpl evtMsg) mgrS) :=
  ⟨ok_of_eq ((h (toMgr (.heartbeat 0 4 true)) mgrS (hears (by decide +kernel))).1 _ _ _ rfl (by decide +kernel)),
   ok_of_eq ((h (toWorker (.publish change1)) workerS (hears (by decide +kernel))).2.1 _ rfl (by decide +kernel)),
   ok_of_eq ((h (toMgr (.staged 1)) mgrS (hears (by decide +kernel))).2.2.1 _ rfl (by decide +kernel) (by decide +kernel)),
   ok_of_eq ((h (toWorker (.activate 1)) stagedS (hears (by decide +kernel))).2.2.2.1 _ change1 rfl (by decide +kernel) (by decide +kernel)),
   ok_of_eq ((h (toWorker (.fencePort 1)) workerS (hears (by decide +kernel))).2.2.2.2.1 _ rfl),
   ok_of_eq ((h (toWorker .takeoverQuery) workerS (hears (by decide +kernel))).2.2.2.2.2.1 true rfl),
   ok_of_eq ((h (toMgr (.takeoverVote true)) mgrS (hears (by decide +kernel))).2.2.2.2.2.2.1 _ rfl),
   ok_of_eq ((h (toWorker (.trigger 0 1 true 0)) trigS (hears (by decide +kernel))).2.2.2.2.2.2.2.1 _ _ _ _ rfl (by decide +kernel) (by decide +kernel)),
   ok_of_eq ((h cmdMsg workerS (hears (by decide +kernel))).2.2.2.2.2.2.2.2.1 _ _ 1 rfl (by decide +kernel) (by decide +kernel) (by decide +kernel)),
   ok_of_eq ((h evtMsg mgrS (hears (by decide +kernel))).2.2.2.2.2.2.2.2.2 _ _ rfl (by decide +kernel) (by decide +kernel))⟩

def aloneS : State := st { memberD 1 0 with ranks := [(0, { deviceId := 1, state := 1 })] }
def stormS : State := st (((memberD 1 0).setFld SIV_STEP_COUNTS.CHECKED 10 0).setFld SIV_STEP_COUNTS.FELL_BACK 9 0)
def standbyS : State := st ((memberD 2 1))
def votingS : State := st { standbyS.dev with pod := { standbyS.dev.pod with voting := true } }
def fwdS : State := st { memberD 1 0 with pod := { (memberD 1 0).pod with forwarded := [⟨1, 7, 1⟩] } }
def boundaryS : State := st { memberD 1 0 with openStep := none, pod := { (memberD 1 0).pod with committedBy := [(0, 4), (1, 4)] } }
theorem witness_PodTimersAct (h : Obligations.PodTimersAct) :
    completes (exec .stepClose aloneS) ∧ completes (exec .fallbackStorm stormS) ∧ completes (exec .heartbeatSend mgrS) ∧
    completes (exec (.heartbeatTimeout 1) mgrS) ∧ completes (exec (.readyWaitExpiry 1) mgrS) ∧ completes (exec (.fencePublishTimeout 1) mgrS) ∧
    completes (exec .messageResend mgrS) ∧ completes (exec .isolationTimeout workerS) ∧ completes (exec .standbyTimeout standbyS) ∧
    completes (exec .takeoverRetry standbyS) ∧ completes (exec .takeoverVoteWindow votingS) ∧ completes (exec (.forwardTimeout 7) fwdS) ∧
    completes (exec (.flashInterval [4]) boundaryS) ∧ completes (exec .storeInterval (st (boundaryS.dev.setFld SVC_CKPT_CFG.STORE_MIN 1))) :=
  ⟨ok_of_eq (by refine (h aloneS).1 5 ?_ ?_ ?_ ?_ ?_ <;> decide +kernel),
   ok_of_eq ((h stormS).2.1 (by decide +kernel) (by decide +kernel)), ok_of_eq ((h mgrS).2.2.1 (by decide +kernel) (by decide +kernel)),
   ok_of_eq ((h mgrS).2.2.2.1 1 (by decide +kernel) (by decide +kernel) (by decide +kernel) (by decide +kernel)),
   ok_of_eq (by refine (h mgrS).2.2.2.2.1 1 ?_ ?_ ?_ ?_ ?_ ?_ ?_ <;> decide +kernel),
   ok_of_eq ((h mgrS).2.2.2.2.2.1 1), ok_of_eq ((h mgrS).2.2.2.2.2.2.1 (by decide +kernel)),
   ok_of_eq ((h workerS).2.2.2.2.2.2.2.1 (by decide +kernel) (by decide +kernel)),
   ok_of_eq ((h standbyS).2.2.2.2.2.2.2.2.1 (by decide +kernel) (by decide +kernel)).1,
   ok_of_eq ((h standbyS).2.2.2.2.2.2.2.2.1 (by decide +kernel) (by decide +kernel)).2,
   ok_of_eq ((h votingS).2.2.2.2.2.2.2.2.2.1 (by decide +kernel)), ok_of_eq ((h fwdS).2.2.2.2.2.2.2.2.2.2.1 7 (by decide +kernel)),
   ok_of_eq ((h boundaryS).2.2.2.2.2.2.2.2.2.2.2.1 [4] (by decide +kernel) (by decide +kernel) (by decide +kernel)),
   ok_of_eq ((h (st (boundaryS.dev.setFld SVC_CKPT_CFG.STORE_MIN 1))).2.2.2.2.2.2.2.2.2.2.2.2 (by decide +kernel) (by decide +kernel))⟩

def replaceS : State := st { dev0 with pod := { dev0.pod with replace := [0] } }
def dueS : State := st (dev0.withStackDue (some 2))
def refillS : State := st (dev0.setFld SVC_ROLE.STATE 2)
theorem witness_RepairsComplete (h : Obligations.RepairsComplete) :
    completes (exec (.tileReplacement 0 []) replaceS) ∧ completes (exec (.moduleRefill 1 {}) refillS) ∧
    completes (exec (.stackFailover 2 []) (st dev0)) ∧ completes (exec (.stackFailover 2 [] false) dueS) ∧ completes (exec .livenessWrite (st dev0)) ∧ completes (exec .svcComplexSwitch (st dev0)) ∧
    completes (exec (.flashChannelFailure 4 2) (st dev0)) :=
  ⟨ok_of_eq ((h replaceS).1 0 [] 4 (by decide +kernel) (by decide +kernel) (by decide +kernel)),
   ok_of_eq ((h refillS).2.1 1 {} (by decide +kernel)), ok_of_eq ((h (st dev0)).2.2.1 2 true [] (.inl rfl)),
   ok_of_eq ((h dueS).2.2.1 2 false [] (.inr rfl)),
   ok_of_eq (h (st dev0)).2.2.2.1, ok_of_eq ((h (st dev0)).2.2.2.2.1 (by decide +kernel)),
   ok_of_eq ((h (st dev0)).2.2.2.2.2 4 2 (by decide +kernel) (by decide +kernel))⟩

/-! ## Witnesses: the commands of Dammel -/

def qp0 : QP :=
  { logCmd := 4, logCpl := 4, logEvt := 4, cplVec := 2, evtVec := 3, coalCount := 1, coalTime := 0, cmdBase := 0, cplBase := 4096, evtBase := 8192, evtMask := 0 }
/-- The manager at a boundary, device 1, whose fuses, images and keys are given; command 7 of queue pair 0 has started. -/
def hostD : Dev :=
  let d := memberD 1 0
  { d with openStep := none, pod := { d.pod with committedBy := [(0, 4), (1, 4)] }
           fuses := { deviceId := 1, vendorHash := 0, key := 1, keyStby := 1 }, flash := { imageA := [], imageB := [] } }
def withCmd (d : Dev) (op : Nat) (body : List Byte) : Dev := { d with qps := [(0, some { qp0 with started := [entry op body] })] }
def host (op : Nat) (body : List Byte) : State := st (withCmd hostD op body)
/-- The same command forwarded to rank 1 by the host of rank 0. -/
def rankD : Dev := { workerD with openStep := none, fuses := hostD.fuses, flash := hostD.flash }
def forwarded (op : Nat) (body : List Byte) : Dev := { rankD with pod := { rankD.pod with taken := [(0, 1, entry op body)] } }
def fwd : Issuer := .forwarded 0 1
theorem runs {d : Dev} {who : Issuer} {tag : BitVec 32} {op : Nat} {body : List Byte} (e : List Byte)
    (h : d.entry who tag.toNat = some e ∧ fieldAt e 0 2 = op ∧ e.drop 32 = body ∧ d.state ≠ 2 ∧ d.begun who tag.toNat = false ∧
      d.isForwarded who tag.toNat = false ∧ (bitOf (fieldAt e 2 1) 1 && d.isManager && decide (fieldAt e 10 2 ≠ d.rank)) = false ∧
      d.check4 who op e = none ∧ headOk e = true ∧ d.waitsS who op = false) : d.Runs who tag op body := ⟨e, h⟩
theorem canSend {d : Dev} {who : Issuer} {n : Nat} (h : (d.hostOff && byHost who) = false) : d.CanSend who ⟨n, none⟩ n := ⟨Nat.le_refl n, h, rfl⟩
theorem canSendOf {d : Dev} {who : Issuer} {out : DmaOut} {n : Nat}
    (h : n ≤ out.space ∧ (d.hostOff && byHost who) = false ∧ out.failed = none) : d.CanSend who out n := h

def qpBody : List Byte := padTo 36 [1, 4, 4, 4, 2, 3, 1]
def seedBody : List Byte := padTo 32 []
theorem witness_SetupCommandsComplete (h : Obligations.SetupCommandsComplete) :
    completes (exec (.deviceInfo (.qp 0) 7 ⟨(host 1 []).dev.deviceInfo.1.length, none⟩) (host 1 [])) ∧
    completes (exec (.qpCreate (.qp 0) 7) (host 2 qpBody)) ∧ completes (exec (.qpDestroy (.qp 0) 7) (host 3 [0])) ∧
    completes (exec (.getState (.qp 0) 7) (host 4 [])) ∧ completes (exec (.setConfig (.qp 0) 7) (host 5 (padTo 16 (leBytes 9 (1 + 50 * 2 ^ 64))))) :=
  ⟨ok_of_eq ((h (.qp 0) 7 [] (host 1 [])).1 _ (runs (entry 1 []) (by decide +kernel)) (canSend (by decide +kernel))),
   ok_of_eq (by
     refine (h (.qp 0) 7 qpBody (host 2 qpBody)).2.1 (runs (entry 2 qpBody) ?_) ?_ ?_
       (by intro i h1 h3; have : i = 1 ∨ i = 2 ∨ i = 3 := by omega
           rcases this with rfl | rfl | rfl <;> decide +kernel) ?_ ?_ ?_ ?_ ?_ ?_ ?_ ?_ ?_ <;> decide +kernel),
   ok_of_eq ((h (.qp 0) 7 [0] (host 3 [0])).2.2.1 (runs (entry 3 [0]) (by decide +kernel)) (by decide +kernel) (by decide +kernel)),
   ok_of_eq ((h (.qp 0) 7 [] (host 4 [])).2.2.2.1 (runs (entry 4 []) (by decide +kernel))),
   ok_of_eq ((h (.qp 0) 7 (padTo 16 (leBytes 9 (1 + 50 * 2 ^ 64))) (host 5 (padTo 16 (leBytes 9 (1 + 50 * 2 ^ 64))))).2.2.2.2
     (runs (entry 5 (padTo 16 (leBytes 9 (1 + 50 * 2 ^ 64)))) (by decide +kernel)) (by decide +kernel) (by decide +kernel))⟩

/-! Signatures are those of the private scalar 1, whose public key is the generator; `sig` spells one from its number. -/
def gKey : List Byte := keyBytes g256
def sig (v : Nat) : List Byte := beBytes 64 v
def report7 : List Byte := leBytes 16 (0x54415A47 + 1 * 2 ^ 32 + 192 * 2 ^ 48 + 7 * 2 ^ 64) ++ List.replicate 176 0
def admit7 : AdmitIn := { keys := some (BitVec.ofNat 512 (beNat gKey), BitVec.ofNat 512 (beNat gKey)), report := report7 ++ sig 0xb0474baa0938e67d39854b3d6abc6a0e95a5615db1dd4fe31312ceebf1a41e4ce37f5c23f74abf7b33a8c72d20cc84c51f7015b2dd4baf07dc288cc00660c442 }
def lonePod : PodIn := { ranks := [(2, { deviceId := 1, state := 1 }), (3, { deviceId := 9, state := 1 })], manager := 3 }
def spareD : Dev := { hostD with ranks := hostD.ranks ++ [(2, { deviceId := 3, state := 2 })] }
def planBytes : List Byte := leBytes 16 (1 + 1 * 2 ^ 8 + 1 * 2 ^ 32) ++ leBytes 2 1
def formS : State :=
  st (withCmd { dev0 with fuses := hostD.fuses } 0x10 [])
theorem witness_PodCommandsComplete (h : Obligations.PodCommandsComplete) :
    completes (exec (.podForm (.qp 0) 7 lonePod) formS) ∧ completes (exec (.podAdmit (.qp 0) 7 admit7) (host 0x11 (leBytes 8 7))) ∧
    completes (exec (.podRemove (.qp 0) 7) (st (withCmd spareD 0x12 (leBytes 8 0x10002)))) ∧
    completes (exec (.podRemove (.qp 0) 7) (st (withCmd spareD 0x12 (leBytes 8 1)))) ∧
    completes (exec (.groupPlan (.qp 0) 7 ⟨planBytes, none⟩) (host 0x13 [])) :=
  ⟨ok_of_eq ((h (.qp 0) 7 [] formS).1 lonePod (runs (entry 0x10 []) (by decide +kernel)) rfl (by decide +kernel) (by decide +kernel)),
   ok_of_eq (by refine (h (.qp 0) 7 (leBytes 8 7) (host 0x11 (leBytes 8 7))).2.1 admit7 2 (runs (entry 0x11 (leBytes 8 7)) ?_) ?_ ?_ ?_ ?_ ?_ ?_ <;> decide +kernel),
   ok_of_eq (by refine ((h (.qp 0) 7 (leBytes 8 0x10002) (st (withCmd spareD 0x12 (leBytes 8 0x10002)))).2.2.1 (runs (entry 0x12 (leBytes 8 0x10002)) ?_) ?_ ?_ ?_ ?_ ?_).1 ?_ ?_ <;> decide +kernel),
   ok_of_eq (by refine ((h (.qp 0) 7 (leBytes 8 1) (st (withCmd spareD 0x12 (leBytes 8 1)))).2.2.1 (runs (entry 0x12 (leBytes 8 1)) ?_) ?_ ?_ ?_ ?_ ?_).2 ?_ ?_ <;> decide +kernel),
   ok_of_eq (by refine (h (.qp 0) 7 [] (host 0x13 [])).2.2.2 ⟨planBytes, none⟩ [(1, 0, [1])] (runs (entry 0x13 []) ?_) ?_ rfl ?_ ?_ ?_ <;> decide +kernel)⟩

def prog0 : ProgramIn := { image := [(0x1000, [1, 2])], queues := [(0, [[1]])], registers := [(⟨.ENG_TTAB, 0, 0⟩, 1)] }
def bind0 : BindIn := { tables := [(0x1000, [1])], slots := [(0, 0, 0x10001)], regions := [⟨0, 0x800, 0, none, false⟩], wardBytes := 2048, wardProgram := 2048, tenderBase := 0x10000, tenderStride := 0x800 }
def range4 : List Byte := padTo 30 (leBytes 30 (0x1000 * 2 ^ 128 + 4 * 2 ^ 176))
def loadedD (d : Dev) : Dev := { d with pod := { d.pod with loaded := true, bound := true, stateWritten := true } }
def freshD : Dev := loadedD { hostD with committed := 0 }
theorem witness_ProgramAndDataCommandsComplete (h : Obligations.ProgramAndDataCommandsComplete) :
    completes (exec (.programLoad (.qp 0) 7 prog0) (host 0x20 seedBody)) ∧ completes (exec (.tensorBind (.qp 0) 7 bind0) (st (withCmd (loadedD hostD) 0x21 []))) ∧
    completes (exec (.tensorWrite (.qp 0) 7 ⟨[1, 2, 3, 4], none⟩) (host 0x22 range4)) ∧ completes (exec (.tensorRead (.qp 0) 7 ⟨4, none⟩) (host 0x23 range4)) ∧
    completes (exec (.stateInit (.qp 0) 7 {}) (st (withCmd freshD 0x24 []))) :=
  ⟨ok_of_eq ((h (.qp 0) 7 seedBody (host 0x20 seedBody)).1 prog0 (runs (entry 0x20 seedBody) (by decide +kernel)) rfl (by decide +kernel)),
   ok_of_eq (by refine (h (.qp 0) 7 [] (st (withCmd (loadedD hostD) 0x21 []))).2.1 bind0 (runs (entry 0x21 []) ?_) rfl ?_ ?_ ?_ ?_ ?_ ?_ <;> decide +kernel),
   ok_of_eq ((h (.qp 0) 7 range4 (host 0x22 range4)).2.2.1 ⟨[1, 2, 3, 4], none⟩ (runs (entry 0x22 range4) (by decide +kernel)) rfl (by decide +kernel) (by decide +kernel)
     (by decide +kernel)),
   ok_of_eq ((h (.qp 0) 7 range4 (host 0x23 range4)).2.2.2.1 ⟨4, none⟩ (runs (entry 0x23 range4) (by decide +kernel)) (by decide +kernel) (canSend (by decide +kernel))),
   ok_of_eq (by refine (h (.qp 0) 7 [] (st (withCmd freshD 0x24 []))).2.2.2.2 {} (runs (entry 0x24 []) ?_) ?_ ?_ ?_ ?_ ?_ rfl ?_ <;> decide +kernel)⟩

def runBody : List Byte := leBytes 16 (5 + 2 * 2 ^ 48 + 0x3F800000 * 2 ^ 64)
def step5 : List Byte := leBytes 8 5
def armedH : Dev := { hostD with pod := { hostD.pod with armed := some armed5 } }
theorem witness_StepCommandsComplete (h : Obligations.StepCommandsComplete) :
    completes (exec (.runStep (.qp 0) 7) (st (withCmd (loadedD hostD) 0x30 runBody))) ∧ completes (exec (.abortStep (.qp 0) 7) (st (withCmd armedH 0x31 step5))) ∧
    completes (exec (.inputConfirm (.qp 0) 7) (host 0x32 step5)) :=
  ⟨ok_of_eq (by refine (h (.qp 0) 7 runBody (st (withCmd (loadedD hostD) 0x30 runBody))).1 (runs (entry 0x30 runBody) ?_) ?_ ?_ ?_ ?_ ?_ ?_ ?_ ?_ ?_ ?_ ?_ <;> decide +kernel),
   ok_of_eq ((h (.qp 0) 7 step5 (st (withCmd armedH 0x31 step5))).2.1 (runs (entry 0x31 step5) (by decide +kernel)) (by decide +kernel) (by decide +kernel) (by decide +kernel)),
   ok_of_eq ((h (.qp 0) 7 step5 (host 0x32 step5)).2.2 (runs (entry 0x32 step5) (by decide +kernel)) (by decide +kernel))⟩

/-- Generation 1 at step 4: its pod manifest, and the manifest of rank 1's empty state, both signed by device 1. -/
def keys1 : BootFlash := { imageA := [], imageB := [], keys := [⟨1, gKey, gKey⟩] }
def expBody : List Byte := padTo 24 (leBytes 24 (1 * 2 ^ 128))
def podManifest : List Byte := padTo 64 (leBytes 28 (1 * 2 ^ 64 + 4 * 2 ^ 96 + 1 * 2 ^ 160))
def rankHead : List Byte :=
  padTo 192 (leBytes 28 (0x464D5A47 + 1 * 2 ^ 32 + 192 * 2 ^ 48 + 1 * 2 ^ 64 + 4 * 2 ^ 96 + 1 * 2 ^ 144 + 1 * 2 ^ 160) ++ leBytes 16 0 ++ sha256 [] ++
    sha256 [0, 0, 1, 0] ++ leBytes 4 (2 * 2 ^ 16) ++ leBytes 8 0 ++ leBytes 8 67108864)
def rankManifest : List Byte := rankHead ++ sig 0xa8879ae48fa0179b20f04b7a41b8356a8972c4b661b39d1e705c795946eba4de9abbf0c81f2c8dd6b7b3f2764363abb494a8e322c8d8067e090357cd58134d3e
def gen1 : Gen := { num := 1, step := 4, rank := 0, state := [1, 2], manifest := [3], pinned := true }
def genD : Dev := { hostD with flash := keys1, pod := { hostD.pod with gens := [gen1], podManifests := [(1, podManifest ++ sig 0x56ebbe6bd834536dc6a2ee300dc2c2cb90ffa6def70cf699e033266ba7c35f6485754862c23eb8e2b63cfd9c5e87ec182cd08e082b0cc285597b479e73966c3)] } }
def ckptBody : List Byte := leBytes 10 (4 + 1 * 2 ^ 48)
def restBody : List Byte := leBytes 8 1
def pinnedD : Dev := { forwarded 0x40 ckptBody with pod := { (forwarded 0x40 ckptBody).pod with gens := [{ gen1 with rank := 1 }] } }
def restD : Dev := { forwarded 0x41 restBody with
  flash := keys1, pod := { (forwarded 0x41 restBody).pod with gens := [{ gen1 with rank := 1, state := [], manifest := rankManifest }] } }
def blockBody : List Byte := padTo 24 (leBytes 24 (1 * 2 ^ 128 + 0xFFFFFFFF * 2 ^ 160))
theorem witness_GenerationCommandsComplete (h : Obligations.GenerationCommandsComplete) :
    completes (exec (.checkpoint (.qp 0) 7 true) (host 0x40 ckptBody)) ∧ completes (exec (.checkpoint fwd 7 true) (st pinnedD)) ∧
    completes (exec (.checkpoint fwd 7 true) (st (forwarded 0x40 ckptBody))) ∧ completes (exec (.restore (.qp 0) 7 []) (st (withCmd genD 0x41 restBody))) ∧
    completes (exec (.restore fwd 7 []) (st restD)) ∧ completes (exec (.storeBlocks (.qp 0) 7 ⟨List.replicate 256 0, none⟩) (host 0x42 blockBody)) ∧
    completes (exec (.exportGen (.qp 0) 7 ⟨2, none⟩) (st (withCmd genD 0x43 expBody))) ∧ completes (exec (.exportRelease (.qp 0) 7) (st (withCmd genD 0x44 [1, 0, 0, 0]))) :=
  ⟨ok_of_eq (by refine (h 7 ckptBody (host 0x40 ckptBody)).1 0 true (runs (entry 0x40 ckptBody) ?_) ?_ ?_ ?_ ?_ ?_ ?_ <;> decide +kernel),
   ok_of_eq (((h 7 ckptBody (st pinnedD)).2.1 0 1 [] (runs (entry 0x40 ckptBody) (by decide +kernel)) (by decide +kernel) (by decide +kernel)).1 (by decide +kernel) true),
   ok_of_eq (by refine ((h 7 ckptBody (st (forwarded 0x40 ckptBody))).2.1 0 1 [] (runs (entry 0x40 ckptBody) ?_) ?_ ?_).2 ?_ ?_ ?_ ?_ <;> decide +kernel),
   ok_of_eq (by refine (h 7 restBody (st (withCmd genD 0x41 restBody))).2.2.1 0 [] (podManifest ++ sig 0x56ebbe6bd834536dc6a2ee300dc2c2cb90ffa6def70cf699e033266ba7c35f6485754862c23eb8e2b63cfd9c5e87ec182cd08e082b0cc285597b479e73966c3) (runs (entry 0x41 restBody) ?_) ?_ ?_ ?_ ?_ ?_ ?_ <;> decide +kernel),
   ok_of_eq ((h 7 restBody (st restD)).2.2.2.1 0 1 [] rankManifest [] (runs (entry 0x41 restBody) (by decide +kernel)) (by decide +kernel) (by decide +kernel) (by decide +kernel)),
   ok_of_eq ((h 7 blockBody (host 0x42 blockBody)).2.2.2.2.1 (.qp 0) ⟨List.replicate 256 0, none⟩ (runs (entry 0x42 blockBody) (by decide +kernel)) (by decide +kernel) rfl (by decide +kernel)),
   ok_of_eq ((h 7 expBody (st (withCmd genD 0x43 expBody))).2.2.2.2.2.1 (.qp 0) ⟨2, none⟩ [1, 2] (runs (entry 0x43 expBody) (by decide +kernel)) (by decide +kernel)
     (canSend (by decide +kernel))),
   ok_of_eq ((h 7 [1, 0, 0, 0] (st (withCmd genD 0x44 [1, 0, 0, 0]))).2.2.2.2.2.2 (.qp 0) (runs (entry 0x44 [1, 0, 0, 0]) (by decide +kernel)) (by decide +kernel))⟩

def tile0Body : List Byte := padTo 18 (leBytes 18 (0 * 2 ^ 128 + 1 * 2 ^ 136))
def traceBody : List Byte := padTo 18 (leBytes 18 (3 * 2 ^ 136))
def snapBody : List Byte := padTo 17 []
def trigBody : List Byte := padTo 8 [1]
def enS : State := st (withCmd (hostD.setFld SNP_TRIG_CFG.EN 1) 0x53 trigBody)
theorem witness_ObservationCommandsComplete (h : Obligations.ObservationCommandsComplete) :
    completes (exec (.counterRead (.qp 0) 7 ⟨((host 0x50 tile0Body).dev.cntRegions 0 1).length, none⟩) (host 0x50 tile0Body)) ∧
    completes (exec (.traceRead (.qp 0) 7 ⟨96, none⟩) (host 0x51 traceBody)) ∧
    completes (exec (.snapshotRead (.qp 0) 7 ⟨(host 0x52 snapBody).dev.snapImage.length, none⟩) (host 0x52 snapBody)) ∧ completes (exec (.trigger (.qp 0) 7) enS) :=
  ⟨ok_of_eq ((h (.qp 0) 7 tile0Body (host 0x50 tile0Body)).1 ⟨((host 0x50 tile0Body).dev.cntRegions 0 1).length, none⟩ (runs (entry 0x50 tile0Body) (by decide +kernel)) (by decide +kernel)
     (by decide +kernel) (canSend (by decide +kernel))),
   ok_of_eq (by refine (h (.qp 0) 7 traceBody (host 0x51 traceBody)).2.1 ⟨96, none⟩ (runs (entry 0x51 traceBody) ?_) ?_ ?_ ?_ (canSendOf ?_) <;> decide +kernel),
   ok_of_eq ((h (.qp 0) 7 snapBody (host 0x52 snapBody)).2.2.1 _ (runs (entry 0x52 snapBody) (by decide +kernel)) (by decide +kernel) (canSend (by decide +kernel))),
   ok_of_eq (by refine (h (.qp 0) 7 trigBody enS).2.2.2 (runs (entry 0x53 trigBody) ?_) ?_ ?_ ?_ ?_ <;> decide +kernel)⟩

/-- A valid image of one byte, its vendor key and its owner key both the generator. -/
def imgHead : List Byte := leBytes 20 (0x57465A47 + 1 * 2 ^ 32 + 512 * 2 ^ 48 + 1 * 2 ^ 64 + 1 * 2 ^ 128) ++ sha256 [7] ++ gKey
def imgOwned : List Byte := imgHead ++ sig 0x45e6fc820eacf224476face53b3280351acc9c47e4d430d980d238994c75dc4d9d4439222346d13744005d562e9b5914d3070f9f6427c8964e20b110b2afbcbe ++ gKey
def image : List Byte := padTo 512 (imgOwned ++ sig 0x558a9221363b93c989aab31d0a302a7887830ae2358e76820f51b2d4f8a710000934fec279a588e15e6d3756323bd2d1ec17e8e6e7701d0b065266da529a7514) ++ [7]
def gHash : Nat := beNat (sha256 gKey)
def secD : Dev := { hostD with fuses := { deviceId := 1, vendorHash := gHash, key := 1, keyStby := 1 }, flash := { imageA := image, imageB := image } }
def ownedD : Dev := { secD with fuses := { secD.fuses with ownerHash := gHash }, svc := { secD.svc with resident := image, challenge := some (5, 1, 10) } }
def updBody : List Byte := padTo 17 (leBytes 17 (1 * 2 ^ 128))
def nonceBody : List Byte := padTo 48 []
def enrol : List Byte := gKey ++ sig 0xafc4d8cdd28e71d211a8760a84429335d473b7ecb6df85d3d565a4599032efef1e6895253c8e3efc51ad8bf5a649d89f89de86cfdad49b9c7c049bb0ce76cdcf
def askBody : List Byte := padTo 80 [0, 1, 10]
def tellBody : List Byte := padTo 16 [1] ++ sig 0x70eb62640d6125f7bab4d63d6ff4ccb9d5e00a9a22c8897df306dc2b8b28c0ed8fd664be051c384ef6f44e6aab66f9ac3893da151e021cf603f131d7e12fc440
theorem witness_SecurityCommandsComplete (h : Obligations.SecurityCommandsComplete) :
    completes (exec (.fwUpdate (.qp 0) 7 ⟨image, none⟩ true) (st (withCmd secD 0x60 updBody))) ∧
    completes (exec (.fwActivate (.qp 0) 7) (st (withCmd secD 0x61 [1]))) ∧
    completes (exec (.attest (.qp 0) 7 ⟨((host 0x70 nonceBody).dev.attestReport (slice nonceBody 16 32)).length, none⟩) (host 0x70 nonceBody)) ∧
    completes (exec (.certRead (.qp 0) 7 ⟨(Config.certificate (fieldAt snapBody 16 1)).length, none⟩) (host 0x71 snapBody)) ∧
    completes (exec (.ownerEnrol (.qp 0) 7 enrol) (st (withCmd secD 0x72 []))) ∧ completes (exec (.debugUnlock (.qp 0) 7 false) (st (withCmd ownedD 0x73 askBody))) ∧
    completes (exec (.debugUnlock (.qp 0) 7 false) (st (withCmd ownedD 0x73 tellBody))) :=
  ⟨ok_of_eq (by refine (h (.qp 0) 7 updBody (st (withCmd secD 0x60 updBody))).1 ⟨image, none⟩ (runs (entry 0x60 updBody) ?_) ?_ ?_ rfl ?_ ?_ <;> decide +kernel),
   ok_of_eq ((h (.qp 0) 7 [1] (st (withCmd secD 0x61 [1]))).2.1 (runs (entry 0x61 [1]) (by decide +kernel)) (by decide +kernel) (by decide +kernel) (by decide +kernel)),
   ok_of_eq ((h (.qp 0) 7 nonceBody (host 0x70 nonceBody)).2.2.1 _ (runs (entry 0x70 nonceBody) (by decide +kernel)) (canSend (by decide +kernel))),
   ok_of_eq ((h (.qp 0) 7 snapBody (host 0x71 snapBody)).2.2.2.1 _ (runs (entry 0x71 snapBody) (by decide +kernel)) (by decide +kernel) (canSend (by decide +kernel))),
   ok_of_eq (by refine (h (.qp 0) 7 [] (st (withCmd secD 0x72 []))).2.2.2.2.1 enrol (runs (entry 0x72 []) ?_) ?_ ?_ ?_ ?_ ?_ <;> decide +kernel),
   ok_of_eq (by refine (h (.qp 0) 7 askBody (st (withCmd ownedD 0x73 askBody))).2.2.2.2.2.1 (runs (entry 0x73 askBody) ?_) ?_ ?_ ?_ ?_ ?_ ?_ false <;> decide +kernel),
   ok_of_eq (by refine (h (.qp 0) 7 tellBody (st (withCmd ownedD 0x73 tellBody))).2.2.2.2.2.2 5 1 10 (runs (entry 0x73 tellBody) ?_) ?_ ?_ ?_ ?_ ?_ ?_ <;> decide +kernel)⟩


/-! ## Witnesses: security events, the host link, resets, power, observers -/

def actS (s : Nat) : State := st { secD.setFld MBX_STATE.STATE s with svc := { secD.svc with activating := some (true, .qp 0, 7) } }
def debugS : State := st (dev0.setFld SEC_STATUS.DEBUG_OPEN 1)
def closeV : BitVec 64 := BitVec.ofNat 64 (2 ^ SEC_DEBUG.CLOSE.lo)
theorem witness_SecurityEventsAct (h : Obligations.SecurityEventsAct) :
    completes (exec (.handover true) (actS 1)) ∧ completes (exec (.handover true) (actS 2)) ∧ completes (exec (.handover false) (actS 2)) ∧
    completes (exec .pwrHandoverReverted (actS 2)) ∧ completes (exec .secDebugClosed debugS) ∧ completes (exec (.secDebugClose closeV) debugS) ∧
    completes (exec .extest (st dev0)) :=
  ⟨ok_of_eq ((h (actS 1)).1 true (.qp 0) 7 true (by decide +kernel) (by decide +kernel) (by decide +kernel)),
   ok_of_eq ((h (actS 2)).2.1 true (.qp 0) 7 (by decide +kernel) (by decide +kernel)).1,
   ok_of_eq (((h (actS 2)).2.1 true (.qp 0) 7 (by decide +kernel) (by decide +kernel)).2 _ (List.mem_cons_self ..)),
   ok_of_eq (((h (actS 2)).2.1 true (.qp 0) 7 (by decide +kernel) (by decide +kernel)).2 _ (List.mem_cons_of_mem _ (List.mem_cons_self ..))),
   ok_of_eq ((h debugS).2.2.1 closeV (by decide +kernel) (by decide +kernel) _ (List.mem_cons_self ..)),
   ok_of_eq ((h debugS).2.2.1 closeV (by decide +kernel) (by decide +kernel) _ (List.mem_cons_of_mem _ (List.mem_cons_self ..))),
   ok_of_eq (h (st dev0)).2.2.2⟩

def ringD : Dev := { hostD with qps := [(3, some { qp0 with coalTime := 1, evtUnsig := 1, cplUnsig := 1 })], msixPending := [5] }
def ringQ : QP := { qp0 with coalTime := 1, evtUnsig := 1, cplUnsig := 1 }
theorem witness_HostLinkCompletes (h : Obligations.HostLinkCompletes) :
    completes (exec (.cmdTail 3 1 [entry 4 []] true) (st ringD)) ∧ completes (exec (.cplHead 3 0) (st ringD)) ∧ completes (exec (.evtHead 3 0) (st ringD)) ∧
    completes (exec (.msixCoalesceTimeout 3 true) (st ringD)) ∧ completes (exec (.msixCoalesceTimeout 3 false) (st ringD)) ∧
    completes (exec (.msixUnmask 5) (st ringD)) ∧ completes (exec (.mbxBootDoorbell 1 [] {}) (st ringD)) ∧ completes (exec (.mbxApertureWrite 3) (st ringD)) ∧
    completes (exec (.mbxHostAliveWrite 1) (st ringD)) ∧ completes (exec (.bar2Read 0x40 8) (st ringD)) ∧
    completes (exec (.bar2Write 0x40 [1]) (st ringD)) ∧ completes (exec (.configurationRequest 0 none) (st ringD)) :=
  let w := h (st ringD) 3 ringQ
  ⟨ok_of_eq (by refine w.1 1 [entry 4 []] ?_ ?_ ?_ ?_ ?_ <;> decide +kernel),
   ok_of_eq (w.2.1 0 (by decide +kernel) (by decide +kernel) (by decide +kernel)), ok_of_eq (w.2.2.1 0 (by decide +kernel) (by decide +kernel) (by decide +kernel)),
   ok_of_eq ((w.2.2.2.1 (by decide +kernel) (by decide +kernel)).1 (by decide +kernel)), ok_of_eq ((w.2.2.2.1 (by decide +kernel) (by decide +kernel)).2 (by decide +kernel)),
   ok_of_ex (w.2.2.2.2.1 5 (by decide +kernel) (by decide +kernel)),
   ok_of_eq (w.2.2.2.2.2.1 1 [] {} (by decide +kernel) (by decide +kernel) (by decide +kernel)),
   ok_of_ex (w.2.2.2.2.2.2.1 3 (by decide +kernel) (by decide +kernel)), ok_of_eq (w.2.2.2.2.2.2.2.1 1 (by decide +kernel) (by decide +kernel)),
   ok_of_ex (w.2.2.2.2.2.2.2.2.1 0x40 8 (by decide +kernel) (by decide +kernel) rfl rfl),
   ok_of_eq (w.2.2.2.2.2.2.2.2.2.1 0x40 [1] (by decide +kernel) (by decide +kernel)
     (by intro i hi; have : i = 0 := by simp at hi; omega
         subst this; decide +kernel)),
   ok_of_ex (w.2.2.2.2.2.2.2.2.2.2 0 none (by decide +kernel))⟩

def fundS : State := st { secD with svc := { secD.svc with resident := image } }
def resetS : State := st (dev0.modTile 0 (fun t => { t with resetting := true }))
theorem witness_ResetsAct (h : Obligations.ResetsAct) :
    completes (exec .mbxFlr (st dev0)) ∧ completes (exec .mbxHostLost (st { dev0 with svc := { dev0.svc with linkUp := false } })) ∧
    completes (exec .pwrFundReset fundS) ∧ completes (exec (.powerOn [3]) fundS) ∧ completes (exec (.pwrTileCtrlReset 0 1) (st dev0)) ∧
    completes (exec (.pwrTileReset 0 false) resetS) ∧ ∀ t, exec .mbxFlr (st dev0) = .next t → t.dev.committed = 0 :=
  ⟨ok_of_eq (h (st dev0)).1.1, ok_of_eq ((h (st { dev0 with svc := { dev0.svc with linkUp := false } })).2.2.2.1 (by decide +kernel) (by decide +kernel)),
   ok_of_eq ((h fundS).2.2.2.2.1 (by decide +kernel)).1, ok_of_eq ((h fundS).2.2.2.2.2.1 [3] (by decide +kernel) (by decide +kernel)).1,
   ok_of_ex ((h (st dev0)).2.2.2.2.2.2.1 0 1 0 (by decide +kernel) (by decide +kernel)),
   ok_of_eq ((h resetS).2.2.2.2.2.2.2 0 false (by decide +kernel)), fun t e => ((h (st dev0)).1.2.2.2.2.2.2 t e).2⟩

def onS : State := st { dev0 with power := { on := true, rails := true, leakSaid := true } }
def cool0 : Coolant := ⟨300, 400, 12000, 100000⟩
theorem witness_PowerRulesAct (h : Obligations.PowerRulesAct) :
    completes (exec (.pwrCapWrite 1600) (st dev0)) ∧ completes (exec (.pwrCapWrite 3600) (st dev0)) ∧ completes (exec (.pwrCapWrite 0) (st dev0)) ∧
    completes (exec (.thermalSample (List.replicate 32 50)) (st dev0)) ∧ completes (exec .pwrInputFail onS) ∧ completes (exec .presentOpen onS) ∧
    completes (exec (.pwrInputLow 459) (st dev0)) ∧ completes (exec (.inputLowRelease 471) (st dev0)) ∧ completes (exec (.pwrInputHigh 601) (st dev0)) ∧
    completes (exec (.inputOverVoltage 661) (st dev0)) ∧ completes (exec (.inputOverVoltage 800) (st dev0)) ∧ completes (exec (.inputReversed 800) (st dev0)) ∧
    completes (exec (.coolantSample cool0) (st dev0)) ∧ completes (exec (.pwrLeakOff true) onS) :=
  let w := h (st dev0)
  ⟨ok_of_ex (w.1 1600 (by decide +kernel)), ok_of_ex (w.1 3600 (by decide +kernel)), ok_of_ex (w.1 0 (by decide +kernel)),
   ok_of_ex (w.2.2.1 (List.replicate 32 50) (by decide +kernel)), ok_of_eq ((h onS).2.2.2.1 (by decide +kernel) _ (List.mem_cons_self ..)),
   ok_of_eq ((h onS).2.2.2.1 (by decide +kernel) _ (List.mem_cons_of_mem _ (List.mem_cons_self ..))),
   ok_of_eq (w.2.2.2.2.1 459 (by decide +kernel) (by decide +kernel)), ok_of_eq (w.2.2.2.2.2.1 471 (by decide +kernel)),
   ok_of_eq (w.2.2.2.2.2.2.1 601 (by decide +kernel) (by decide +kernel)), ok_of_eq (w.2.2.2.2.2.2.2.1 661 (by decide +kernel) (by decide +kernel)),
   ok_of_eq (w.2.2.2.2.2.2.2.1 800 (by decide +kernel) (by decide +kernel)), ok_of_eq (w.2.2.2.2.2.2.2.2.1 800 (by decide +kernel)),
   ok_of_ex (w.2.2.2.2.2.2.2.2.2.2.1 cool0 (by decide +kernel) (by decide +kernel)),
   ok_of_eq ((h onS).2.2.2.2.2.2.2.2.2.2.2 (by decide +kernel) (by decide +kernel))⟩

def stuckS : State := st (dev0.setFld SVC_MGMT_STATUS.SDA_STUCK 1)
def armV : BitVec 32 := BitVec.ofNat 32 (2 ^ TRC_CTRL.ARM.lo)
theorem witness_ObserversAct (h : Obligations.ObserversAct) :
    completes (exec (.trigInEdge (some 2001)) (st dev0)) ∧ completes (exec .snpTrigInStuck (st dev0)) ∧ completes (exec .snpTrigOutFault (st dev0)) ∧
    completes (exec .beacon (st (dev0.setFld SNP_TRIG_CFG.BEACON_MS 5))) ∧ completes (exec (.cntCtrlClear 0 2) (st dev0)) ∧
    completes (exec (.cntBaseClear 0 1) (st dev0)) ∧ completes (exec (.trcCtrlArm 0 armV) (st dev0)) ∧
    completes (exec (.smbusStuck true false true) (st dev0)) ∧ completes (exec (.smbusRetry true) stuckS) :=
  let w := h (st dev0)
  ⟨ok_of_eq (w.1 (some 2001) (by decide +kernel) (by decide +kernel) (by intro k hk; cases hk; decide)), ok_of_eq (w.2.1 (by decide +kernel)),
   ok_of_eq (w.2.2.2.2.1 (by decide +kernel)), ok_of_eq ((h (st (dev0.setFld SNP_TRIG_CFG.BEACON_MS 5))).2.2.2.2.2.1 (by decide +kernel)),
   ok_of_ex (w.2.2.2.2.2.2.1 0 2 1 (by decide +kernel)), ok_of_eq (w.2.2.2.2.2.2.2.1 0 1 (by decide +kernel)),
   ok_of_ex (w.2.2.2.2.2.2.2.2.1 0 armV (by decide +kernel)), ok_of_eq (w.2.2.2.2.2.2.2.2.2.1 true false (by decide +kernel) (by decide +kernel)),
   ok_of_eq ((h stuckS).2.2.2.2.2.2.2.2.2.2 true (by decide +kernel))⟩

theorem witness_UnselectedRecordsAreNotProduced (h : Obligations.UnselectedRecordsAreNotProduced) :
    let d := dev0.setFld TRC_CTRL.KINDS 0 0
    d.trace 0 1 none 0 [] = (d, []) := h (dev0.setFld TRC_CTRL.KINDS 0 0) 0 1 0 none [] (by decide +kernel) (by decide +kernel) (by decide +kernel)
theorem witness_UnselectedTilesAreNotTraced (h : Obligations.UnselectedRecordsAreNotProduced) :
    let d := dev0.setFld TRC_CTRL.TILES 0 0
    d.trace 0 1 (some 4) 0 [] = (d, []) :=
  h (dev0.setFld TRC_CTRL.TILES 0 0) 0 1 0 (some 4) [] (by decide +kernel) (by decide +kernel) (Or.inr ⟨4, rfl, by decide +kernel⟩)
theorem witness_VectorResultsStayInTheirRows (h : Obligations.VectorResultsStayInTheirRows) :
    ∀ t, exec (.add 0) (run1 (vecD 0x01)) = .next t → Memory.read t.dev.mem 0 = Memory.read (run1 (vecD 0x01)).dev.mem 0 := fun t e =>
  h 0 (run1 (vecD 0x01)) t (first (vecD 0x01)) ((run1 (vecD 0x01)).dev.tensor 0 5 |>.get (by decide +kernel)) (0x01, .add 0) (List.mem_cons_self ..)
    (vecStarts (by decide +kernel)) (by decide +kernel) (by decide +kernel) e 0 (by
      intro r k hr hk
      have hr0 : r = 0 := by
        have : (first (vecD 0x01)).desc.vRows = 1 := by decide +kernel
        omega
      subst hr0
      have : ∀ k, k < 32 → (0 : Nat) ≠ cellOf (run1 (vecD 0x01)).dev.failed (((run1 (vecD 0x01)).dev.tensor 0 5 |>.get (by decide +kernel)).addr 0 0 + k) := by
        decide +kernel
      exact this k (Nat.lt_of_lt_of_eq hk (by decide +kernel)))

end Sys2Proof.Tests
end

/-! ENG_SEM_ADD (R237, R270): what an addition to a semaphore does below and above the greatest count, and what a write of the
register does by it. -/

namespace Sys2Proof

@[simp] theorem ENG_SEM_ADD.get_INC (v : Nat) : ENG_SEM_ADD.INC.get v = v % 65536 := by
  simp [Fld.get, Fld.width, ENG_SEM_ADD.INC]

@[simp] theorem ENG_SEM_ADD.get_SEM (v : Nat) : ENG_SEM_ADD.SEM.get v = v / 65536 % 64 := by
  simp [Fld.get, Fld.width, ENG_SEM_ADD.SEM]

end Sys2Proof

namespace Sys2Proof.Machine

theorem Dev.semAdd_of_fits {d : Dev} {p sem k : Nat} (x : Desc) (h : d.fld ENG_SEM.COUNT p sem + k ≤ 65535) :
    d.semAdd p sem k x = d.setFld ENG_SEM.COUNT (d.fld ENG_SEM.COUNT p sem + k) p sem :=
  if_neg (Nat.not_lt.mpr h)

theorem Dev.semAdd_of_exceeds {d : Dev} {p sem k : Nat} (x : Desc) (h : 65535 < d.fld ENG_SEM.COUNT p sem + k) :
    d.semAdd p sem k x = (d.setFld ENG_SEM.COUNT 65535 p sem).halt p 0x200D x :=
  if_pos h

theorem Dev.writeSemAdd_of_inc_zero {d : Dev} {v : Nat} (p : Nat) (h : v % 65536 = 0) : d.writeSemAdd p v = d := by
  simp [Dev.writeSemAdd, h]

theorem Dev.writeSemAdd_of_inc_ne_zero {d : Dev} {v : Nat} (p : Nat) (h : v % 65536 ≠ 0) :
    d.writeSemAdd p v = ((d.semAdd p (v / 65536 % 64) (v % 65536)).liftHold p).sync p := by
  simp [Dev.writeSemAdd, h]

/-- The command's meaning is the register's write; the queue is left alone. -/
theorem exec_engSemAdd (p : Tile) (v : BitVec 32) (s : State) :
    exec (.engSemAdd p v) s = .next (s.put (s.dev.writeSemAdd p v.toNat)) := rfl

/-- Settles O16: the write does nothing, saturates or adds, as INC is 0 and as the sum exceeds 65,535 or fits. -/
theorem semaphoreAdditionSaturates : Obligations.SemaphoreAdditionSaturates := by
  refine ⟨rfl, rfl, fun p v s => ?_⟩
  intro sem inc c
  rw [exec_engSemAdd]
  by_cases hInc : inc = 0
  · rw [Dev.writeSemAdd_of_inc_zero p hInc, if_pos hInc]
  · rw [Dev.writeSemAdd_of_inc_ne_zero p hInc, if_neg hInc]
    by_cases hSum : 65535 < c
    · rw [Dev.semAdd_of_exceeds 0 hSum, if_pos hSum]
    · rw [Dev.semAdd_of_fits 0 (Nat.not_lt.mp hSum), if_neg hSum]

end Sys2Proof.Machine

/-! DRAM places (R278): a DRAM address and the pair of its home stack and stack-local address determine each other, and DRAM ends
where the stack-local addresses do. -/

namespace Sys2Proof.Machine

theorem homeStack_lt (a : Nat) : homeStack a < 16 := Nat.mod_lt _ (by decide)

@[simp] theorem homeStack_cellAt {x : Nat} (l : Nat) (hx : x < 16) : homeStack (cellAt x l) = x := by
  simp only [homeStack, cellAt]
  omega

@[simp] theorem localAddr_cellAt {x : Nat} (l : Nat) (hx : x < 16) : localAddr (cellAt x l) = l := by
  simp only [localAddr, cellAt]
  omega

@[simp] theorem cellAt_homeStack_localAddr (a : Nat) : cellAt (homeStack a) (localAddr a) = a := by
  simp only [cellAt, homeStack, localAddr]
  omega

/-- The first n chunks of every stack are the first 16 n chunks of DRAM. -/
theorem localAddr_lt_chunks_iff (a n : Nat) : localAddr a < n * 2048 ↔ a < n * 16 * 2048 := by
  simp only [localAddr]
  omega

theorem Dev.region_eq_dram_iff (d : Dev) (a : Nat) : d.region a = .dram ↔ a < d.dramEnd := by
  refine ⟨fun h => Decidable.byContradiction fun hEnd => ?_, fun h => if_pos h⟩
  simp only [Dev.region, if_neg hEnd] at h
  repeat' split at h
  all_goals cases h

theorem Dev.region_eq_dram_iff_localAddr_lt (d : Dev) (a : Nat) :
    d.region a = .dram ↔ localAddr a < (if d.sparing then 60 else 64) * 2 ^ 30 := by
  rw [d.region_eq_dram_iff, Dev.dramEnd]
  cases d.sparing with
  | true => exact (localAddr_lt_chunks_iff a (60 * 2 ^ 19)).symm
  | false => exact (localAddr_lt_chunks_iff a (64 * 2 ^ 19)).symm

/-- Settles O30: an address is in DRAM exactly when its stack-local address is below the limit, and `cellAt` inverts the pair of
`homeStack` and `localAddr`. -/
theorem dramAddressesHaveAHome : Obligations.DramAddressesHaveAHome := by
  intro d limit
  refine ⟨fun a ha => ?_, fun x l hx hl => ?_⟩
  · have hLimit : localAddr a < limit := (d.region_eq_dram_iff_localAddr_lt a).mp ha
    exact ⟨rfl, rfl, homeStack_lt a, hLimit, cellAt_homeStack_localAddr a⟩
  · have hLocal : localAddr (cellAt x l) = l := localAddr_cellAt l hx
    have hDram : d.region (cellAt x l) = .dram :=
      (d.region_eq_dram_iff_localAddr_lt (cellAt x l)).mpr (hLocal.symm ▸ hl)
    exact ⟨hDram, homeStack_cellAt l hx, hLocal⟩

end Sys2Proof.Machine

/-! Selection of trace records (R490): either selection bit that is 0 drops the record before its RSEQ value is taken. -/

namespace Sys2Proof.Machine

theorem Dev.trace_of_kind_unselected {d : Dev} {x kind : Nat} (tile : Option Nat) (src : Nat) (body : List Byte)
    (hKind : bitOf (d.fld TRC_CTRL.KINDS x) (kind - 1) = false) : d.trace x kind tile src body = (d, []) :=
  if_pos (by rw [hKind, Bool.not_false])

theorem Dev.trace_of_tile_unselected {d : Dev} {x t : Nat} (kind src : Nat) (body : List Byte)
    (hTile : bitOf (d.fld TRC_CTRL.TILES x) t = false) : d.trace x kind (some t) src body = (d, []) := by
  cases hKind : bitOf (d.fld TRC_CTRL.KINDS x) (kind - 1) with
  | false => exact Dev.trace_of_kind_unselected (some t) src body hKind
  | true =>
    have hSelected : ¬ (!bitOf (d.fld TRC_CTRL.KINDS x) (kind - 1)) = true := by simp [hKind]
    have hDropped : (!bitOf (d.fld TRC_CTRL.TILES x) t) = true := by rw [hTile, Bool.not_false]
    exact (if_neg hSelected).trans (if_pos hDropped)

/-- Settles O59: the record's KIND is unselected, or it is of a tile and that tile is. -/
theorem unselectedRecordsAreNotProduced : Obligations.UnselectedRecordsAreNotProduced := by
  intro d x kind src tile body _ _ hUnselected
  obtain hKind | ⟨t, rfl, hTile⟩ := hUnselected
  · exact Dev.trace_of_kind_unselected tile src body hKind
  · exact Dev.trace_of_tile_unselected kind src body hTile

end Sys2Proof.Machine

/-! PWR_CAP (R560) and SVC_CKPT_CFG (R434): all fields of both are RW, so a write of either leaves its register alone or gives every
field its part of the value written. -/

namespace Sys2Proof

@[simp] theorem PWR_CAP.get_CAP_W (v : Nat) : PWR_CAP.CAP_W.get v = v % 65536 := by
  simp [Fld.get, Fld.width, PWR_CAP.CAP_W]

@[simp] theorem SVC_CKPT_CFG.get_FLASH_MIN (v : Nat) : SVC_CKPT_CFG.FLASH_MIN.get v = v % 256 := by
  simp [Fld.get, Fld.width, SVC_CKPT_CFG.FLASH_MIN]

@[simp] theorem SVC_CKPT_CFG.get_KEEP (v : Nat) : SVC_CKPT_CFG.KEEP.get v = v / 65536 % 256 := by
  simp [Fld.get, Fld.width, SVC_CKPT_CFG.KEEP]

theorem RegId.exists_pwrCap : RegId.exists ⟨.PWR_CAP, 0, 0⟩ = true := by decide

theorem RegId.exists_ckptCfg : RegId.exists ⟨.SVC_CKPT_CFG, 0, 0⟩ = true := by decide

theorem Fld.apart_comm (f g : Fld) : f.apart g = g.apart f := by
  simp only [Fld.apart, Bool.and_comm, Bool.or_comm]

/-- Puts into fields that share no bit with `g` leave `g` alone. -/
theorem Fld.get_foldl_put_apart (g : Fld) (v : Nat) (l : List Fld) (x : Nat) (h : ∀ f ∈ l, g.apart f = true) :
    g.get (l.foldl (fun x f => f.put x (f.get v)) x) = g.get x := by
  induction l generalizing x with
  | nil => rfl
  | cons f l ih =>
    obtain ⟨hf, hl⟩ := List.forall_mem_cons.mp h
    rw [List.foldl_cons, ih _ hl, Fld.get_put_apart f g _ _ (f.apart_comm g ▸ hf)]

/-- Fields that share no bit and are each given their part of `v` hold it afterwards. -/
theorem Fld.get_foldl_put_mem (g : Fld) (v : Nat) (l : List Fld) (x : Nat) (hl : l.Pairwise (fun f f' => f.apart f' = true)) (hg : g ∈ l) :
    g.get (l.foldl (fun x f => f.put x (f.get v)) x) = g.get v := by
  induction l generalizing x with
  | nil => cases hg
  | cons f l ih =>
    obtain ⟨hf, hl⟩ := List.pairwise_cons.mp hl
    rw [List.foldl_cons]
    obtain rfl | hg := List.mem_cons.mp hg
    · rw [Fld.get_foldl_put_apart g v l _ hf, Fld.get_put, Nat.mod_eq_of_lt (g.get_lt v)]
    · exact ih _ hl hg

end Sys2Proof

namespace Sys2Proof.Machine

theorem writeByAccess_of_all_rw (r : RegId) (booted : Bool) (old v : Nat) (h : ∀ f ∈ r.name.fields, f.acc = .rw) :
    writeByAccess r booted old v = r.name.fields.foldl (fun x f => f.put x (f.get v)) old :=
  List.foldl_rel rfl fun f hf x y hxy => by rw [h f hf, hxy]

@[simp] theorem State.put_fld (s : State) (d : Dev) (f : Fld) (i j : Nat) : (s.put d).dev.fld f i j = d.fld f i j := rfl

theorem Dev.fld_setReg_same (d : Dev) (f : Fld) (i j v : Nat) : (d.setReg ⟨f.reg, i, j⟩ v).fld f i j = f.get v := by
  rw [Dev.fld, Dev.reg_setReg_same]

/-- PWR_CAP is its one field, CAP_W. -/
theorem Dev.reg_pwrCap_mod (d : Dev) : d.reg ⟨.PWR_CAP, 0, 0⟩ % 65536 = d.fld PWR_CAP.CAP_W := (PWR_CAP.get_CAP_W _).symm

theorem writeByAccess_pwrCap (booted : Bool) (old v : Nat) :
    writeByAccess ⟨.PWR_CAP, 0, 0⟩ booted old v = PWR_CAP.CAP_W.put old (PWR_CAP.CAP_W.get v) := rfl

theorem Dev.writePlain_pwrCap (d : Dev) (v : Nat) :
    d.writePlain ⟨.PWR_CAP, 0, 0⟩ v =
      if v % 65536 = 0 ∨ (1600 ≤ v % 65536 ∧ v % 65536 ≤ 3600) then d.setFld PWR_CAP.CAP_W (v % 65536) else d := by
  simp only [Dev.writePlain, RegId.exists_pwrCap, Bool.not_true, Bool.false_eq_true, if_false, writeByAccess_pwrCap, PWR_CAP.get_CAP_W]
  rfl

/-- The write of all 64 bits and the command's write of the low 32 act alike: both hold CAP_W. -/
theorem Dev.writePlain_pwrCap_truncate (d : Dev) (v : BitVec 64) :
    d.writePlain ⟨.PWR_CAP, 0, 0⟩ (v.truncate 32).toNat = d.writePlain ⟨.PWR_CAP, 0, 0⟩ v.toNat := by
  have hCap : (v.truncate 32).toNat % 65536 = v.toNat % 65536 := by
    rw [BitVec.truncate_eq_setWidth, BitVec.toNat_setWidth, Nat.mod_mod_of_dvd _ (by decide)]
  rw [Dev.writePlain_pwrCap, Dev.writePlain_pwrCap, hCap]

theorem Dev.fld_writePlain_pwrCap (d : Dev) (v : Nat) :
    (d.writePlain ⟨.PWR_CAP, 0, 0⟩ v).fld PWR_CAP.CAP_W =
      if v % 65536 = 0 ∨ (1600 ≤ v % 65536 ∧ v % 65536 ≤ 3600) then v % 65536 else d.fld PWR_CAP.CAP_W := by
  rw [Dev.writePlain_pwrCap]
  split
  · exact (Dev.fld_setFld_same d PWR_CAP.CAP_W _ 0 0).trans (Nat.mod_mod v 65536)
  · rfl

theorem Dev.writePlain_ckptCfg (d : Dev) (v : Nat) :
    d.writePlain ⟨.SVC_CKPT_CFG, 0, 0⟩ v =
      if v % 256 < 2 ∨ 60 < v % 256 ∨ v / 65536 % 256 < 2 ∨ 15 < v / 65536 % 256 then d
      else d.setReg ⟨.SVC_CKPT_CFG, 0, 0⟩ (writeByAccess ⟨.SVC_CKPT_CFG, 0, 0⟩ true (d.reg ⟨.SVC_CKPT_CFG, 0, 0⟩) v) := by
  simp only [Dev.writePlain, RegId.exists_ckptCfg, Bool.not_true, Bool.false_eq_true, if_false, SVC_CKPT_CFG.get_FLASH_MIN, SVC_CKPT_CFG.get_KEEP]

theorem get_writeByAccess_ckptCfg {g : Fld} (hg : g ∈ RegName.SVC_CKPT_CFG.fields) (booted : Bool) (old v : Nat) :
    g.get (writeByAccess ⟨.SVC_CKPT_CFG, 0, 0⟩ booted old v) = g.get v := by
  rw [writeByAccess_of_all_rw _ _ _ _ (by decide)]
  exact Fld.get_foldl_put_mem g v _ old (by decide) hg

theorem Dev.fld_writePlain_ckptCfg (d : Dev) (v : Nat) {g : Fld} (hg : g ∈ RegName.SVC_CKPT_CFG.fields) :
    (d.writePlain ⟨.SVC_CKPT_CFG, 0, 0⟩ v).fld g =
      if v % 256 < 2 ∨ 60 < v % 256 ∨ v / 65536 % 256 < 2 ∨ 15 < v / 65536 % 256 then d.fld g else g.get v := by
  have hReg : ∀ f ∈ RegName.SVC_CKPT_CFG.fields, f.reg = .SVC_CKPT_CFG := by decide
  rw [Dev.writePlain_ckptCfg, ← hReg g hg]
  split
  · rfl
  · rw [Dev.fld_setReg_same, hReg g hg, get_writeByAccess_ckptCfg hg]

theorem Dev.writeRegister_pwrCap (d : Dev) (v : Nat) : d.writeRegister ⟨.PWR_CAP, 0, 0⟩ v = d.writePlain ⟨.PWR_CAP, 0, 0⟩ v := by
  simp only [Dev.writeRegister, RegId.exists_pwrCap, Bool.not_true, Bool.false_eq_true, if_false]

theorem Dev.writeRegister_ckptCfg (d : Dev) (v : Nat) :
    d.writeRegister ⟨.SVC_CKPT_CFG, 0, 0⟩ v = d.writePlain ⟨.SVC_CKPT_CFG, 0, 0⟩ v := by
  simp only [Dev.writeRegister, RegId.exists_ckptCfg, Bool.not_true, Bool.false_eq_true, if_false]

theorem exec_registerWrite (r : RegId) (v : BitVec 64) (s : State) :
    exec (.registerWrite r v) s = .next (s.put (s.dev.writeRegister r v.toNat)) := rfl

theorem exec_pwrCapWrite (v : BitVec 32) (s : State) :
    exec (.pwrCapWrite v) s = .next (s.put (s.dev.writePlain ⟨.PWR_CAP, 0, 0⟩ v.toNat)) := rfl

/-- Settles O58: either write of PWR_CAP, and a write of SVC_CKPT_CFG, leaves the fields as `Dev.fld_writePlain_pwrCap` and
`Dev.fld_writePlain_ckptCfg` say; the registers' tables are read off their definitions. -/
theorem configurationWritesOutOfRangeAreIgnored : Obligations.ConfigurationWritesOutOfRangeAreIgnored := by
  refine ⟨rfl, rfl, rfl, rfl, fun _ => rfl, fun s v => ⟨⟨_, exec_registerWrite _ v s, ?_, ?_⟩,
    ⟨_, exec_registerWrite _ v s, fun g hg => ?_⟩⟩⟩
  · rw [exec_pwrCapWrite, Dev.writePlain_pwrCap_truncate, Dev.writeRegister_pwrCap]
  · rw [Dev.reg_pwrCap_mod, Dev.reg_pwrCap_mod, State.put_fld, Dev.writeRegister_pwrCap, Dev.fld_writePlain_pwrCap]
  · rw [State.put_fld, Dev.writeRegister_ckptCfg, Dev.fld_writePlain_ckptCfg s.dev v.toNat hg]

end Sys2Proof.Machine

/-! The queue, and what every command keeps: a command answers a next state whose memory is put into its canonical form, but for an
input voltage outside the ratings (R543), which stops it. Its effect keeps the promises of the fuses and of the map of engines. -/

namespace Sys2Proof

/-- The command names no input voltage outside the ratings of R543. -/
def Instr.InRatings (c : Instr) : Prop := ∀ dv, 800 < dv → c ≠ .inputOverVoltage dv ∧ c ≠ .inputReversed dv

end Sys2Proof

namespace Sys2Proof.Machine

theorem exec_outsideRatings {c : Instr} {dv : Nat} (s : State) (hdv : 800 < dv) (hc : c = .inputOverVoltage dv ∨ c = .inputReversed dv) :
    exec c s = .fault .outsideRatings := by
  obtain rfl | rfl := hc <;> exact if_pos hdv

theorem inRatings_or (c : Instr) : c.InRatings ∨ ∃ dv, 800 < dv ∧ (c = .inputOverVoltage dv ∨ c = .inputReversed dv) := by
  refine Classical.or_iff_not_imp_right.mpr fun h dv hdv => ⟨fun hc => h ⟨dv, hdv, .inl hc⟩, fun hc => h ⟨dv, hdv, .inr hc⟩⟩

theorem inRatings_of_next {c : Instr} {s t : State} (h : exec c s = .next t) : c.InRatings := by
  obtain hc | ⟨dv, hdv, hc⟩ := inRatings_or c
  · exact hc
  · rw [exec_outsideRatings s hdv hc] at h
    cases h

/-- One answer for every command: the next state, and what its effect keeps of the fuses and of the map of engines. Twelve commands
contain an operation that writes one of them (the lemmas `…_follows`); the effects of all others leave both alone. -/
theorem exec_follows {c : Instr} (s : State) (h : c.InRatings) : ∃ d, exec c s = .next (s.put d) ∧ s.dev.Follows d := by
  cases c with
  | inputOverVoltage dv => exact ⟨_, if_neg fun hdv => (h dv hdv).1 rfl, Dev.overVoltage_follows s.dev dv⟩
  | inputReversed dv => exact ⟨_, if_neg fun hdv => (h dv hdv).2 rfl, Dev.inputReversed_follows s.dev⟩
  | powerOn failing => exact ⟨_, rfl, Dev.turnOn_follows ..⟩
  | pwrFundReset => exact ⟨_, rfl, Dev.fundReset_follows ..⟩
  | presentOpen | pwrInputFail => exact ⟨_, rfl, Dev.inputFails_follows ..⟩
  | pwrTileReset p pass => exact ⟨_, rfl, Dev.tileResetDone_follows ..⟩
  | handover ok => exact ⟨_, rfl, Dev.handoverStep_follows ..⟩
  | tileReplacement l copies => exact ⟨_, rfl, Dev.replaceTile_follows ..⟩
  | fwUpdate who tag inp good => exact ⟨_, rfl, Dev.cmdNow_follows _ _ _ _ _ fun b d => Dev.fwUpdate_follows ..⟩
  | ownerEnrol who tag body => exact ⟨_, rfl, Dev.cmdNow_follows _ _ _ _ _ fun b d => Dev.ownerEnrol_follows ..⟩
  | flashInterval failing => exact ⟨_, rfl, (Dev.spareTest_follows s.dev failing).fixed_right (by simp)⟩
  | heartbeat m | ready m | commit m | committed m | start m | abortStepMessage m copies | fault m | publish m | staged m | fencePort m
  | takeoverQuery m silent | takeoverVote m | triggerMessage m | hostCmd m | hostCpl m =>
    exact ⟨_, rfl, Dev.follows_of_fixed (by split <;> simp)⟩
  | activate m =>
    refine ⟨_, rfl, Dev.follows_of_fixed ?_⟩
    split
    · exact Dev.onNew_fixed _ _ _ fun d => by split <;> simp
    · rfl
  | send p rd => exact ⟨_, rfl, Dev.follows_of_fixed (Dev.runXch_fixed _ _ _ _ fun x d => by split <;> simp)⟩
  | msixCoalesceTimeout q evt => exact ⟨_, rfl, Dev.follows_of_fixed (by cases hq : s.dev.qp q <;> simp [hq])⟩
  | programLoad who tag inp => exact ⟨_, rfl, Dev.follows_of_fixed (Dev.cmdNow_fixed _ _ _ _ _ fun b d => by split <;> simp)⟩
  | exportGen who tag out => exact ⟨_, rfl, Dev.follows_of_fixed (Dev.cmdNow_fixed _ _ _ _ _ fun b d => by split <;> simp)⟩
  | storeBlocks who tag inp =>
    exact ⟨_, rfl, Dev.follows_of_fixed (Dev.cmdNow_fixed _ _ _ _ _ fun b d => by cases hk : inp.failed <;> simp)⟩
  | exportRelease who tag => exact ⟨_, rfl, Dev.follows_of_fixed (Dev.cmdNow_fixed _ _ _ _ _ fun b d => by cases who <;> simp)⟩
  | runStep who tag => exact ⟨_, rfl, Dev.follows_of_fixed (Dev.cmd_fixed _ _ _ _ _ fun b d => by dsimp only; split <;> simp)⟩
  | checkpoint who tag good =>
    refine ⟨_, rfl, Dev.follows_of_fixed (Dev.cmd_fixed _ _ _ _ _ fun b d => ?_)⟩
    cases who with
    | qp q => simp
    | forwarded r q =>
      dsimp only
      split
      · simp
      split
      · simp
      have hWritten := Dev.writeGen_fixed d (.forwarded r q) tag.toNat (fieldAt b 6 4) (fieldAt b 0 6) good
      split <;> simpa [*] using hWritten
  | restore who tag foreign =>
    refine ⟨_, rfl, Dev.follows_of_fixed (Dev.cmd_fixed _ _ _ _ _ fun b d => ?_)⟩
    cases who with
    | qp q =>
      dsimp only
      split
      · simp
      split
      · rfl
      split
      · exact Dev.beginRestore_fixed _ _ _ _ _ ‹_›
      · simp
    | forwarded r q =>
      dsimp only
      split
      · simp
      split
      · simp
      split <;> simp
  | _ => exact ⟨_, rfl, Dev.follows_of_fixed (by simp)⟩

theorem exec_put_of_next {c : Instr} {s t : State} (h : exec c s = .next t) : ∃ d, t = s.put d ∧ s.dev.Follows d := by
  obtain ⟨d, hd, hf⟩ := exec_follows s (inRatings_of_next h)
  exact ⟨d, Host.Outcome.next.inj (h.symm.trans hd), hf⟩

/-- What one step leaves: nothing new on an idle device, or the put of an effect that keeps the promises. -/
theorem step_put_of_next {s t : State} (h : step s = .next t) : t = s ∨ ∃ d, t.dev = (s.put d).dev ∧ s.dev.Follows d := by
  unfold step at h
  split at h
  · split at h
    · cases h
      exact .inr ⟨_, rfl, Dev.follows_of_fixed (by simp)⟩
    · cases h
      exact .inl rfl
  · obtain ⟨d, rfl, hf⟩ := exec_put_of_next h
    exact .inr ⟨d, rfl, hf⟩

theorem step_follows {s t : State} (h : step s = .next t) : s.dev.Follows t.dev := by
  obtain rfl | ⟨d, hd, hf⟩ := step_put_of_next h
  · exact .refl _
  · rw [hd]
    exact hf.fixed_right rfl

theorem State.put_mem_wf (s : State) (d : Dev) : Memory.wf (s.put d).dev.mem = true := Memory.canon_wf d.mem

/-- Settles O1: `step` by its definition. -/
theorem stepRunsTheFrontCommand : Obligations.StepRunsTheFrontCommand := by
  refine ⟨fun c rest s => rfl, fun s hs => ?_⟩
  unfold step
  rw [hs]
  cases s.dev.ownError <;> rfl

/-- Settles O2: a command's answer is a put, which leaves the queue alone. -/
theorem stepTakesOneCommand : Obligations.StepTakesOneCommand := by
  intro c rest s t hs h
  unfold step at h
  rw [hs] at h
  obtain ⟨d, rfl, _⟩ := exec_put_of_next h
  rfl

/-- Settles O3: the two commands of an input voltage stop above 80 V, and nothing else does. -/
theorem onlyVoltagesOutsideTheRatingsStop : Obligations.OnlyVoltagesOutsideTheRatingsStop := by
  intro c s
  obtain hc | ⟨dv, hdv, hc⟩ := inRatings_or c
  · obtain ⟨d, hd, _⟩ := exec_follows s hc
    exact .inl ⟨_, hd⟩
  · exact .inr ⟨exec_outsideRatings s hdv hc, dv, hdv, hc⟩

/-- Settles O6: every state that a step leaves is put into canonical form, or is the one that stood before. -/
theorem memoryStaysCanonical : Obligations.MemoryStaysCanonical := by
  intro s t hs h
  obtain rfl | ⟨d, hd, _⟩ := step_put_of_next h
  · exact hs
  · rw [hd]
    exact s.put_mem_wf d

/-- Settles O7: each step follows (`step_follows`). -/
theorem enginesStayOnTheirDies : Obligations.EnginesStayOnTheirDies := fun _ _ hs h => (step_follows h).2 hs

/-- Settles O8: each step follows (`step_follows`). -/
theorem fusesOnlyBurn : Obligations.FusesOnlyBurn := fun _ _ h => (step_follows h).1

/-- Settles O4: after reset the map of engines lists nothing, so every engine stands on the tile of its number. -/
theorem resetKeepsThePromises : Obligations.ResetKeepsThePromises := ⟨rfl, rfl, rfl, Dev.onDie_default rfl⟩

end Sys2Proof.Machine

/-! The frame of the memory: the effect of a command that stores nothing keeps the list of cells, which is canonical already. -/

namespace Sys2Proof.Machine

theorem Dev.writePlain_pwrCap_mem (d : Dev) (v : Nat) : (d.writePlain ⟨.PWR_CAP, 0, 0⟩ v).mem = d.mem := by
  rw [Dev.writePlain_pwrCap]
  split <;> simp

theorem exec_keeps_mem {c : Instr} (s : State) (hc : c.storesNothing = true) (h : c.InRatings) :
    ∃ d, exec c s = .next (s.put d) ∧ d.mem = s.dev.mem := by
  cases c with
  | fmm | bmm | cvtPlain | cvtNarrowing | cvtWeightConversion | add | mul | fma | scale | max | min | exp2 | log2 | recip | rsqrt | rmsnorm
  | rmsnormBwd | softmax | softmaxBwd | xent | silu | siluBwd | drop | dropBwd | slotAdd | slotIdxAdd | maxmask | bincount | updMom | updAda
  | shnPermute | shnPermutePadmat | shnGather | recvInto | reduceInto | chk | shadowTile | checkGroupEvaluation | fallbackRecomputation
  | gradientRerun | dripCorrection | adapterAddition | engStepCtxWrite | registerWrite | stepClose | tensorRead | checkpoint | bar2Read
  | dramRead | dramWrite | dramPartialWrite | patrolScrub | larderAccess | larderPartialWrite | acbFabricWrite | stackFailover | data
  | e2eAck | partialSum | result | packetForward | tenderStream | commit | start | abortStepMessage | isolationTimeout | tileReplacement
  | moduleRefill | setConfig | programLoad | tensorBind | tensorWrite | stateInit | runStep | restore | handover | pwrHandoverReverted
  | bar2Write | powerOn | pwrInputFail | presentOpen | inputOverVoltage | inputReversed | thermalSample | pwrLeakOff | pwrPllUnlock =>
    exact Bool.noConfusion hc
  | heartbeat m | ready m | committed m | fault m | publish m | staged m | fencePort m
  | takeoverQuery m silent | takeoverVote m | triggerMessage m | hostCmd m | hostCpl m =>
    exact ⟨_, rfl, by split <;> simp⟩
  | activate m =>
    refine ⟨_, rfl, ?_⟩
    split
    · exact Dev.onNew_mem _ _ _ fun d => by split <;> simp
    · rfl
  | send p rd => exact ⟨_, rfl, Dev.runXch_mem _ _ _ _ fun x d => by split <;> simp⟩
  | msixCoalesceTimeout q evt => exact ⟨_, rfl, by cases hq : s.dev.qp q <;> simp [hq]⟩
  | exportGen who tag out => exact ⟨_, rfl, Dev.cmdNow_mem _ _ _ _ _ fun b d => by split <;> simp⟩
  | storeBlocks who tag inp => exact ⟨_, rfl, Dev.cmdNow_mem _ _ _ _ _ fun b d => by cases hk : inp.failed <;> simp⟩
  | exportRelease who tag => exact ⟨_, rfl, Dev.cmdNow_mem _ _ _ _ _ fun b d => by cases who <;> simp⟩
  | pwrCapWrite v => exact ⟨_, rfl, Dev.writePlain_pwrCap_mem ..⟩
  | _ => exact ⟨_, rfl, by simp⟩

/-- Settles O9: the effect keeps the memory, and the put leaves a canonical memory alone. -/
theorem storesNothingLeavesMemory : Obligations.StoresNothingLeavesMemory := by
  intro c s t hc hs h a
  obtain ⟨d, hd, hm⟩ := exec_keeps_mem s hc (inRatings_of_next h)
  obtain rfl : t = s.put d := Host.Outcome.next.inj (h.symm.trans hd)
  have hput : (s.put d).dev.mem = s.dev.mem := by
    rw [← hm] at hs ⊢
    exact Memory.canon_of_wf _ hs
  rw [hput]

end Sys2Proof.Machine

/-! Registers as their fields (R9): the fields of a register stand apart, so a fold over them leaves in each field what its own step
puts there. Reset values, writes by access code and reads are such folds. -/

namespace Sys2Proof

/-- The fields of every register, with what its table promises of them. -/
theorem RegName.fields_apart (n : RegName) : n.fields.Pairwise (fun f g => f.apart g = true) := by
  cases n <;> decide

theorem RegName.fields_fit (n : RegName) : ∀ f ∈ n.fields, f.reg = n ∧ f.lo ≤ f.hi ∧ f.hi < 64 ∧ f.rst < 2 ^ f.width := by
  cases n <;> decide

theorem Fld.apart_iff (f g : Fld) : f.apart g = true ↔ (f.lo ≤ f.hi ∧ g.lo ≤ g.hi) ∧ (f.hi < g.lo ∨ g.hi < f.lo) := by
  simp [Fld.apart]

/-- Steps that each change no field apart from their own, over fields that stand apart: a field keeps its value if its own step is not
among them. -/
theorem Fld.get_foldl_apart (g : Fld) (step : Nat → Fld → Nat) (l : List Fld) (x : Nat) (hl : ∀ f ∈ l, f.apart g = true)
    (hStep : ∀ y f, f.apart g = true → g.get (step y f) = g.get y) : g.get (l.foldl step x) = g.get x := by
  induction l generalizing x with
  | nil => rfl
  | cons f l ih =>
    obtain ⟨hf, hl⟩ := List.forall_mem_cons.mp hl
    rw [List.foldl_cons, ih _ hl, hStep x f hf]

/-- A field among them holds what its own step leaves. -/
theorem Fld.get_foldl_mem {g : Fld} {step : Nat → Fld → Nat} {l : List Fld} {x r : Nat} (hl : l.Pairwise (fun f f' => f.apart f' = true))
    (hg : g ∈ l) (hStep : ∀ y f, f.apart g = true → g.get (step y f) = g.get y) (hSelf : ∀ y, g.get y = g.get x → g.get (step y g) = r) :
    g.get (l.foldl step x) = r := by
  induction l generalizing x with
  | nil => cases hg
  | cons f l ih =>
    obtain ⟨hf, hl⟩ := List.pairwise_cons.mp hl
    rw [List.foldl_cons]
    obtain rfl | hg := List.mem_cons.mp hg
    · rw [Fld.get_foldl_apart g step l _ (fun f' hf' => (Fld.apart_comm f' g).trans (hf f' hf')) hStep]
      exact hSelf x rfl
    · exact ih hl hg fun y hy => hSelf y (hy.trans (hStep x f (hf g hg)))

@[simp] theorem Fld.get_put_of_lt (f : Fld) (v : Nat) {x : Nat} (h : x < 2 ^ f.width) : f.get (f.put v x) = x := by
  rw [Fld.get_put, Nat.mod_eq_of_lt h]

theorem RegName.get_resetValue {n : RegName} {f : Fld} (hf : f ∈ n.fields) (inst : Nat) :
    f.get (n.resetValue inst) = if f = CVU_CTRL.POLY then cvuPoly inst else f.rst := by
  have hFold : f.get (n.fields.foldl (fun v f => f.put v f.rst) 0) = f.rst :=
    Fld.get_foldl_mem n.fields_apart hf (fun y g hg => Fld.get_put_apart g f y _ hg)
      fun y _ => Fld.get_put_of_lt f y (n.fields_fit f hf).2.2.2
  unfold RegName.resetValue
  by_cases hn : n = .CVU_CTRL
  · subst hn
    have hPoly : cvuPoly inst < 2 ^ CVU_CTRL.POLY.width := by
      unfold cvuPoly
      split <;> decide
    rw [if_pos rfl]
    by_cases hfp : f = CVU_CTRL.POLY
    · subst hfp
      rw [if_pos rfl, Fld.get_put_of_lt _ _ hPoly]
    · have hApart : ∀ g ∈ RegName.CVU_CTRL.fields, g ≠ CVU_CTRL.POLY → CVU_CTRL.POLY.apart g = true := by decide
      rw [if_neg hfp, Fld.get_put_apart _ _ _ _ (hApart f hf hfp), hFold]
  · have hfp : f ≠ CVU_CTRL.POLY := fun h => hn ((n.fields_fit f hf).1.symm.trans (h ▸ rfl))
    rw [if_neg hn, if_neg hfp, hFold]

end Sys2Proof

namespace Sys2Proof.Machine

/-- What a write leaves in a field, by its access code (R9). -/
theorem get_writeByAccess {r : RegId} {f : Fld} (hf : f ∈ r.name.fields) (booted : Bool) (old v : Nat) :
    f.get (writeByAccess r booted old v) =
      (match f.acc with
      | .rw | .rws => f.get v
      | .w1c => f.get old - Nat.land (f.get old) (f.get v)
      | .w1s => Nat.lor (f.get old) (f.get v)
      | .rl => if booted then f.get old else f.get v
      | .ro | .wo => f.get old) := by
  refine Fld.get_foldl_mem r.name.fields_apart hf (fun y g hg => ?_) fun y hy => ?_
  · cases g.acc with
    | rl => cases booted <;> simp [Fld.get_put_apart g f y _ hg]
    | _ => simp [Fld.get_put_apart g f y _ hg]
  · have hCleared : f.get old - Nat.land (f.get old) (f.get v) < 2 ^ f.width := Nat.lt_of_le_of_lt (Nat.sub_le ..) (f.get_lt old)
    have hSet : Nat.lor (f.get old) (f.get v) < 2 ^ f.width := Nat.or_lt_two_pow (f.get_lt old) (f.get_lt v)
    cases f.acc with
    | rl => cases booted <;> simp [Fld.get_put_of_lt f _ (f.get_lt v), hy]
    | w1c => exact Fld.get_put_of_lt f y hCleared
    | w1s => exact Fld.get_put_of_lt f y hSet
    | rw | rws => exact Fld.get_put_of_lt f y (f.get_lt v)
    | ro | wo => exact hy

/-- What a read returns in a field (R9). -/
theorem Dev.get_readReg (d : Dev) {r : RegId} {f : Fld} (hf : f ∈ r.name.fields) :
    f.get (d.readReg r) = if f.acc = .wo then 0 else f.get (d.reg r) := by
  refine Fld.get_foldl_mem r.name.fields_apart hf (fun y g hg => ?_) fun y hy => ?_
  · split
    · exact Fld.get_put_apart g f y 0 hg
    · rfl
  · split
    · exact Fld.get_put_of_lt f y (Nat.two_pow_pos _)
    · exact hy

/-- Settles O5: the register table lists nothing after reset, and a reset value holds each field's own. -/
theorem registersHoldTheirResetValues : Obligations.RegistersHoldTheirResetValues := by
  intro n f hf inst idx
  have hReg : State.reset.dev.reg ⟨f.reg, inst, idx⟩ = n.resetValue inst := by
    rw [(n.fields_fit f hf).1]
    rfl
  rw [Dev.fld, hReg, RegName.get_resetValue hf]

/-- Settles O11: the tables of every register. -/
theorem fieldsStandApart : Obligations.FieldsStandApart := fun n =>
  ⟨n.fields_apart.imp fun h => ((Fld.apart_iff _ _).mp h).2, n.fields_fit⟩

/-- Settles O12: a write and a read are folds over fields that stand apart. -/
theorem fieldsActByAccessCode : Obligations.FieldsActByAccessCode := by
  intro r f booted old v hf
  refine ⟨?_, fun d => d.get_readReg hf⟩
  refine (get_writeByAccess hf ..).trans ?_
  cases f.acc <;> rfl

end Sys2Proof.Machine

/-! Writes of one register: what a write leaves in the register that it names, and that it leaves every other one alone. A register that
exists is told apart by its key. -/

namespace Sys2Proof

theorem RegName.count_le (n : RegName) : n.place.2.2.2 ≤ 4096 := by
  cases n <;> decide

theorem Window.units_lt (w : Window) : w.units < 255 := by
  cases w <;> decide

theorem RegId.bounds_of_exists {r : RegId} (h : r.exists = true) : r.inst < 255 ∧ r.idx < 4096 := by
  simp only [RegId.exists, Bool.and_eq_true, decide_eq_true_eq] at h
  obtain ⟨⟨hInst, hIdx⟩, -⟩ := h
  exact ⟨Nat.lt_trans hInst r.name.window.units_lt, Nat.lt_of_lt_of_le hIdx r.name.count_le⟩

theorem RegId.key_ne {q r : RegId} (h : q ≠ r) (hq : q.exists = true) (hr : r.exists = true) : q.key ≠ r.key := by
  obtain ⟨hqi, hqx⟩ := bounds_of_exists hq
  obtain ⟨hri, hrx⟩ := bounds_of_exists hr
  intro hKey
  have hName : q.name = r.name := Decidable.byContradiction fun hn => key_ne_of_name hn hqi hqx hri hrx hKey
  have hInst : q.inst = r.inst := Decidable.byContradiction fun hi => key_ne_of_inst hi hqi hqx hri hrx hKey
  have hIdx : q.idx = r.idx := by
    unfold RegId.key at hKey
    rw [hName, hInst] at hKey
    omega
  obtain ⟨_, _, _⟩ := q
  obtain ⟨_, _, _⟩ := r
  simp_all

/-- A register of a tile whose number is in its table exists. -/
theorem RegId.exists_of_engine {n : RegName} {p j : Nat} (hw : n.window = .engine) (hn : n ≠ .MEM_FLASH_STATUS) (hp : p < 80)
    (hj : j < n.place.2.2.2) : RegId.exists ⟨n, p, j⟩ = true := by
  simp [RegId.exists, hw, hn, Window.units, hp, hj]

end Sys2Proof

namespace Sys2Proof.Machine

@[simp] theorem State.put_reg (s : State) (d : Dev) (r : RegId) : (s.put d).dev.reg r = d.reg r := rfl

theorem State.put_self {s : State} (h : Memory.wf s.dev.mem = true) : s.put s.dev = s := by
  unfold State.put
  rw [Memory.canon_of_wf _ h]
  rfl

theorem Dev.reg_of_regs {d e : Dev} (h : e.regs = d.regs) (r : RegId) : e.reg r = d.reg r := by
  unfold Dev.reg
  rw [h]

theorem Dev.reg_setReg (d : Dev) {q r : RegId} (v : Nat) (hq : q.exists = true) (hr : r.exists = true) :
    (d.setReg r v).reg q = if q = r then v else d.reg q := by
  split
  · subst q
    exact Dev.reg_setReg_same d r v
  · exact Dev.reg_setReg_other d r q v (RegId.key_ne ‹_› hq hr)

/-! ## The pre-load window and the slots -/

@[simp] theorem get_SIV_PRE_WIN_SIZE (v : Nat) : SIV_PRE_WIN.SIZE.get v = v / 256 % 256 := rfl
@[simp] theorem get_SIV_PRE_WIN_BASE (v : Nat) : SIV_PRE_WIN.BASE.get v = v % 256 := by simp [Fld.get, Fld.width, SIV_PRE_WIN.BASE]

theorem Dev.writePreWin_eq (d : Dev) (p v : Nat) :
    d.writePreWin p v =
      if 64 < v / 256 % 256 ∨ 256 < v % 256 + v / 256 % 256 then d
      else (d.setFld SIV_PRE_WIN.SIZE (v / 256 % 256) p).setFld SIV_PRE_WIN.BASE (v % 256) p := by
  simp only [Dev.writePreWin, get_SIV_PRE_WIN_SIZE, get_SIV_PRE_WIN_BASE, gt_iff_lt]

theorem Dev.fld_writePreWin_size (d : Dev) (p v : Nat) : (d.writePreWin p v).fld SIV_PRE_WIN.SIZE p =
    if 64 < v / 256 % 256 ∨ 256 < v % 256 + v / 256 % 256 then d.fld SIV_PRE_WIN.SIZE p else v / 256 % 256 := by
  rw [Dev.writePreWin_eq]
  split
  · rfl
  · rw [Dev.fld_setFld_apart _ SIV_PRE_WIN.BASE SIV_PRE_WIN.SIZE _ _ _ rfl (by decide), Dev.fld_setFld_same]
    exact Nat.mod_mod _ _

theorem Dev.fld_writePreWin_base (d : Dev) (p v : Nat) : (d.writePreWin p v).fld SIV_PRE_WIN.BASE p =
    if 64 < v / 256 % 256 ∨ 256 < v % 256 + v / 256 % 256 then d.fld SIV_PRE_WIN.BASE p else v % 256 := by
  rw [Dev.writePreWin_eq]
  split
  · rfl
  · rw [Dev.fld_setFld_same]
    exact Nat.mod_mod _ _

theorem Dev.writePreWin_reg (d : Dev) {p : Nat} (v : Nat) {r : RegId} (hp : p < 80) (hr : r.exists = true) (h : r ≠ ⟨.SIV_PRE_WIN, p, 0⟩) :
    (d.writePreWin p v).reg r = d.reg r := by
  have hKey := RegId.key_ne h hr (RegId.exists_of_engine rfl (by decide) hp (by decide))
  unfold Dev.writePreWin
  dsimp only
  split
  · rfl
  · rw [Dev.reg_setFld_other _ SIV_PRE_WIN.BASE _ _ _ _ hKey, Dev.reg_setFld_other _ SIV_PRE_WIN.SIZE _ _ _ _ hKey]

theorem Dev.writeSlotGeom_reg (d : Dev) {p n : Nat} (v : Nat) {r : RegId} (hp : p < 80) (hn : n < 256) (hr : r.exists = true)
    (h : r ≠ ⟨.ACB_SLOT_GEOM, p, n⟩) : (d.writeSlotGeom p n v).reg r = d.reg r := by
  unfold Dev.writeSlotGeom
  split
  · rfl
  · exact Dev.reg_setReg_other _ _ _ _ (RegId.key_ne h hr (RegId.exists_of_engine rfl (by decide) hp hn))

theorem Dev.fld_writeSlotGeom (d : Dev) (p n v : Nat) {f : Fld} (hf : f ∈ RegName.ACB_SLOT_GEOM.fields) :
    (d.writeSlotGeom p n v).fld f p n = if d.fld ACB_SLOT_STATE.STATE p n = 0 then f.get v else d.fld f p n := by
  have hAcc : ∀ g ∈ RegName.ACB_SLOT_GEOM.fields, g.acc = .rw := by decide
  unfold Dev.writeSlotGeom
  by_cases h : d.fld ACB_SLOT_STATE.STATE p n = 0
  · rw [if_neg (not_not_intro h), if_pos h, Dev.fld, (RegName.fields_fit _ f hf).1, Dev.reg_setReg_same,
      get_writeByAccess (r := ⟨.ACB_SLOT_GEOM, p, n⟩) hf, hAcc f hf]
  · rw [if_pos h, if_neg h]

theorem Dev.writeAcbCtrl_reg (d : Dev) {p : Nat} (v : Nat) {r : RegId} (hp : p < 80) (hr : r.exists = true)
    (h : r.name ≠ .ACB_SLOT_STATE ∨ r.inst ≠ p) : (d.writeAcbCtrl p v).reg r = d.reg r := by
  unfold Dev.writeAcbCtrl
  split
  · refine List.foldlRecOn _ _ (motive := fun e : Dev => e.reg r = d.reg r) rfl fun e he n hn => ?_
    have hne : r ≠ ⟨.ACB_SLOT_STATE, p, n⟩ := by
      rintro rfl
      simp at h
    exact (Dev.reg_setFld_other _ ACB_SLOT_STATE.STATE _ _ _ _
      (RegId.key_ne hne hr (RegId.exists_of_engine rfl (by decide) hp (List.mem_range.mp hn)))).trans he
  · rfl

/-- Settles O18: `writePreWin` by its definition, and a REGISTER_WRITE of the window is that write. -/
theorem preloadWindowTakesOnlyWhatFits : Obligations.PreloadWindowTakesOnlyWhatFits := by
  refine ⟨rfl, rfl, fun p v s => ?_⟩
  refine ⟨_, rfl, Dev.fld_writePreWin_size s.dev p v.toNat, Dev.fld_writePreWin_base s.dev p v.toNat, ?_⟩
  have hExists : RegId.exists ⟨.SIV_PRE_WIN, p.val, 0⟩ = true := RegId.exists_of_engine rfl (by decide) p.isLt (by decide)
  have hVal : (v.zeroExtend 64).toNat = v.toNat := by simp; omega
  rw [exec_registerWrite, hVal]
  simp only [Dev.writeRegister, Dev.writePlain, hExists, Bool.not_true, Bool.false_eq_true, if_false]

/-- Settles O19: a geometry that is taken is taken by access codes that are all RW, and no other register changes. -/
theorem slotGeometryOnlyWhileEmpty : Obligations.SlotGeometryOnlyWhileEmpty := by
  intro p n v s
  refine ⟨_, rfl, fun f hf => Dev.fld_writeSlotGeom s.dev p n v.toNat hf, fun f hf => ?_⟩
  have hName := (RegName.fields_fit _ f hf).1
  have hState : RegId.exists ⟨.ACB_SLOT_STATE, p.val, n.val⟩ = true := RegId.exists_of_engine rfl (by decide) p.isLt n.isLt
  rw [State.put_fld, Dev.fld, Dev.fld, hName, Dev.writeSlotGeom_reg s.dev v.toNat p.isLt n.isLt hState (by simp)]

end Sys2Proof.Machine

/-! REGISTER_WRITE of a register without behaviour of its own (R9), and the frames of the commands that write named registers, or
none. -/

namespace Sys2Proof.Machine

/-! ## REGISTER_WRITE -/

/-- The registers of a step's context: a write while a step is open is ignored (R217–R219, R266–R268). -/
def stepContext : List RegName :=
  [.ENG_VERSION_STRIDE, .ENG_JOB_SEED_LO, .ENG_JOB_SEED_HI, .ENG_TTAB, .ENG_HYP_BASE, .ENG_LR_FACTOR]

theorem Dev.writeRegister_plain (d : Dev) {r : RegId} (v : Nat) (hr : r.exists = true) (hp : r.name.plain = true) :
    d.writeRegister r v = d.setReg r (writeByAccess r d.bootComplete (d.reg r) v) := by
  obtain ⟨n, i, j⟩ := r
  unfold Dev.writeRegister Dev.writePlain
  rw [hr]
  cases n with
  | ENG_CQ_CTRL | ENG_SEM_ADD | ACB_CTRL | CPL_CTRL | CNT_CTRL | CNT_BASE_CLEAR | TRC_CTRL | PWR_TILE_CTRL | SNP_TRIG_CFG | SEC_DEBUG
  | SVC_MGMT_STATUS | MBX_STATE | MBX_BOOT | MBX_APERTURE | MBX_CTRL | MBX_HOST_ALIVE | MBX_STATUS | SIV_PRE_WIN | ACB_SLOT_GEOM
  | ENG_STEP_CTX | ENG_VERSION_STRIDE | ENG_JOB_SEED_LO | ENG_JOB_SEED_HI | ENG_TTAB | ENG_HYP_BASE | ENG_LR_FACTOR | ENG_CQ_PTR
  | SVC_CKPT_CFG | PWR_CAP => exact Bool.noConfusion hp
  | _ => rfl

theorem Dev.writeRegister_stepContext (d : Dev) {r : RegId} (v : Nat) (hr : r.exists = true) (hc : r.name ∈ stepContext) :
    d.writeRegister r v =
      if d.flag ENG_STEP_CTX.OPEN r.inst = true then d else d.setReg r (writeByAccess r true (d.reg r) v) := by
  obtain ⟨n, i, j⟩ := r
  simp only [stepContext, List.mem_cons, List.not_mem_nil, or_false] at hc
  unfold Dev.writeRegister Dev.writePlain
  rw [hr]
  obtain rfl | rfl | rfl | rfl | rfl | rfl := hc <;> rfl

/-- Boot locks only RL fields, and a register of the step's context has none. -/
theorem writeByAccess_stepContext {r : RegId} (hc : r.name ∈ stepContext) (booted : Bool) (old v : Nat) :
    writeByAccess r booted old v = writeByAccess r true old v := by
  have hAcc : ∀ n ∈ stepContext, ∀ f ∈ n.fields, f.acc = .rw := by decide
  rw [writeByAccess_of_all_rw _ _ _ _ (hAcc _ hc), writeByAccess_of_all_rw _ _ _ _ (hAcc _ hc)]

/-- Settles O13: the write is one `setReg`, or nothing while a step is open; registers that exist have keys of their own. -/
theorem registerWriteActsOnOneRegister : Obligations.RegisterWriteActsOnOneRegister := by
  intro r q v s hr hwf ctx open_
  refine ⟨fun hWrites hq => ?_, fun hc hOpen => ?_⟩
  · have hWrite : s.dev.writeRegister r v.toNat = s.dev.setReg r (writeByAccess r s.dev.bootComplete (s.dev.reg r) v.toNat) := by
      obtain hp | ⟨hc, hOpen⟩ := hWrites
      · exact s.dev.writeRegister_plain v.toNat hr hp
      · rw [s.dev.writeRegister_stepContext v.toNat hr hc, if_neg (by rw [show s.dev.flag _ _ = false from hOpen]; decide),
          writeByAccess_stepContext hc s.dev.bootComplete]
    refine ⟨_, exec_registerWrite r v s, ?_, ?_, rfl⟩
    · rw [State.put_reg, hWrite, Dev.reg_setReg s.dev _ hq hr]
    · rw [hWrite]
      have hMem : Memory.canon s.dev.mem = s.dev.mem := Memory.canon_of_wf _ hwf
      show (s.dev.withMem (Memory.canon s.dev.mem)).withRegs s.dev.regs = s.dev
      rw [hMem]
      rfl
  · rw [exec_registerWrite, s.dev.writeRegister_stepContext v.toNat hr hc, if_pos hOpen, State.put_self hwf]

/-! ## Commands that leave the registers alone -/

theorem Dev.badAccess_reg (d : Dev) {r : RegId} (hr : r.exists = true) (h : r.name ≠ .MBX_STATUS) : d.badAccess.reg r = d.reg r :=
  Dev.reg_bump_name d MBX_STATUS.BAD_ACCESS 1 0 0 r h (RegId.bounds_of_exists hr) (by decide) (by decide)

theorem Dev.writeMbx_reg (d : Dev) {eff : Dev → Dev} {r : RegId} (hr : r.exists = true) (h : r.name ≠ .MBX_STATUS)
    (hEff : (eff d).reg r = d.reg r) : (d.writeMbx eff).reg r = d.reg r := by
  unfold Dev.writeMbx
  split
  · rfl
  · split
    · exact d.badAccess_reg hr h
    · exact hEff

theorem Dev.cplHead_reg (d : Dev) (q head : Nat) {r : RegId} (hr : r.exists = true) (h : r.name ≠ .MBX_STATUS) :
    (d.cplHead q head).reg r = d.reg r := by
  unfold Dev.cplHead
  repeat' split
  all_goals first | rfl | exact d.badAccess_reg hr h

theorem Dev.evtHead_reg (d : Dev) (q head : Nat) {r : RegId} (hr : r.exists = true) (h : r.name ≠ .MBX_STATUS) :
    (d.evtHead q head).reg r = d.reg r := by
  unfold Dev.evtHead
  repeat' split
  all_goals first | rfl | exact d.badAccess_reg hr h

theorem Dev.cntClear_reg (d : Dev) (x v : Nat) (r : RegId) : (d.cntClear x v).reg r = d.reg r := foldl_reg r _ _ _ fun _ _ => rfl

theorem Dev.baseClear_reg (d : Dev) (x v : Nat) (r : RegId) : (d.baseClear x v).reg r = d.reg r := by
  unfold Dev.baseClear
  split <;> rfl

theorem Dev.configRequest_reg (d : Dev) (a : Nat) (w : Option (BitVec 32)) (r : RegId) : (d.configRequest a w).reg r = d.reg r := by
  unfold Dev.configRequest
  dsimp only
  split
  · rfl
  · cases w <;> rfl

theorem Dev.writePlain_pwrCap_reg (d : Dev) (v : Nat) {r : RegId} (hr : r.exists = true) (h : r.name ≠ .PWR_CAP) :
    (d.writePlain ⟨.PWR_CAP, 0, 0⟩ v).reg r = d.reg r := by
  rw [Dev.writePlain_pwrCap]
  split
  · exact Dev.reg_setFld_name d PWR_CAP.CAP_W _ 0 0 r h (RegId.bounds_of_exists hr) (by decide) (by decide)
  · rfl

/-- The command leaves register r as it was. -/
theorem reg_of_put {c : Instr} {s : State} {d : Dev} {r : RegId} (hc : exec c s = .next (s.put d)) (h : d.reg r = s.dev.reg r) :
    ∀ t, exec c s = .next t → t.dev.reg r = s.dev.reg r := fun t ht => by
  obtain rfl : t = s.put d := Host.Outcome.next.inj (ht.symm.trans hc)
  exact h

/-- Settles O10: each command's effect leaves the register alone; a write of one register leaves the registers of other keys. -/
theorem quietCommandsLeaveRegisters : Obligations.QuietCommandsLeaveRegisters := by
  intro s r hr keeps
  obtain ⟨hInst, hIdx⟩ := RegId.bounds_of_exists hr
  refine ⟨fun p v h => ?_, fun p n v h => ?_, fun p v h => ?_, fun v h => ?_, fun v h h' => ?_, fun v q h => ⟨?_, ?_, ?_⟩, fun h => ?_,
    ?_, ?_, ?_, ?_, ?_, fun x v => ⟨?_, ?_, ?_⟩, fun a w => ?_, fun v => ?_, fun q e => ?_⟩
  · exact reg_of_put rfl (s.dev.writePreWin_reg v.toNat p.isLt hr (by rintro rfl; simp at h))
  · exact reg_of_put rfl (s.dev.writeSlotGeom_reg v.toNat p.isLt n.isLt hr (by rintro rfl; simp at h))
  · exact reg_of_put rfl (s.dev.writeAcbCtrl_reg v.toNat p.isLt hr h)
  · exact reg_of_put rfl (s.dev.writePlain_pwrCap_reg v.toNat hr h)
  · exact reg_of_put rfl (s.dev.writeMbx_reg hr h'
      (Dev.reg_setReg_other _ _ _ _ (RegId.key_ne_of_name h hInst hIdx (by decide) (by decide))))
  · exact reg_of_put rfl (s.dev.writeMbx_reg hr h rfl)
  · exact reg_of_put rfl (s.dev.cplHead_reg q v.toNat hr h)
  · exact reg_of_put rfl (s.dev.evtHead_reg q v.toNat hr h)
  · exact reg_of_put rfl (Dev.reg_setFld_name s.dev SNP_STATUS.IN_STUCK 0 0 0 r h ⟨hInst, hIdx⟩ (by decide) (by decide))
  · exact reg_of_put rfl rfl
  · exact reg_of_put rfl rfl
  · exact reg_of_put rfl rfl
  · exact reg_of_put rfl rfl
  · exact reg_of_put rfl (by dsimp only; split <;> rfl)
  · exact reg_of_put rfl (s.dev.cntClear_reg x v.toNat r)
  · exact reg_of_put rfl (s.dev.baseClear_reg x v.toNat r)
  · exact reg_of_put rfl (by dsimp only; split <;> rfl)
  · exact reg_of_put rfl (s.dev.configRequest_reg a.toNat w r)
  · refine reg_of_put rfl ?_
    dsimp only
    split
    · rfl
    · split
      · exact Dev.fireMsi_reg _ _ r
      · rfl
  · refine reg_of_put rfl ?_
    dsimp only
    cases s.dev.qp q with
    | none => rfl
    | some x =>
      dsimp only
      repeat' split
      all_goals first | rfl | exact Dev.fireMsi_reg _ _ r

end Sys2Proof.Machine

/-! Places and partitions: the spare capacity that a failed stack's chunks take (R291), the banks of a larder (R293), the chunks of a
reduction (R358). -/

namespace Sys2Proof.Machine

/-! ## The spare capacity (R291) -/

theorem cellOf_of_home_ne {f a : Nat} (h : homeStack a ≠ f) : cellOf (some f) a = a := if_neg fun ⟨_, hHome⟩ => h hHome

theorem cellOf_of_home {f a : Nat} (ha : a < 960 * 2 ^ 30) (h : homeStack a = f) :
    cellOf (some f) a = cellAt ((f + 1 + a / 2048 / 16 % 15) % 16) (60 * 2 ^ 30 + a / 2048 / 16 / 15 * 2048 + a % 2048) :=
  if_pos ⟨ha, h⟩

/-- A failed stack's chunk lies beyond the addresses that carry data while sparing is enabled. -/
theorem cellOf_spare_ge {f a : Nat} (ha : a < 960 * 2 ^ 30) (h : homeStack a = f) : 960 * 2 ^ 30 ≤ cellOf (some f) a := by
  rw [cellOf_of_home ha h, cellAt]
  omega

theorem cellOf_spare_lt {f a : Nat} (ha : a < 960 * 2 ^ 30) (h : homeStack a = f) : cellOf (some f) a < 2 ^ 40 := by
  rw [cellOf_of_home ha h, cellAt]
  omega

theorem cellOf_spare_inj {f a b : Nat} (ha : a < 960 * 2 ^ 30) (hb : b < 960 * 2 ^ 30) (hHomeA : homeStack a = f)
    (hHomeB : homeStack b = f) (h : cellOf (some f) a = cellOf (some f) b) : a = b := by
  rw [cellOf_of_home ha hHomeA, cellOf_of_home hb hHomeB] at h
  have hStack := congrArg homeStack h
  have hLocal := congrArg localAddr h
  rw [homeStack_cellAt _ (Nat.mod_lt _ (by decide)), homeStack_cellAt _ (Nat.mod_lt _ (by decide))] at hStack
  rw [localAddr_cellAt _ (Nat.mod_lt _ (by decide)), localAddr_cellAt _ (Nat.mod_lt _ (by decide))] at hLocal
  unfold homeStack at hHomeA hHomeB
  have hChunk : a / 2048 / 16 % 15 = b / 2048 / 16 % 15 := by omega
  omega

/-- No two addresses below the spare capacity share a place. -/
theorem cellOf_inj {f a b : Nat} (ha : a < 960 * 2 ^ 30) (hb : b < 960 * 2 ^ 30)
    (h : cellOf (some f) a = cellOf (some f) b) : a = b := by
  by_cases hHomeA : homeStack a = f <;> by_cases hHomeB : homeStack b = f
  · exact cellOf_spare_inj ha hb hHomeA hHomeB h
  · have hSpare := cellOf_spare_ge ha hHomeA
    rw [h, cellOf_of_home_ne hHomeB] at hSpare
    omega
  · have hSpare := cellOf_spare_ge hb hHomeB
    rw [← h, cellOf_of_home_ne hHomeA] at hSpare
    omega
  · rwa [cellOf_of_home_ne hHomeA, cellOf_of_home_ne hHomeB] at h

/-- Settles O31: a place is named by its stack and stack-local address, and the spare places lie above the others. -/
theorem sparePlacesStandApart : Obligations.SparePlacesStandApart := by
  intro f a b _ ha hb
  refine ⟨cellOf_of_home_ne, fun hHome => ?_, cellOf_inj ha hb⟩
  have hStack : (f + 1 + a / 2048 / 16 % 15) % 16 < 16 := Nat.mod_lt _ (by decide)
  rw [cellOf_of_home ha hHome, homeStack_cellAt _ hStack, localAddr_cellAt _ hStack]
  refine ⟨rfl, ?_, rfl, ?_⟩ <;> omega

/-! ## The banks of a larder (R293) -/

theorem larBank_eq (a : Nat) : larBank a = (a / 128 % 64) ^^^ (a / 128 / 64 % 64) := rfl

theorem larBank_lt (a : Nat) : larBank a < 64 := Nat.xor_lt_two_pow (n := 6) (Nat.mod_lt _ (by decide)) (Nat.mod_lt _ (by decide))

theorem xor_right_cancel {x y z : Nat} (h : x ^^^ z = y ^^^ z) : x = y := by
  have hTwice := congrArg (· ^^^ z) h
  simpa only [Nat.xor_assoc, Nat.xor_self, Nat.xor_zero] using hTwice

/-- Settles O32: the bank gives back the low bits of the line once the high ones are known. -/
theorem larderBanksHoldEveryLineOnce : Obligations.LarderBanksHoldEveryLineOnce := by
  intro a _
  refine ⟨rfl, larBank_lt a, fun b _ hBank hLine => ?_⟩
  rw [larBank_eq, larBank_eq, hLine] at hBank
  have hLow : a / 128 % 64 = b / 128 % 64 := xor_right_cancel hBank
  omega

/-! ## The chunks of a reduction (R358) -/

theorem chunkRange_eq (size total q : Nat) :
    chunkRange size total q = (Nat.min (q * chunkSize size total) total, Nat.min ((q + 1) * chunkSize size total) total) := rfl

/-- The chunks together are as long as the stream or longer. -/
theorem le_size_mul_chunkSize (size total : Nat) (h : 0 < size) : total ≤ size * chunkSize size total := by
  have hCeil := Nat.lt_mul_div_succ (total + 128 * size - 1) (show 0 < 128 * size by omega)
  have hSize : size * chunkSize size total = 128 * size * ((total + 128 * size - 1) / (128 * size)) := by
    unfold chunkSize
    rw [Nat.mul_left_comm, Nat.mul_assoc]
  rw [Nat.mul_add] at hCeil
  omega

/-- Settles O40: position i lies in chunk i / C, and C times the number of chunks covers the stream. -/
theorem reductionChunksPartitionTheStream : Obligations.ReductionChunksPartitionTheStream := by
  intro size total hSize
  refine ⟨?_, chunkRange_eq size total, fun i hi => ?_⟩
  · unfold chunkSize
    rw [Nat.add_sub_assoc (by omega)]
  · have hCover := le_size_mul_chunkSize size total hSize
    have hChunk : 0 < chunkSize size total := Nat.pos_of_ne_zero fun h0 => by
      rw [h0] at hCover
      omega
    refine ⟨Nat.div_lt_of_lt_mul (by rw [Nat.mul_comm]; omega), fun q => ?_⟩
    rw [chunkRange_eq]
    have hLow : Nat.min (q * chunkSize size total) total ≤ i ↔ q ≤ i / chunkSize size total := by
      rw [Nat.le_div_iff_mul_le hChunk]
      exact ⟨fun h => Nat.not_lt.mp fun hLt => Nat.not_le.mpr (Nat.lt_min.mpr ⟨hLt, hi⟩) h, fun h => Nat.le_trans (Nat.min_le_left _ _) h⟩
    have hHigh : i < Nat.min ((q + 1) * chunkSize size total) total ↔ i / chunkSize size total < q + 1 := by
      rw [Nat.div_lt_iff_lt_mul hChunk]
      exact ⟨fun h => Nat.lt_of_lt_of_le h (Nat.min_le_left _ _), fun h => Nat.lt_min.mpr ⟨h, hi⟩⟩
    rw [hLow, hHigh]
    omega

end Sys2Proof.Machine

/-! Writes of data bytes (R280, R283, R295, R297) while no line or word is poisoned: they store exactly their run of bytes. The run is
one piece of the list of cells, or goes byte by byte through the remap of a failed stack, which keeps addresses that hold data apart. -/

namespace Sys2Proof.Machine

/-! ## Tables cut and joined -/

section
variable {α : Type}

theorem tget_append_left (d : α) {l : Tbl α} (r : Tbl α) {i : Nat} (h : ∀ e ∈ l, e.1 ≠ i) : tget d (l ++ r) i = tget d r i := by
  induction l with
  | nil => rfl
  | cons e l ih =>
    obtain ⟨he, hl⟩ := List.forall_mem_cons.mp h
    obtain ⟨k, v⟩ := e
    rw [List.cons_append, tget, if_neg (Ne.symm he), ih hl]

theorem tget_of_not_mem (d : α) {t : Tbl α} {i : Nat} (h : ∀ e ∈ t, e.1 ≠ i) : tget d t i = d := by
  have := tget_append_left d [] h
  rwa [List.append_nil] at this

theorem tget_append_right (d : α) (l : Tbl α) {r : Tbl α} {i : Nat} (h : ∀ e ∈ r, e.1 ≠ i) : tget d (l ++ r) i = tget d l i := by
  induction l with
  | nil => exact tget_of_not_mem d h
  | cons e l ih =>
    obtain ⟨k, v⟩ := e
    simp only [List.cons_append, tget, ih]

theorem tget_filter_pos (d : α) (t : Tbl α) (p : Nat → Bool) {i : Nat} (h : p i = true) : tget d (t.filter (fun e => p e.1)) i = tget d t i := by
  induction t with
  | nil => rfl
  | cons e t ih =>
    obtain ⟨k, v⟩ := e
    by_cases hk : p k = true
    · rw [List.filter_cons_of_pos (p := fun e : Nat × α => p e.1) hk]
      simp only [tget, ih]
    · have hne : i ≠ k := fun hik => hk (hik ▸ h)
      rw [List.filter_cons_of_neg (p := fun e : Nat × α => p e.1) hk, ih, tget, if_neg hne]

theorem twf_filter [DecidableEq α] (d : α) (p : Nat × α → Bool) (t : Tbl α) (lo : Nat) (h : twf d lo t = true) :
    twf d lo (t.filter p) = true := by
  induction t generalizing lo with
  | nil => rfl
  | cons e t ih =>
    obtain ⟨k, v⟩ := e
    simp only [twf, Bool.and_eq_true, decide_eq_true_eq] at h
    obtain ⟨⟨hlo, hv⟩, ht⟩ := h
    by_cases hp : p (k, v) = true
    · rw [List.filter_cons_of_pos hp]
      simp only [twf, Bool.and_eq_true, decide_eq_true_eq]
      exact ⟨⟨hlo, hv⟩, ih _ ht⟩
    · rw [List.filter_cons_of_neg hp]
      exact ih _ (twf_mono d t ht (by omega))

/-- Two canonical tables, the second above the keys of the first, are canonical one after the other. -/
theorem twf_append [DecidableEq α] (d : α) {l r : Tbl α} {lo hi : Nat} (hl : twf d lo l = true) (hr : twf d hi r = true) (hlo : lo ≤ hi)
    (hKeys : ∀ e ∈ l, e.1 < hi) : twf d lo (l ++ r) = true := by
  induction l generalizing lo with
  | nil => exact twf_mono d r hr hlo
  | cons e l ih =>
    obtain ⟨he, hTail⟩ := List.forall_mem_cons.mp hKeys
    obtain ⟨k, v⟩ := e
    simp only [List.cons_append, twf, Bool.and_eq_true, decide_eq_true_eq] at hl ⊢
    exact ⟨hl.1, ih hl.2 he hTail⟩

/-- The entries of a canonical table from a key on. -/
theorem twf_filter_ge [DecidableEq α] (d : α) {t : Tbl α} {lo : Nat} (hi : Nat) (h : twf d lo t = true) :
    twf d hi (t.filter (fun e => decide (hi ≤ e.1))) = true := by
  induction t generalizing lo with
  | nil => rfl
  | cons e t ih =>
    obtain ⟨k, v⟩ := e
    simp only [twf, Bool.and_eq_true, decide_eq_true_eq] at h
    obtain ⟨⟨_, hv⟩, ht⟩ := h
    by_cases hk : hi ≤ k
    · rw [List.filter_cons_of_pos (by simpa using hk)]
      simp only [twf, Bool.and_eq_true, decide_eq_true_eq]
      exact ⟨⟨hk, hv⟩, twf_filter d _ t _ ht⟩
    · rw [List.filter_cons_of_neg (by simpa using hk)]
      exact ih ht

end

/-! ## A run of bytes in the list of cells -/

theorem runCells_keys {a : Nat} {bs : List Byte} : ∀ e ∈ runCells a bs, a ≤ e.1 ∧ e.1 < a + bs.length := by
  induction bs generalizing a with
  | nil => simp [runCells]
  | cons b bs ih =>
    intro e he
    have hTail : ∀ e ∈ runCells (a + 1) bs, a ≤ e.1 ∧ e.1 < a + (b :: bs).length := fun e he => by
      have := ih e he
      simp only [List.length_cons]
      omega
    rw [runCells] at he
    split at he
    · exact hTail e he
    · obtain rfl | he := List.mem_cons.mp he
      · simp
      · exact hTail e he

theorem runCells_wf (a : Nat) (bs : List Byte) : twf memDefault a (runCells a bs) = true := by
  induction bs generalizing a with
  | nil => rfl
  | cons b bs ih =>
    rw [runCells]
    split
    · exact twf_mono memDefault _ (ih (a + 1)) (Nat.le_succ a)
    · simp only [twf, Bool.and_eq_true, decide_eq_true_eq]
      exact ⟨⟨(Nat.le_refl _), ‹_›⟩, ih (a + 1)⟩

theorem read_runCells (a i : Nat) (bs : List Byte) : Memory.read (runCells a bs) (a + i) = bs.getD i 0 := by
  induction bs generalizing a i with
  | nil => rfl
  | cons b bs ih =>
    have hTail : ∀ j, Memory.read (runCells (a + 1) bs) (a + (j + 1)) = bs.getD j 0 := fun j => by
      rw [show a + (j + 1) = a + 1 + j by omega, ih]
    have hHead : Memory.read (runCells (a + 1) bs) a = memDefault :=
      tget_of_not_mem _ fun e he h => by
        have := (runCells_keys e he).1
        omega
    rw [runCells]
    split
    · cases i with
      | zero => exact hHead.trans (by simp [‹b = memDefault›, memDefault])
      | succ j => exact hTail j
    · cases i with
      | zero => simp [Memory.read, tget]
      | succ j =>
        rw [Memory.read, tget, if_neg (by omega)]
        exact hTail j

/-! ## `memWrite`, through the remap or without it -/

theorem memEach_wf (f : Option Nat) (bs : List Byte) (m : List Host.Cell) (a : Nat) (h : Memory.wf m = true) :
    Memory.wf (memEach f m a bs) = true := by
  induction bs generalizing m a with
  | nil => exact h
  | cons b bs ih => exact ih _ _ (Memory.write_wf m _ b h)

theorem memWrite_wf (f : Option Nat) {m : List Host.Cell} (a : Nat) (bs : List Byte) (h : Memory.wf m = true) :
    Memory.wf (memWrite f m a bs) = true := by
  cases f with
  | some f => exact memEach_wf _ bs m a h
  | none =>
    have hBelow : ∀ e ∈ m.filter (fun c => decide (c.1 < a)), e.1 < a := fun e he => by simpa using (List.mem_filter.mp he).2
    have hFirst := twf_append memDefault (twf_filter memDefault (fun c => decide (c.1 < a)) m 0 h) (runCells_wf a bs) (Nat.zero_le a) hBelow
    refine twf_append memDefault hFirst (twf_filter_ge memDefault (a + bs.length) h) (Nat.zero_le _) fun e he => ?_
    obtain he | he := List.mem_append.mp he
    · have := hBelow e he
      omega
    · exact (runCells_keys e he).2

/-- The byte that address b holds after bytes from a on are written, where b's place is the place of no other address written. -/
theorem read_memEach (f : Option Nat) (b : Nat) (bs : List Byte) (m : List Host.Cell) (a : Nat)
    (h : ∀ x, a ≤ x → x < a + bs.length → cellOf f x = cellOf f b → x = b) :
    Memory.read (memEach f m a bs) (cellOf f b) =
      if a ≤ b ∧ b < a + bs.length then bs.getD (b - a) 0 else Memory.read m (cellOf f b) := by
  induction bs generalizing m a with
  | nil => rw [if_neg (by simp only [List.length_nil]; omega)]; rfl
  | cons c bs ih =>
    simp only [List.length_cons] at h
    rw [memEach, ih _ _ fun x hx hx' => h x (by omega) (by omega), List.length_cons]
    by_cases hab : a = b
    · subst hab
      rw [if_neg (by omega), if_pos (by omega), Memory.read_write_same, Nat.sub_self]
      rfl
    · have hne : cellOf f b ≠ cellOf f a := fun hc => hab (h a (Nat.le_refl _) (by omega) hc.symm)
      rw [Memory.read_write_other _ _ _ _ hne]
      by_cases hin : a + 1 ≤ b ∧ b < a + 1 + bs.length
      · rw [if_pos hin, if_pos (by omega), show b - a = b - (a + 1) + 1 by omega, List.getD_cons_succ]
      · rw [if_neg hin, if_neg (by omega)]

theorem read_memWrite (f : Option Nat) (b : Nat) (bs : List Byte) (m : List Host.Cell) (a : Nat)
    (h : ∀ x, a ≤ x → x < a + bs.length → cellOf f x = cellOf f b → x = b) :
    Memory.read (memWrite f m a bs) (cellOf f b) =
      if a ≤ b ∧ b < a + bs.length then bs.getD (b - a) 0 else Memory.read m (cellOf f b) := by
  cases f with
  | some f => exact read_memEach _ b bs m a h
  | none =>
    have hAbove : a + bs.length ≤ b ∨ ∀ e ∈ m.filter (fun c => decide (a + bs.length ≤ c.1)), e.1 ≠ b := by
      refine Classical.or_iff_not_imp_left.mpr fun hb e he heb => hb ?_
      simpa [heb] using (List.mem_filter.mp he).2
    have hBelow : b < a ∨ ∀ e ∈ m.filter (fun c => decide (c.1 < a)), e.1 ≠ b := by
      refine Classical.or_iff_not_imp_left.mpr fun hb e he heb => hb ?_
      simpa [heb] using (List.mem_filter.mp he).2
    have hRun : (a ≤ b ∧ b < a + bs.length) ∨ ∀ e ∈ runCells a bs, e.1 ≠ b :=
      Classical.or_iff_not_imp_left.mpr fun hb e he heb => hb (heb ▸ runCells_keys e he)
    show tget memDefault (m.filter (fun c => decide (c.1 < a)) ++ runCells a bs ++ m.filter (fun c => decide (a + bs.length ≤ c.1))) b = _
    by_cases hin : a ≤ b ∧ b < a + bs.length
    · rw [if_pos hin, tget_append_right _ _ (hAbove.resolve_left (by omega)), tget_append_left _ _ (hBelow.resolve_left (by omega))]
      obtain ⟨i, rfl⟩ := Nat.exists_eq_add_of_le hin.1
      rw [Nat.add_sub_cancel_left]
      exact read_runCells a i bs
    · rw [if_neg hin]
      by_cases hb : b < a
      · rw [tget_append_right _ _ (hAbove.resolve_left (by omega)), tget_append_right _ _ (hRun.resolve_left hin)]
        exact tget_filter_pos memDefault m (fun k => decide (k < a)) (by simpa using hb)
      · rw [List.append_assoc, tget_append_left _ _ (hBelow.resolve_left hb), tget_append_left _ _ (hRun.resolve_left hin)]
        exact tget_filter_pos memDefault m (fun k => decide (a + bs.length ≤ k)) (by simp; omega)

/-! ## Addresses that hold data -/

theorem Dev.failed_of_regs {d e : Dev} (hRegs : e.regs = d.regs) (hVia : e.via = d.via) : e.failed = d.failed := by
  unfold Dev.failed Dev.sparing Dev.flag Dev.fld Dev.reg
  rw [hRegs, hVia]

theorem Dev.dramEnd_le (d : Dev) : d.dramEnd ≤ 2 ^ 40 := by
  unfold Dev.dramEnd
  split <;> decide

/-- Data lies in DRAM, and in the larder, accumulator buffer and command queue of each tile's window (R271). -/
theorem Dev.isData_iff (d : Dev) (a : Nat) : d.isData a = true ↔ a < d.dramEnd ∨
    2 ^ 40 ≤ a ∧ a < 2 ^ 40 + 80 * 0x4000000 ∧ (a % 0x4000000 < 0x2800000 ∨ 0x3010000 ≤ a % 0x4000000 ∧ a % 0x4000000 < 0x3012000) := by
  have hEnd := d.dramEnd_le
  by_cases hd : a < d.dramEnd
  · have hDram : d.region a = .dram := (d.region_eq_dram_iff a).mpr hd
    unfold Dev.isData
    rw [hDram]
    exact iff_of_true rfl (.inl hd)
  unfold Dev.isData Dev.region
  rw [if_neg hd]
  by_cases hw : 0x10000000000 ≤ a ∧ a < 0x10000000000 + 80 * 0x4000000
  · have hOff : (a - 0x10000000000) % 0x4000000 = a % 0x4000000 := by omega
    rw [if_pos hw, hOff]
    generalize a % 0x4000000 = o
    dsimp only
    by_cases hLarder : o < 0x2000000
    · rw [if_pos hLarder]
      exact iff_of_true rfl (by omega)
    by_cases hAcb : o < 0x2800000
    · rw [if_neg hLarder, if_pos hAcb]
      exact iff_of_true rfl (by omega)
    by_cases hGap : o < 0x3000000
    · rw [if_neg hLarder, if_neg hAcb, if_pos hGap]
      exact iff_of_false Bool.false_ne_true (by omega)
    by_cases hRegs : o < 0x3010000
    · rw [if_neg hLarder, if_neg hAcb, if_neg hGap, if_pos hRegs]
      exact iff_of_false Bool.false_ne_true (by omega)
    rw [if_neg hLarder, if_neg hAcb, if_neg hGap, if_neg hRegs]
    by_cases hQueue : o < 0x3012000
    · rw [if_pos hQueue]
      exact iff_of_true rfl (by omega)
    · rw [if_neg hQueue]
      exact iff_of_false Bool.false_ne_true (by omega)
  · rw [if_neg hw]
    refine iff_of_false ?_ (by omega)
    by_cases hDie : 0x20000000000 ≤ a ∧ a < 0x20000000000 + 16 * 0x1000000
    · rw [if_pos hDie]
      exact Bool.false_ne_true
    by_cases hBase : 0x20100000000 ≤ a ∧ a < 0x20100000000 + 16 * 0x1000000
    · rw [if_neg hDie, if_pos hBase]
      exact Bool.false_ne_true
    rw [if_neg hDie, if_neg hBase]
    by_cases hService : 0x20200000000 ≤ a ∧ a < 0x20201000000
    · rw [if_pos hService]
      exact Bool.false_ne_true
    · rw [if_neg hService]
      exact Bool.false_ne_true

theorem Dev.isData_of_rangeData {d : Dev} {a n x : Nat} (h : d.rangeData a n = true) (hax : a ≤ x) (hxn : x < a + n) : d.isData x = true := by
  have hEnd := d.dramEnd_le
  simp only [Dev.rangeData, Bool.or_eq_true, Bool.and_eq_true, beq_iff_eq, decide_eq_true_eq, Dev.isData_iff] at h ⊢
  omega

theorem Dev.failed_cases {d : Dev} {f : Nat} (h : d.failed = some f) : d.dramEnd = 960 * 2 ^ 30 := by
  have hs : d.sparing = true := by
    unfold Dev.failed at h
    split at h <;> · split at h
                     · exact (‹_ ∧ _› : _ ∧ _).1
                     · cases h
  unfold Dev.dramEnd
  exact if_pos hs

/-- The remap keeps addresses that hold data apart (R291). -/
theorem Dev.cellOf_inj {d : Dev} {x y : Nat} (hx : d.isData x = true) (hy : d.isData y = true)
    (h : cellOf d.failed x = cellOf d.failed y) : x = y := by
  cases hf : d.failed with
  | none => rwa [hf] at h
  | some f =>
    rw [hf] at h
    rw [Dev.isData_iff, Dev.failed_cases hf] at hx hy
    have hWindow : ∀ z, 2 ^ 40 ≤ z → cellOf (some f) z = z := fun z hz => if_neg fun hc => by omega
    have hDram : ∀ z, z < 960 * 2 ^ 30 → cellOf (some f) z < 2 ^ 40 := fun z hz => by
      by_cases hHome : homeStack z = f
      · exact cellOf_spare_lt hz hHome
      · rw [cellOf_of_home_ne hHome]
        omega
    obtain hx | ⟨hx, _⟩ := hx <;> obtain hy | ⟨hy, _⟩ := hy
    · exact Machine.cellOf_inj hx hy h
    · have := hDram x hx
      rw [h, hWindow y hy] at this
      omega
    · have := hDram y hy
      rw [← h, hWindow x hx] at this
      omega
    · rwa [hWindow x hx, hWindow y hy] at h

/-! ## A write of data bytes -/

theorem Dev.write_eq {d : Dev} {a : Nat} {bs : List Byte} (hLine : d.lineX = []) (hWord : d.wordX = []) (h : d.rangeData a bs.length = true) :
    d.write a bs = d.withMem (memWrite d.failed d.mem a bs) := by
  unfold Dev.write
  rw [h, if_neg (by simp), if_pos ⟨hLine, hWord⟩]

/-- A device e holds what d holds after a write: the same registers and decoder, and the memory that the write leaves, put into
canonical form. -/
theorem Dev.stores_of_write {d e : Dev} {a : Nat} {bs : List Byte} (hwf : Memory.wf d.mem = true) (hLine : d.lineX = [])
    (hWord : d.wordX = []) (hRange : d.rangeData a bs.length = true) (hMem : e.mem = Memory.canon (d.write a bs).mem)
    (hRegs : e.regs = d.regs) (hVia : e.via = d.via) : d.Stores e a bs := by
  intro b hb
  rw [Dev.write_eq hLine hWord hRange, Dev.withMem_mem, Memory.canon_of_wf _ (memWrite_wf _ _ _ hwf)] at hMem
  unfold Dev.byte
  rw [hMem, Dev.failed_of_regs hRegs hVia]
  exact read_memWrite _ b bs _ a fun x hax hxn hc => Dev.cellOf_inj (Dev.isData_of_rangeData hRange hax hxn) hb hc

theorem Dev.rangeData_of_dram {d : Dev} {a n : Nat} (h : a + n ≤ d.dramEnd) : d.rangeData a n = true := by
  simp only [Dev.rangeData, Bool.or_eq_true, Bool.and_eq_true, beq_iff_eq, decide_eq_true_eq, Dev.isData_iff]
  omega

/-- A range of the larder and accumulator buffer of one tile's window. -/
theorem Dev.rangeData_of_tile (d : Dev) {p off n : Nat} (hp : p < 80) (h : off + n ≤ 0x2800000) : d.rangeData (tileBase p + off) n = true := by
  have hEnd := d.dramEnd_le
  simp only [Dev.rangeData, Bool.or_eq_true, Bool.and_eq_true, beq_iff_eq, decide_eq_true_eq, Dev.isData_iff]
  unfold tileBase
  omega

theorem length_padTo (n : Nat) (bs : List Byte) : (padTo n bs).length = n := by
  simp [padTo]
  omega

theorem Dev.dramEnd_line {d : Dev} {a : Nat} (h : a < d.dramEnd) : a / 64 * 64 + 64 ≤ d.dramEnd := by
  have hEnd : 64 ∣ d.dramEnd := by
    unfold Dev.dramEnd
    split <;> decide
  omega

theorem Dev.lineOutcome_of_nil {d : Dev} (h : d.lineX = []) (c : Nat) (o : ReadOutcome) : d.lineOutcome c o = o := by
  unfold Dev.lineOutcome
  rw [h]
  rfl

theorem Dev.dramWrite_of_dram {d : Dev} {a : Nat} (h : d.region a = .dram) (src : MemSrc) (line : List Byte) :
    d.dramWrite a src line = (d.countBase (homeStack (cellOf d.failed (a / 64 * 64))) 8 1).write (a / 64 * 64) (padTo 64 line) := by
  unfold Dev.dramWrite
  rw [h]

theorem Dev.dramPartial_of_dram {d : Dev} {a : Nat} (h : d.region a = .dram) (hLine : d.lineX = []) (src : MemSrc) (bs : List Byte)
    (row : List (Fin 32 × Bool)) (copies : List (Nat × List Byte)) :
    d.dramPartial a src bs .clean row copies = ((d.countBase (homeStack (cellOf d.failed a)) 0 1).countBase
      (homeStack (cellOf d.failed a)) 8 1).write a (bs.take (64 - a % 64)) := by
  unfold Dev.dramPartial
  rw [h]
  dsimp only
  rw [Dev.lineOutcome_of_nil (d := (d.countBase _ 0 1).countBase _ 8 1) hLine]

theorem Dev.larPartial_of_nil {d : Dev} (h : d.wordX = []) (p req off : Nat) (bs : List Byte) (copies : List (Nat × List Byte)) :
    d.larPartial p req off bs .clean copies = d.write (larderAddr p off) (bs.take (32 - off % 32)) := by
  unfold Dev.larPartial
  rw [h]
  rfl

@[simp] theorem Dev.write_regs (d : Dev) (a : Nat) (bs : List Byte) : (d.write a bs).regs = d.regs := by
  unfold Dev.write
  repeat' split
  all_goals rfl

@[simp] theorem Dev.write_via (d : Dev) (a : Nat) (bs : List Byte) : (d.write a bs).via = d.via := by
  unfold Dev.write
  repeat' split
  all_goals rfl

/-- Settles O33: each command is one write at an address whose range holds data; what it counts beside leaves memory alone. -/
theorem memoryWritesStoreExactly : Obligations.MemoryWritesStoreExactly := by
  intro s hwf hLine hWord
  refine ⟨fun a src line hDram => ?_, fun a src bs row copies hDram => ?_, fun p req a bs copies => ?_, fun p a bs hClosed => ?_⟩
  · have hRange : (s.dev.decoded src).rangeData (a.toNat / 64 * 64) (padTo 64 line).length = true := by
      rw [length_padTo]
      exact Dev.rangeData_of_dram (Dev.dramEnd_line ((Dev.region_eq_dram_iff _ _).mp hDram))
    refine ⟨_, rfl, ?_⟩
    dsimp only
    rw [show ((s.dev.withVia (srcDie src)).dramWrite a.toNat src line) = _ from Dev.dramWrite_of_dram hDram src line]
    generalize homeStack _ = x
    exact Dev.stores_of_write (d := (s.dev.decoded src).countBase x 8 1) hwf hLine hWord hRange rfl (Dev.write_regs ..) rfl
  · have hRange : (s.dev.decoded src).rangeData a.toNat (bs.take (64 - a.toNat % 64)).length = true := by
      have := Dev.dramEnd_line ((Dev.region_eq_dram_iff _ _).mp hDram)
      refine Dev.rangeData_of_dram ?_
      rw [List.length_take]
      omega
    refine ⟨_, rfl, ?_⟩
    dsimp only
    rw [show ((s.dev.withVia (srcDie src)).dramPartial a.toNat src bs .clean row copies) = _ from
      Dev.dramPartial_of_dram hDram hLine src bs row copies]
    generalize homeStack _ = x
    exact Dev.stores_of_write (d := ((s.dev.decoded src).countBase x 0 1).countBase x 8 1) hwf hLine hWord hRange rfl (Dev.write_regs ..) rfl
  · have hRange : s.dev.rangeData (larderAddr p a.toNat) (bs.take (32 - a.toNat % 32)).length = true := by
      have := a.isLt
      refine Dev.rangeData_of_tile _ p.isLt ?_
      rw [List.length_take]
      omega
    refine ⟨_, rfl, ?_⟩
    dsimp only
    rw [Dev.larPartial_of_nil hWord]
    exact Dev.stores_of_write hwf hLine hWord hRange rfl (Dev.write_regs ..) (Dev.write_via ..)
  · have hRange : s.dev.rangeData (acbAddr p a.toNat) (bs.take (0x800000 - a.toNat)).length = true := by
      have := a.isLt
      rw [acbAddr, Nat.add_assoc]
      refine Dev.rangeData_of_tile _ p.isLt ?_
      rw [List.length_take]
      omega
    refine ⟨_, rfl, ?_⟩
    dsimp only
    rw [hClosed, if_neg (by decide)]
    exact Dev.stores_of_write hwf hLine hWord hRange rfl (Dev.write_regs ..) (Dev.write_via ..)

end Sys2Proof.Machine

/-! The commands of the vector unit (R250–R252): one that starts and whose operands and slot read well has its effect and completes. -/

namespace Sys2Proof.Machine

/-- A unit's command whose checks pass has its effect (R236, R258). -/
theorem Dev.runUnit_checked {d : Dev} {p u : Nat} {sel : Desc → Bool} {i : Issued} (h : d.Starts p u sel i) {chk : Issued → Dev → Chk}
    (hChk : chk i (d.leaveQueue p i) = none) (eff : Issued → Dev → Dev) :
    (d.runUnit p u sel (fun i d => d.startChecked p i (chk i d) (eff i))).liftHold p = d.ranUnit p i (eff i) := by
  rw [Dev.runUnit_starts h]
  refine Dev.ranUnit_congr ?_
  rw [hChk, Dev.startChecked_none]

theorem Dev.tensor_of_has {d : Dev} {p o : Nat} {os : List Nat} (h : d.has p os) (ho : o ∈ os) : ∃ t, d.tensor p o = some t :=
  Option.isSome_iff_exists.mp (h o ho)

/-! ## Elementwise operations and functions -/

theorem Dev.vecMap_of_tensor {d : Dev} {p : Nat} {x : Desc} {t : Tensor} (ht : d.tensor p x.vDstRef = some t) (f : XR → XR → XR → XR) :
    d.vecMap p x f = d.vecWrite p x t (d.elements p x f) := by
  unfold Dev.vecMap
  rw [ht]
  rfl

theorem elementVec_of_exec {c : Tile → Instr} {op : Nat} {f : Desc → XR → XR → XR → XR}
    (hExec : ∀ p s, exec (c p) s = run (fun d => d.vecRun p op noChk (fun x d => d.vecMap p x (f x))) s) : ElementVec c op f := by
  intro p s i t h ht
  rw [hExec]
  refine run_eq ?_
  rw [Dev.vecRun_starts h _ rfl]
  refine Dev.ranUnit_congr ?_
  rw [Dev.vecMap_of_tensor ht]

theorem functionVec_of_exec {c : Tile → Instr} {op : Nat} {f : XR → XR}
    (hExec : ∀ p s, exec (c p) s = run (fun d => d.vecRun p op noChk (fun x d => d.vecFun p x f)) s) : FunctionVec c op f :=
  fun p s i t h ht => elementVec_of_exec (f := fun _ a _ _ => f a) hExec p s i t h ht

/-- Settles O24: each elementwise VEC maps its operation over the elements of A, B and C. -/
theorem elementVecsComplete : Obligations.ElementVecsComplete :=
  ⟨elementVec_of_exec fun _ _ => rfl, elementVec_of_exec fun _ _ => rfl, elementVec_of_exec fun _ _ => rfl,
    elementVec_of_exec fun _ _ => rfl, elementVec_of_exec fun _ _ => rfl, elementVec_of_exec fun _ _ => rfl⟩

/-- Settles O25: each VEC of a function maps it over the elements of A. -/
theorem functionVecsComplete : Obligations.FunctionVecsComplete :=
  ⟨functionVec_of_exec fun _ _ => rfl, functionVec_of_exec fun _ _ => rfl, functionVec_of_exec fun _ _ => rfl,
    functionVec_of_exec fun _ _ => rfl, functionVec_of_exec fun _ _ => rfl⟩

/-! ## Operations over rows and into slots -/

theorem rowVec_of_exec {c : Tile → Instr} {op : Nat} {pre : Dev → Nat → Desc → Prop} {eff : Dev → Nat → Desc → Dev}
    (hExec : ∀ p s, exec (c p) s = run (fun d => d.vecRun p op noChk (fun x d => eff d p x)) s) : RowVec c op pre eff := by
  intro p s i h _
  rw [hExec]
  exact run_eq (Dev.vecRun_starts h _ rfl)

/-- A VEC into a slot that takes additions and whose words read well adds its contributions, then does what follows them (R168, R178). -/
theorem Dev.vecSlotRun_starts {d e' : Dev} {p op : Nat} {i : Issued} {cs : Desc → Dev → Nat → Nat → List Contrib} (after : Desc → Dev → Dev)
    (h : d.VecStarts p op i) (hSlot : (d.leaveQueue p i).slotChk p i.desc = none)
    (hRead : (d.leaveQueue p i).slotRead p (i.desc.vImm0 % 256) .clean = (d.leaveQueue p i, none))
    (hAdd : (d.leaveQueue p i).slotAdd p (i.desc.vImm0 % 256) (((d.leaveQueue p i).gIn p i.desc.vImm1).getD 0) i.desc.mb
      (cs i.desc (d.leaveQueue p i)) = e')
    (hOn : e'.flag ENG_STATUS.HALTED p = false) :
    d.vecSlotRun p op .clean cs after = d.ranUnit p i (fun d =>
      ((after i.desc e').item p 3 i.desc 0 (d.slotAcct p i.desc (cs i.desc d))).finish p i) := by
  obtain ⟨hHead, hKind, hReads⟩ := h
  unfold Dev.vecSlotRun
  refine (Dev.runUnit_checked ⟨hHead, hKind⟩ ?_ _).trans (Dev.ranUnit_congr ?_)
  · rw [hSlot, hReads, firstOf_none_cons, firstOf_none_single]
  · dsimp only
    rw [Dev.vecSlot_clean hRead, hAdd, hOn]
    rfl

/-- Settles O26: each VEC over rows has its effect once its reads are good; RMSNORM_BWD adds into its slot first. -/
theorem rowVecsComplete : Obligations.RowVecsComplete := by
  refine ⟨rowVec_of_exec fun _ _ => rfl, fun p s i h hSlot hRead hOn => ?_, rowVec_of_exec fun _ _ => rfl, rowVec_of_exec fun _ _ => rfl,
    rowVec_of_exec fun _ _ => rfl, rowVec_of_exec fun _ _ => rfl, rowVec_of_exec fun _ _ => rfl, rowVec_of_exec fun _ _ => rfl,
    rowVec_of_exec fun _ _ => rfl, rowVec_of_exec fun _ _ => rfl⟩
  exact run_eq (f := fun d => d.vecSlotRun p 0x11 .clean (fun x d => d.gammaContrib p x) (fun x d => d.rmsnormBwd p x))
    (Dev.vecSlotRun_starts _ h hSlot hRead rfl hOn)

/-- What SLOT_ADD contributes to element (r, c): A's element there. -/
def Dev.addContrib (d : Dev) (p : Nat) (x : Desc) (r c : Nat) : List Contrib :=
  if r < x.vRows ∧ c < x.vCols then [⟨rw (d.vElem p x.vA r c), false⟩] else []

/-- What SLOT_IDX_ADD contributes to element (r, c): column c of every row of A whose index is r. -/
def Dev.idxContrib (d : Dev) (p : Nat) (x : Desc) (r c : Nat) : List Contrib :=
  if c < x.vCols then
    ((List.range x.vRows).zip (d.idxList p x)).filterMap (fun j =>
      if j.2 = (r : Int) then some ⟨rw (d.vElem p x.vA j.1 c), false⟩ else none)
  else []

/-- What SLOT_IDX_ADD does after its additions: an index outside the slot's rows is told. -/
def Dev.tellIdxRange (d : Dev) (p : Nat) (x : Desc) : Dev :=
  let rows := d.fld ACB_SLOT_GEOM.ROWS p (x.vImm0 % 256)
  if (d.idxList p x).any (fun i => decide (i < 0) || decide ((rows : Int) ≤ i)) then (d.setFld ACB_STATUS.IDX_RANGE 1 p).raise 0x7007 else d

/-- Settles O27: both commands are a VEC into a slot; SLOT_IDX_ADD then looks for an index outside the slot's rows. -/
theorem slotVecsComplete : Obligations.SlotVecsComplete := by
  intro p s i e x n g hSlot hRead
  constructor
  · intro h cs hOn
    refine run_eq (f := fun d => d.vecSlotRun p 0x28 .clean (fun x d => d.addContrib p x) (fun _ d => d)) ?_
    exact (Dev.vecSlotRun_starts (cs := fun x d => d.addContrib p x) (fun _ d => d) h hSlot hRead rfl hOn).trans (Dev.ranUnit_congr rfl)
  · intro h cs d' rows hOn
    refine run_eq (f := fun d => d.vecSlotRun p 0x29 .clean (fun x d => d.idxContrib p x) (fun x d => d.tellIdxRange p x)) ?_
    exact (Dev.vecSlotRun_starts (cs := fun x d => d.idxContrib p x) (fun x d => d.tellIdxRange p x) h hSlot hRead rfl hOn).trans (Dev.ranUnit_congr rfl)

/-- Settles O28: each update is checked, then updates its slice and completes. -/
theorem updatesComplete : Obligations.UpdatesComplete := by
  intro p s i ada e x h hChk _ _ _
  have hExec : exec (if ada then .updAda p else .updMom p) s = run (fun d => d.runUpdate p ada) s := by
    cases ada <;> rfl
  rw [hExec]
  exact run_eq (Dev.runUnit_checked h hChk _)

end Sys2Proof.Machine

/-! The commands of the arrays, the shunter, the sieve and the control unit (R244–R257, R320–R330), and the work a tile owes its check
groups (R126–R140): each whose checks pass has its effect. -/

namespace Sys2Proof.Machine

/-- A command is its meaning's device, put back. -/
theorem next_congr {s : State} {d e : Dev} (h : d = e) : (Host.Outcome.next (s.put d) : Host.Outcome State Fault Refusal) = .next (s.put e) :=
  h ▸ rfl

/-! ## The shunter -/

theorem Dev.runShn_starts {d : Dev} {p kind : Nat} {rd : ReadOutcome} {i : Issued} (h : d.Starts p 4 (isShn kind) i)
    (hSlot : i.desc.sFromSlot = true → (d.leaveQueue p i).readMisuse p i.desc.sSlot = none)
    (hSeal : ((d.leaveQueue p i).shnSeal p i.desc rd).2 = none)
    (hReads : (d.leaveQueue p i).readErrors ((d.leaveQueue p i).shnReads p i.desc (planOf i.plan)) = none) :
    d.runShn p kind rd = d.ranUnit p i (fun d => (d.shnSeal p i.desc rd).1.shunt p i) := by
  unfold Dev.runShn
  refine (Dev.runUnit_checked h ?_ _).trans (Dev.ranUnit_congr ?_)
  · split
    · exact hSlot ‹_›
    · rfl
  · dsimp only
    rw [hSeal, hReads, firstOf_none_cons, firstOf_none_single, Dev.startChecked_none]

/-- Settles O29: the three kinds are one command whose slot is sealed, and whose sources are read, before its moves. -/
theorem shuntsComplete : Obligations.ShuntsComplete := by
  intro p rd s i kind e x h hSlot hSeal hReads
  have hRun : ∀ k : Nat, k = kind.val → s.dev.runShn p k rd = s.dev.ranUnit p i (fun d => (d.shnSeal p x rd).1.shunt p i) :=
    fun k hk => hk ▸ Dev.runShn_starts h hSlot hSeal hReads
  match kind with
  | 0 => exact next_congr (hRun 0 rfl)
  | 1 => exact next_congr (hRun 1 rfl)
  | 2 => exact next_congr (hRun 2 rfl)

/-! ## Conversions -/

theorem Dev.cvtPlain_of_tensors {d : Dev} {p : Nat} {i : Issued} {src dst : Tensor} (hSrc : d.tensor p (i.desc.f 16 3) = some src)
    (hDst : d.tensor p (i.desc.f 19 3) = some dst) :
    d.cvtPlain p i =
      (let x := i.desc
       let rows := (d.cvtLive p x).map (fun r => (r, (List.range x.cCols).map (d.plainElem p x src dst r)))
       let cnt := rows.foldl (fun (c : RecCnt) r => c.addRow (r.2.map (·.2.2))) {}
       (((rows.foldl (fun (d : Dev) r => d.putCodes dst r.1 (r.2.map (·.1))) d).putRec p x.cStat
         (recBytes x (outDir x 1 false) (fmtByte x.cDstFmt x.cRnd) 0 cnt 0 0 0 0)).item p 2 x 0
           ⟨narrowCycles rows.length x.cCols true, 0, []⟩).finish p i) := by
  unfold Dev.cvtPlain
  dsimp only
  rw [hSrc, hDst]

/-- Settles O23: each kind of CVT is checked and converts; the plain kind's operands are its two tensors. -/
theorem conversionsComplete : Obligations.ConversionsComplete := by
  intro p s i src dst e hSrc hDst
  refine ⟨fun h hChk => ?_, fun h hChk => ?_, fun h hChk => ?_⟩
  · exact next_congr ((Dev.runUnit_checked (chk := fun i d => d.readErrors (d.cvtReads p i.desc)) h hChk fun i d => d.cvtPlain p i).trans
      (Dev.ranUnit_congr (Dev.cvtPlain_of_tensors hSrc hDst)))
  · exact next_congr (Dev.runUnit_checked (chk := fun i d => d.narrowChk p i.desc) h hChk fun i d => d.cvtNarrow p i)
  · exact next_congr (Dev.runUnit_checked (chk := fun i d => d.weightChk p i.desc) h hChk fun i d => d.cvtWeight p i)

/-! ## The products -/

/-- The array part of an FMM that no hard fault stops. -/
theorem Dev.fmmRun_whole {d : Dev} {p : Nat} {faults : List ArrayFault} {i : Issued} {tx tw ty : Tensor}
    (hX : d.tensor p (i.desc.f 16 3) = some tx) (hW : d.tensor p (i.desc.f 19 3) = some tw) (hY : d.tensor p (i.desc.f 22 3) = some ty)
    (hHard : (d.arrayFaults p fRegs i.desc i.desc.walk.kb i.desc.walk.blocks (if i.desc.walk.empty then [] else faults)).2 = none) :
    d.fmmRun p faults i =
      (let x := i.desc
       let rows := d.fmmRows p x tx tw (d.tensor p (x.f 25 3)) (d.tensor p (x.f 28 3))
       let d' := (d.arrayFaults p fRegs x x.walk.kb x.walk.blocks (if x.walk.empty then [] else faults)).1
       ((d'.fmmStore p ty x.walk none false rows).item p 0 x 0 (d.fmmCycles p x faults)).fmmEnd p i rows) := by
  unfold Dev.fmmRun
  dsimp only
  rw [hX, hW, hY]
  dsimp only
  rw [hHard]
  rfl

/-- Settles O20: a pinned member is skipped; any other FMM's reads are checked, then its array part runs whole. -/
theorem forwardProductCompletes : Obligations.ForwardProductCompletes := by
  intro p faults s i h e x pinned
  have hRun : ∀ eff : Dev → Dev, (if x.chkEn && (e.tile p).pinnedGroup i.n then
        ((e.modTile p (fun t => { t with fbs := t.fbs ++ [i.n] })).finish p i).memberDone p i.n
      else e.startChecked p i (e.readErrors (e.fmmReads p x)) (fun d => d.fmmRun p faults i)) = eff e →
      exec (.fmm p faults) s = .next (s.put (s.dev.ranUnit p i eff)) := fun eff hEff =>
    next_congr ((Dev.runUnit_starts h _).trans (Dev.ranUnit_congr hEff))
  refine ⟨fun hPin => hRun _ (if_pos hPin), fun tx tw ty hPin hReads hX hW hY hHard => hRun _ ?_⟩
  rw [if_neg (ne_true_of_eq_false hPin), hReads, Dev.startChecked_none]
  exact Dev.fmmRun_whole hX hW hY hHard

theorem Dev.slotRead_clean {d : Dev} {p n : Nat} (h : (d.slotRead p n .clean).2 = none) : d.slotRead p n .clean = (d, none) := by
  unfold Dev.slotRead at h ⊢
  dsimp only at h ⊢
  split at h
  · rw [if_pos ‹_›]
  · rw [if_neg ‹_›]
    exact congrArg (Prod.mk d) h

/-- A BMM's work whose operands, exponent and slot read well is its walk. -/
theorem Dev.bmmRun_good {d : Dev} {p : Nat} {faults : List ArrayFault} {rd : ReadOutcome} {i : Issued} {ovr : Option Int} {tg tn : Tensor}
    {g : Int} (hG : d.tensor p (i.desc.f 16 3) = some tg) (hN : d.tensor p (i.desc.f 19 3) = some tn) (hIn : d.gIn p i.desc.bGRec = some g)
    (hReads : d.readErrors (d.bmmReads p i.desc) = none)
    (hSlot : i.desc.bSlotDest = true → i.desc.walk.empty = false → d.addMisuse p i.desc.bSlot = none ∧ d.slotRead p i.desc.bSlot rd = (d, none)) :
    d.bmmRun p faults rd i ovr = d.bmmWalk p faults i tg tn g ovr := by
  have hMisuse : (if i.desc.bSlotDest ∧ !i.desc.walk.empty then d.addMisuse p i.desc.bSlot else none) = none := by
    split
    · rename_i hTo
      exact (hSlot hTo.1 (by simpa using hTo.2)).1
    · rfl
  have hRead : (if i.desc.bSlotDest ∧ !i.desc.walk.empty then d.slotRead p i.desc.bSlot rd else (d, none)) = (d, none) := by
    split
    · rename_i hTo
      exact (hSlot hTo.1 (by simpa using hTo.2)).2
    · rfl
  unfold Dev.bmmRun
  dsimp only
  rw [hG, hN]
  dsimp only
  rw [hMisuse, hIn, hReads, hRead]
  rfl

/-- Settles O21: the checks of a BMM that reads well leave its walk. -/
theorem backwardProductCompletes : Obligations.BackwardProductCompletes := by
  intro p faults rd s i h e x tg tn g hG hN hIn hReads _ hSlot
  refine next_congr ((Dev.runUnit_starts h _).trans (Dev.ranUnit_congr ?_))
  refine Dev.bmmRun_good hG hN hIn hReads fun hTo hWalk => ?_
  obtain ⟨hMisuse, rfl, hRead⟩ := hSlot hTo hWalk
  exact ⟨hMisuse, Dev.slotRead_clean hRead⟩

end Sys2Proof.Machine

/-! The queue of an engine: fetch and dispatch (R221–R235), SYN, CHK and MRK (R255–R257), and the writes of an engine's registers that act
(R181, R217, R240, R259). -/

namespace Sys2Proof.Machine

@[simp] theorem Dev.setTile_tile (d : Dev) (p : Nat) (t : TileSt) : (d.setTile p t).tile p = t := tget_tset_same _ _ _ _
@[simp] theorem Dev.setFld_tile (d : Dev) (f : Fld) (v i j p : Nat) : (d.setFld f v i j).tile p = d.tile p := id rfl

/-- Settles O15: SYN runs once its earlier commands have completed, CHK where its value matches, MRK on a region that reads well. -/
theorem controlCommandsComplete : Obligations.ControlCommandsComplete := by
  intro p s i e x
  refine ⟨fun h => next_congr (Dev.runUnit_starts h _), ?_, ?_⟩
  · intro t h ht a len poly got hRead hGot
    refine next_congr ((Dev.runUnit_starts h _).trans (Dev.ranUnit_congr ?_))
    have hBase : ((e.tensor p (x.f 17 3)).map (·.base)).getD 0 = t.base := by rw [ht]; rfl
    have hGood : decide (got ≠ x.f 30 8 % 2 ^ poly.width) = false := decide_eq_false (not_not_intro hGot)
    dsimp only
    rw [hBase, hRead, Dev.startChecked_none, hGood]
    rfl
  · intro h hRead
    refine next_congr ((Dev.runUnit_starts h _).trans (Dev.ranUnit_congr ?_))
    dsimp only
    rw [hRead, Dev.startChecked_none]

/-- Settles O17: each write is one branch of its register's meaning. -/
theorem engineWritesAct : Obligations.EngineWritesAct := by
  intro p s
  refine ⟨fun v hOpen hv => ?_, fun v hOpen hv => ?_, fun hLimit hIdle => ?_, fun v hv hFlush => ?_, fun hFlush => ?_, fun v hv hUse => ?_⟩
  · refine next_congr ((if_pos hOpen).trans (if_neg ?_))
    rw [hv]
    decide
  · exact next_congr ((if_neg (ne_true_of_eq_false hOpen)).trans (if_pos hv))
  · exact next_congr (if_neg (not_or.mpr ⟨hLimit, ne_true_of_eq_false hIdle⟩))
  · exact next_congr (if_pos ⟨hv, by rw [hFlush]; rfl⟩)
  · exact next_congr (if_pos hFlush)
  · exact next_congr (if_pos ⟨hv, by rw [hUse]; rfl⟩)

/-! ## Fetch and dispatch -/

/-- The command that the descriptor at place n of a list becomes (R223, R231). -/
def Dev.fetched1 (d : Dev) (p : Nat) (x : Desc) : Issued :=
  ⟨(d.tile p).nextN, x, if x.opcode = 0x50 then d.bytes (unit64 p x.sPlan) 128 else [], d.namedRecs p x⟩

/-- A good descriptor in sequence is dispatched (R223–R226, R235). -/
theorem Dev.fetchOne_good {d : Dev} {p addr : Nat} {x : Desc} {gs : List Group} (hRead : d.readError (addr + 64 * (d.tile p).fetchPos) 64 = none)
    (hx : Desc.ofBytes (d.bytes (addr + 64 * (d.tile p).fetchPos) 64) = x) (hOk : x.checkOk = true) (hSeq : x.seq = d.fld ENG_STATUS.EXP_SEQ p)
    (hStatic : d.staticCheck p x = none) (hMrk : x.opcode ≠ 0x7F)
    (hRoom : ((d.tile p).issue.filter (fun j => unitOf j.desc.opcode == some ((unitOf x.opcode).getD 6))).length < 16)
    (hGroup : dispatchGroup (d.tile p).groups (d.fetched1 p x) = .ok gs) :
    d.fetchOne p addr none = ((d.setTile p { d.tile p with
      groups := gs, issue := (d.tile p).issue ++ [d.fetched1 p x], nextN := (d.tile p).nextN + 1, fetchPos := (d.tile p).fetchPos + 1
      hold := (d.tile p).hold }).setFld ENG_STATUS.EXP_SEQ (x.seq + 1) p, true) := by
  have hHolds : (x.opcode == 0x7F && bitOf (x.f 22 1) 0) = false := by simp [hMrk]
  unfold Dev.fetchOne
  dsimp only
  rw [hRead]
  dsimp only
  rw [hx, hOk, if_neg (by decide), if_neg (show ¬(none : Option Bool) = some false by decide), if_neg (not_not_intro hSeq), hStatic]
  dsimp only
  rw [if_neg (by omega)]
  unfold Dev.fetched1 at hGroup ⊢
  rw [hGroup]
  dsimp only
  rw [hHolds, ← hSeq]
  rfl

/-- Settles O14: the one descriptor of the entry is dispatched, and the list is then at its end. -/
theorem queueEntryIsDispatched : Obligations.QueueEntryIsDispatched := by
  intro p s gs d t head bs x i hMay hCrc hCount hPos hRead hOk hSeq hStatic hMrk hRoom hGroup
  have hPos' : (d.tile p).fetchPos = 0 := hPos
  have hAddr : fieldAt bs 0 6 + 64 * (d.tile p).fetchPos = fieldAt bs 0 6 := by rw [hPos']; rfl
  have hOne := Dev.fetchOne_good (d := d) (p := p) (addr := fieldAt bs 0 6) (x := x) (gs := gs) (hAddr.symm ▸ hRead) (by rw [hAddr]) hOk hSeq
    hStatic hMrk hRoom hGroup
  have hLoop : d.fetchLoop p (fieldAt bs 0 6) 1 [] 128 = (d.setTile p { t with
      groups := gs, issue := t.issue ++ [i], nextN := t.nextN + 1, fetchPos := 1 }).setFld ENG_STATUS.EXP_SEQ (x.seq + 1) p := by
    rw [Dev.fetchLoop]
    dsimp only
    rw [if_neg (by omega), show (([] : List (Nat × Bool)).find? (fun e => e.1 == (d.tile p).fetchPos)).map (·.2) = none from rfl, hOne, hPos']
    dsimp only
    rw [if_pos rfl, Dev.fetchLoop]
    dsimp only
    rw [if_pos (by simp)]
    rfl
  refine next_congr ?_
  change s.dev.queueFetch p [] = _
  unfold Dev.queueFetch
  rw [hMay]
  dsimp only
  rw [if_neg (by decide), if_neg (not_not_intro hCrc), hCount, hLoop, if_pos (by simp)]

end Sys2Proof.Machine

/-! The work that a tile owes its check groups (R126–R140, R172), each piece where it stands first. -/

namespace Sys2Proof.Machine

/-- A shadow tile that no hard fault stops is compared (R126, R128). -/
theorem Dev.shadowTile_whole {d : Dev} {p n k : Nat} {faults : List ArrayFault} {i : Issued} {src : Tensor} {cols : Nat}
    (hNext : (d.tile p).nextShadow = some (n, k)) (hPre : d.preImage p n = some (src, cols))
    (hCmd : ((d.tile p).groupOf n).bind (fun g => g.cmds.find? (·.n == n)) = some i)
    {frozen : Bool} (hFrozen : ((d.workAs p i.recs).tensor p (i.desc.f 54 3)).isNone = frozen) {e : Dev}
    (hWork : (d.workAs p i.recs).bWork p 1 (if i.desc.fForm = 3 then 0 else i.desc.fForm) (!frozen) = e)
    {nb : Nat} (hBlocks : cdiv (128 * cdiv i.desc.fK 128) 256 = nb) (hHard : (e.arrayFaults p bRegs i.desc nb nb faults).2 = none) :
    d.shadowTile p faults = ((e.arrayFaults p bRegs i.desc nb nb faults).1.item p 1 i.desc 1
      ⟨24 + 256 + (if frozen then 128 else 256) * nb + 76, 0, repeatStall ((if frozen then 128 else 256) * repeated nb nb faults)⟩).shadowEnd
        p n k i.desc src cols := by
  unfold Dev.shadowTile
  dsimp only
  rw [hNext]
  dsimp only
  rw [hCmd, hPre]
  dsimp only
  rw [hFrozen, hWork, hBlocks, hHard]
  rfl

/-- A fallback that no hard fault stops stores its outputs (R131, R133). -/
theorem Dev.fallback_whole {d : Dev} {p n : Nat} {rest : List Nat} {faults : List ArrayFault} {g : Group} {i : Issued} {src : Tensor} {cols : Nat}
    (hFbs : (d.tile p).fbs = n :: rest) (hGroup : (d.tile p).groupOf n = some g) (hPre : d.preImage p n = some (src, cols))
    (hCmd : g.cmds.find? (·.n == n) = some i) {w : Walk} (hWalk : { i.desc.walk with form := if i.desc.fForm = 3 then 0 else i.desc.fForm } = w)
    {frozen : Bool} (hFrozen : ((d.workAs p i.recs).tensor p (i.desc.f 54 3)).isNone = frozen) {e : Dev}
    (hWork : (d.workAs p i.recs).bWork p 2 (if i.desc.fForm = 3 then 0 else i.desc.fForm) (!frozen) = e)
    (hHard : (e.arrayFaults p bRegs i.desc w.kb w.blocks (if w.empty then [] else faults)).2 = none) :
    d.fallback p faults = (((e.arrayFaults p bRegs i.desc w.kb w.blocks (if w.empty then [] else faults)).1.item p 1 i.desc 2
      ⟨fallbackCycles i.desc frozen, 0, repeatStall ((if frozen then 128 else 256) * repeated w.kb w.blocks faults)⟩).modTile p
        (fun t => { t with fbs := rest })).fallbackEnd p g i.desc src cols := by
  subst hWalk hFrozen hWork
  unfold Dev.fallback
  dsimp only
  rw [hFbs]
  dsimp only
  rw [hGroup, hPre]
  dsimp only
  rw [hCmd]
  dsimp only
  rw [hHard]
  rfl

/-- Settles O22: each command finds its piece of work and has its effect. -/
theorem groupWorkCompletes : Obligations.GroupWorkCompletes := by
  intro p s
  refine ⟨fun j rest tx tw ty _ => fun _ _ _ => rfl, ?_, ?_, ?_, ?_, ?_, ?_⟩
  · intro faults n k i src cols hNext hPre hCmd e frozen d per nb hHard
    exact next_congr (Dev.shadowTile_whole hNext hPre hCmd rfl rfl rfl hHard)
  · intro faults n rest g i src cols hFbs hGroup hPre hCmd x w e frozen d r hHard
    exact next_congr (Dev.fallback_whole hFbs hGroup hPre hCmd rfl rfl rfl hHard)
  · intro faults r rest hFbs hShadow hReruns
    refine next_congr (congrArg (Dev.liftHold · p) ?_)
    unfold Dev.rerun
    dsimp only
    rw [hFbs, hShadow, if_neg (by decide), hReruns]
  · intro g hNext hPin bits n close d
    refine next_congr ?_
    change s.dev.evaluateGroup p = _
    unfold Dev.evaluateGroup
    dsimp only
    rw [hNext]
    dsimp only
    rw [hPin]
    rfl
  · intro k g hNext hFwd
    refine next_congr ?_
    change s.dev.signalGroup p = _
    unfold Dev.signalGroup
    dsimp only
    rw [hNext]
    dsimp only
    rw [if_pos hFwd]
  · intro y ya rnd nsat i ta ty hCmd e hA hY x rm rows
    refine next_congr ?_
    change s.dev.adapterAdd p y.toNat ya.toNat rnd.toNat nsat = _
    unfold Dev.adapterAdd
    dsimp only
    rw [hCmd, hA]
    dsimp only
    rw [hY]

end Sys2Proof.Machine

/-! The exchange primitives (R353–R365): how they start, how their packets are taken, and their timers. -/

namespace Sys2Proof.Machine

/-- What a started exchange does with what it has opened decides what it leaves. -/
theorem Dev.ranXch_congr {d : Dev} {p : Nat} {i : Issued} {f g : Xch → Dev → Dev}
    (h : f ((d.leaveQueue p i).openXch p i).1 ((d.leaveQueue p i).openXch p i).2 =
      g ((d.leaveQueue p i).openXch p i).1 ((d.leaveQueue p i).openXch p i).2) : d.ranXch p i f = d.ranXch p i g :=
  congrArg Dev.rduSync (Dev.ranUnit_congr h)

/-- Settles O37: the checks passed, each primitive starts as it finds its CTS or its slot. -/
theorem exchangesStart : Obligations.ExchangesStart := by
  intro p s i cts
  have hFind : (((s.dev.leaveQueue p i).openXch p i).2.tile p).cts.find?
      (fun c => c.isFor ((s.dev.leaveQueue p i).openXch p i).1.desc) = cts := rfl
  refine ⟨fun rd h hCts => ?_, fun rd c h hCts => ?_, fun h => next_congr (Dev.runXch_starts h _), ?_⟩
  · refine next_congr ((Dev.runXch_starts h _).trans (Dev.ranXch_congr ?_))
    rw [hFind, hCts]
  · refine next_congr ((Dev.runXch_starts h _).trans (Dev.ranXch_congr ?_))
    rw [hFind, hCts]
  · intro rd o h hSlot
    exact next_congr ((Dev.runXch_starts h _).trans (Dev.ranXch_congr (Dev.xchSlot_good hSlot _)))

/-! ## Packets -/

/-- A packet for another rank is sent on, unless the device is isolated (R349, R352). -/
theorem Dev.receive_other {d : Dev} {c : Nat} {pk : Packet} (h : pk.dst.toNat ≠ (d.fetched c pk).rank)
    (hIso : (d.fetched c pk).isolated = false) (stream : Option Bool) (rest : Dev → Dev) :
    d.receive c pk stream rest = (d.fetched c pk).forwardPacket c pk := by
  unfold Dev.fetched at *
  unfold Dev.receive
  dsimp only
  rw [if_pos h, if_neg (ne_true_of_eq_false hIso)]

theorem Dev.onPacket_other {d : Dev} {c : Nat} {pk : Packet} (h : pk.dst.toNat ≠ (d.fetched c pk).rank)
    (hIso : (d.fetched c pk).isolated = false) (rd : ReadOutcome) : d.onPacket c pk rd = (d.fetched c pk).forwardPacket c pk := by
  unfold Dev.onPacket
  split <;> exact Dev.receive_other h hIso _ _

/-- A DATA packet of a running RECV-INTO is delivered and acknowledged (R357). -/
theorem Dev.onData_taken {d e : Dev} {c p : Nat} {pk : Packet} {rd : ReadOutcome} {x : Xch} {r : Xch × Dev} (hTakes : d.Takes c pk (some true))
    (hTender : ¬(pk.group = 0 ∧ pk.tag = 0xFFFF)) (hXch : (d.took c pk).findXch pk [1] = some (p, x))
    (hFits : pk.offset.toNat + pk.nelem.toNat ≤ pk.total.toNat) (hTotal : pk.total.toNat = x.total)
    (hWork : (d.took c pk).workAs p x.recs = e) (hDeliver : (e.slotRed p x rd).deliverData p x pk = r) (hSlot : e.SlotGood p x rd)
    (hLands : r.2.Lands p r.1) :
    d.onData c pk rd = (let f := (r.2.afterLanding p r.1).accept c pk true false
      if r.1.delivered ≥ r.1.total then (f.xchRecord p r.1 r.1.sgR).doneXch p r.1 else f.settle p) := by
  unfold Dev.onData
  rw [Dev.receive_takes hTakes, if_neg hTender, hXch]
  dsimp only
  rw [if_neg (by omega), if_neg (not_not_intro hTotal), hWork, Dev.xchSlot_good hSlot, hDeliver, Dev.landed_lands hLands]

/-- Bytes of the ward's stream that fit their tender buffer are written there (R409). -/
theorem Dev.tenderIn_bytes {d : Dev} {c : Nat} {pk : Packet} (hValid : d.flag SVC_TENDER_CFG.VALID = true) (hWard : pk.src.toNat = d.ward)
    (hKind : pk.sg.toNat ≠ 3) (hLast : pk.isLast = false)
    (hFits : pk.offset.toNat + pk.payload.length ≤ (if pk.sg.toNat = 2 then d.wardProgram else d.wardBytes)) :
    d.tenderIn c pk =
      (let kind := pk.sg.toNat
       let b := if kind = 2 then 2 else if kind = 1 ∨ (kind = 6 ∧ d.committed % 2 ^ 32 = pk.total.toNat) then d.fld SVC_TENDER_CFG.TBUF
          else 1 - d.fld SVC_TENDER_CFG.TBUF
       ((d.fabricWrite (d.tenderAddr b pk.offset.toNat) pk.payload).settleFor 3).accept c pk true true) := by
  unfold Dev.tenderIn
  dsimp only
  rw [if_neg (by simp [hValid, hWard]), if_neg hKind, if_neg (by simp [hLast]), if_neg (Nat.not_lt.mpr hFits)]

/-- A PARTIAL of a running REDUCE-INTO is summed and passed on (R359). -/
theorem Dev.onPartial_taken {d : Dev} {c p : Nat} {pk : Packet} {rd : ReadOutcome} {x : Xch} (hTakes : d.Takes c pk (some true))
    (hXch : (d.took c pk).findXch pk [2] = some (p, x)) (hFits : pk.offset.toNat + pk.nelem.toNat ≤ pk.total.toNat)
    (hSame : redDiffers x pk = false) (hSlot : ((d.took c pk).useRecs p x.recs).SlotGood p x rd)
    (hRead : (((d.took c pk).useRecs p x.recs).slotRed p x rd).xReadError p x.desc pk.offset.toNat (pk.offset.toNat + pk.nelem.toNat) = none) :
    d.onPartial c pk rd =
      (let e := ((d.took c pk).useRecs p x.recs).slotRed p x rd
       let off := pk.offset.toNat
       let n := pk.nelem.toNat
       let m := e.member p x.desc.xGroup
       let eOut := min pk.exponent x.sg
       let ps := ((List.range n).zip (unwire pk)).map (fun v =>
         (wpow2 v.2.2 (eOut - pk.exponent), wpow2 (e.xValue p x.desc (off + v.1)) (eOut - x.sg)))
       let sums := ps.map (fun v => wadd v.1 v.2)
       let r := e.redFlags p c x ((ps.zip sums).any (fun v => v.1.1.isFin && v.1.2.isFin && !v.2.isFin)) (sums.any (·.isNan))
       let q := redChunk m.size x.total off
       let r := r.2.redRelease p (r.1.noteRead q n)
       let r := r.2.redPass p c r.1 (q = m.pos) off n sums eOut (pk.hop.toNat + 1)
       r.2.landed p r.1 (fun d => (d.accept c pk true false).redDone p r.1)) := by
  unfold Dev.onPartial
  rw [Dev.receive_takes hTakes, hXch]
  dsimp only
  rw [if_neg (Nat.not_lt.mpr hFits), if_neg (ne_true_of_eq_false hSame), Dev.xchSlot_good hSlot, hRead]

/-- A RESULT of a running REDUCE-INTO is sent on and delivered (R360). -/
theorem Dev.onResult_taken {d : Dev} {c p : Nat} {pk : Packet} {x : Xch} (hTakes : d.Takes c pk (some true))
    (hXch : (d.took c pk).findXch pk [2] = some (p, x)) (hFits : pk.offset.toNat + pk.nelem.toNat ≤ pk.total.toNat)
    (hSame : redDiffers x pk = false) :
    d.onResult c pk =
      (let e := (d.took c pk).useRecs p x.recs
       let off := pk.offset.toNat
       let m := e.member p x.desc.xGroup
       let q := redChunk m.size x.total off
       let vs := (unwire pk).map (·.2)
       let r := e.redFlags p c x false (vs.any (·.isNan))
       let r := if m.pos = (q + m.size - 1) % m.size then r
         else r.2.redSend p c r.1 false 5 off pk.nelem.toNat pk.payload pk.exponent pk.hop.toNat
       let r := r.2.redDeliver p r.1 off vs pk.exponent
       r.2.landed p r.1 (fun d => (d.accept c pk true false).redDone p r.1)) := by
  unfold Dev.onResult
  rw [Dev.receive_takes hTakes, hXch]
  dsimp only
  rw [if_neg (Nat.not_lt.mpr hFits), if_neg (ne_true_of_eq_false hSame)]

/-- The last acknowledgement of a SEND completes it (R363). -/
theorem Dev.onAck_last {d : Dev} {c p : Nat} {pk : Packet} {x : Xch} (hTakes : d.Takes c pk none) (hTender : ¬(pk.group = 0 ∧ pk.tag = 0xFFFF))
    (hXch : (d.took c pk).findXch pk [0, 2] = some (p, x)) (hPrim : x.prim = 0) (hStarted : x.started = true) (hSome : x.unacked ≠ [])
    (hLast : afterAck pk.pseq.toNat x.unacked = []) :
    d.onAck c pk =
      (let y := { x with unacked := [], held := x.held.filter (fun h => pk.pseq.toNat < h.2.pseq.toNat) }
       let inBuffer := fun (y : Xch) (c : Nat) => (y.held.filter (fun h => h.1 == c)).length
       let y := { y with
         resends := 0, rduResends := (List.range 16).foldl (fun m c => if inBuffer y c < inBuffer x c then tset 0 m c 0 else m) x.rduResends }
       ((d.took c pk).putXch p y).doneXch p y) := by
  have hFewer : ([] : List Packet).length < x.unacked.length := List.length_pos_iff.mpr hSome
  unfold Dev.onAck
  rw [Dev.receive_takes hTakes]
  dsimp only
  rw [if_neg hTender, hXch]
  dsimp only
  rw [hLast, if_pos hFewer, if_neg (by omega), if_pos ⟨hStarted, rfl⟩]

/-- Settles O38: each packet that is taken finds its exchange and has its effect; one for another rank is sent on. -/
theorem packetsAreTaken : Obligations.PacketsAreTaken := by
  intro c pk rd s
  refine ⟨?_, ?_, ?_, ?_, ?_, ?_, ?_, fun hDst hIso => next_congr (Dev.onPacket_other hDst hIso rd)⟩
  · intro pk d p x hTakes hTender hXch hFits hTotal e r hSlot hLands
    exact next_congr (Dev.onData_taken hTakes hTender hXch hFits hTotal rfl rfl hSlot hLands)
  · intro pk d kind hTakes hValid hWard hKind hLast hFits
    refine next_congr ((Dev.receive_takes hTakes _).trans ?_)
    rw [if_pos ⟨rfl, rfl⟩]
    exact Dev.tenderIn_bytes hValid hWard hKind hLast hFits
  · intro pk d p hTakes
    refine ⟨fun hXch hRoom => ?_, fun q x hXch hStarted => ?_⟩
    · refine next_congr ((Dev.receive_takes hTakes _).trans ?_)
      rw [hXch]
      dsimp only
      rw [if_neg (Nat.not_le.mpr hRoom)]
    · refine next_congr ((Dev.receive_takes hTakes _).trans ?_)
      rw [hXch]
      dsimp only
      rw [if_neg (ne_true_of_eq_false hStarted)]
  · intro pk d off n p x hTakes hXch hFits hSame e hSlot hRead m eOut ps sums r q r' r'' hLands
    exact next_congr ((Dev.onPartial_taken hTakes hXch hFits hSame hSlot hRead).trans (Dev.landed_lands hLands _))
  · intro pk d off p x hTakes hXch hFits hSame e m q vs r r' r'' hLands
    exact next_congr ((Dev.onResult_taken hTakes hXch hFits hSame).trans (Dev.landed_lands hLands _))
  · intro pk d p x hTakes hTender hXch hPrim hStarted hSome hLast y inBuffer y'
    exact next_congr (Dev.onAck_last hTakes hTender hXch hPrim hStarted hSome hLast)
  · intro pk d p x hTakes hXch
    refine next_congr ((Dev.receive_takes hTakes _).trans ?_)
    rw [hXch]

/-! ## Timers and alive counters -/

/-- Settles O39: each timer finds its exchange and sends again, or fails it. -/
theorem exchangeTimersAct : Obligations.ExchangeTimersAct := by
  intro s
  refine ⟨fun p k x hXch => ⟨fun hSome hLeft => ?_, fun hStall => ?_, fun hPrim hStarted => ?_⟩, fun c k p x hXch hLeft => ?_⟩
  · refine next_congr ?_
    change s.dev.e2eTimeout p k = _
    unfold Dev.e2eTimeout
    rw [hXch]
    dsimp only
    rw [if_neg (by simpa using hSome), if_neg (Nat.not_le.mpr hLeft)]
  · refine next_congr ?_
    change s.dev.xchStall p k = _
    unfold Dev.xchStall
    rw [hXch]
    exact if_neg hStall
  · refine next_congr ?_
    change s.dev.ctsResend p k = _
    unfold Dev.ctsResend
    rw [hXch]
    exact if_pos ⟨hPrim, by rw [hStarted]; rfl⟩
  · refine next_congr ?_
    change s.dev.rduTimeout c k = _
    unfold Dev.rduTimeout
    dsimp only
    rw [hXch]
    exact if_neg (Nat.not_le.mpr hLeft)

/-- Settles O41: the judgement compares a counter with the one expected and the one before it, modulo 256. -/
theorem aliveCountersAreJudged : Obligations.AliveCountersAreJudged := by
  refine ⟨fun a => rfl, fun e a he ha => ⟨fun h => ?_, fun h => ?_, fun h h' => ?_⟩⟩
  all_goals unfold aliveJudge; dsimp only
  · rw [if_pos h]
  · rw [if_neg (by omega), if_pos (by omega)]
  · rw [if_neg h, if_neg (by omega)]

end Sys2Proof.Machine

/-! Coupler lanes (R337–R341, R371): training, swaps, and the judgement of a window of symbol errors. -/

namespace Sys2Proof.Machine

/-! ## The judgement of a window (R340) -/

/-- The lane that counts most so far, the lowest of them. -/
def worseLane (n : Nat → Nat) (m : Option Nat) (j : Nat) : Option Nat :=
  match m with
  | none => some j
  | some k => if n j > n k then some j else m

theorem foldl_worseLane_stays {n : Nat → Nat} {j : Nat} {l : List Nat} (h : ∀ k ∈ l, n k ≤ n j) : l.foldl (worseLane n) (some j) = some j := by
  induction l with
  | nil => rfl
  | cons k l ih =>
    obtain ⟨hk, hl⟩ := List.forall_mem_cons.mp h
    rw [List.foldl_cons, worseLane, if_neg (Nat.not_lt.mpr hk), ih hl]

theorem foldl_worseLane_below {n : Nat → Nat} {b : Nat} {l : List Nat} (h : ∀ k ∈ l, n k < b) {m : Option Nat} (hm : ∀ k, m = some k → n k < b) :
    ∀ k, l.foldl (worseLane n) m = some k → n k < b := by
  induction l generalizing m with
  | nil => exact hm
  | cons i l ih =>
    obtain ⟨hi, hl⟩ := List.forall_mem_cons.mp h
    refine ih hl fun k hk => ?_
    unfold worseLane at hk
    split at hk
    · cases hk
      exact hi
    · split at hk
      · cases hk
        exact hi
      · exact hm k hk

/-- Over lanes in ascending order the fold ends at the lane that counts most, the lowest of them. -/
theorem foldl_worseLane {n : Nat → Nat} {l : List Nat} {j : Nat} (hSorted : l.Pairwise (· < ·)) (hj : j ∈ l)
    (hMost : ∀ k ∈ l, n k ≤ n j ∧ (n k = n j → j ≤ k)) : l.foldl (worseLane n) none = some j := by
  obtain ⟨a, b, rfl⟩ := List.append_of_mem hj
  have hBefore : ∀ k ∈ a, n k < n j := fun k hk => by
    have hkj : k < j := (List.pairwise_append.mp hSorted).2.2 k hk j (List.mem_cons_self ..)
    obtain ⟨hLe, hEq⟩ := hMost k (List.mem_append_left _ hk)
    exact Nat.lt_of_le_of_ne hLe fun h => absurd (hEq h) (by omega)
  have hHere : worseLane n (a.foldl (worseLane n) none) j = some j := by
    cases hm : a.foldl (worseLane n) none with
    | none => rfl
    | some k => exact if_pos (foldl_worseLane_below hBefore (by simp) k hm)
  rw [List.foldl_append, List.foldl_cons, hHere]
  exact foldl_worseLane_stays fun k hk => (hMost k (List.mem_append_right _ (List.mem_cons_of_mem _ hk))).1

/-- Replacing a lane leaves the limit by which lanes are judged. -/
theorem Dev.replaceLane_serMax (d : Dev) (c : Die) (j : Nat) : (d.replaceLane c j).fld CPL_CTRL.SER_MAX c = d.fld CPL_CTRL.SER_MAX c := by
  have hc : (c : Nat) < 255 := by omega
  have hDown : (d.portDown c).fld CPL_CTRL.SER_MAX c = d.fld CPL_CTRL.SER_MAX c := by
    unfold Dev.portDown
    rw [Dev.raise_fld _ _ _ _ _ ⟨show RegName.CPL_CTRL ∉ raisedRegs by decide, hc, Nat.zero_lt_succ _⟩]
    exact Dev.fld_setFld_key _ _ _ _ _ _ _ _ (RegId.key_ne_of_name (show RegName.CPL_CTRL ≠ .CPL_PORT_STATUS by decide)
      hc (Nat.zero_lt_succ _) hc (Nat.zero_lt_succ _))
  unfold Dev.replaceLane
  dsimp only
  split
  · rfl
  split
  · rfl
  split
  · rfl
  · exact hDown

/-- The lanes beyond the limit are replaced, one after the other. -/
theorem Dev.foldl_replaceLane (d : Dev) (c : Die) (n : Nat → Nat) (l : List Nat) :
    l.foldl (fun (d : Dev) j => if n j > d.fld CPL_CTRL.SER_MAX c then d.replaceLane c j else d) d =
      (l.filter (fun j => decide (d.fld CPL_CTRL.SER_MAX c < n j))).foldl (fun (d : Dev) j => d.replaceLane c j) d := by
  induction l generalizing d with
  | nil => rfl
  | cons j l ih =>
    rw [List.foldl_cons]
    by_cases hj : d.fld CPL_CTRL.SER_MAX c < n j
    · rw [if_pos hj, List.filter_cons_of_pos (by simpa using hj), List.foldl_cons, ih, Dev.replaceLane_serMax]
    · rw [if_neg hj, List.filter_cons_of_neg (by simpa using hj), ih]

/-- The corrected symbols of a lane in the window: those given and those of the flits received. -/
def Dev.windowCount (d : Dev) (c : Nat) (counts : List (Nat × Nat)) (j : Nat) : Nat :=
  ((counts.find? (fun e => e.1 = j)).map (·.2)).getD 0 + tget 0 (d.port c).corrected j

/-- The device once the window has been counted and a new one begun. -/
def Dev.newWindow (d : Dev) (c n : Nat) : Dev :=
  (d.bump CPL_LINK_COUNTS.FEC_UNCORR n c).setPort c { d.port c with corrected := [], uncorr := 0 }

def Dev.activeLanes (d : Dev) (c : Nat) : List Nat := (List.range 9).filter (fun j => d.lane c j == 2)

theorem Dev.activeLanes_sorted (d : Dev) (c : Nat) : (d.activeLanes c).Pairwise (· < ·) := List.Pairwise.filter _ List.pairwise_lt_range

theorem Dev.newWindow_fld (d : Dev) (c : Die) (n : Nat) {f : Fld} (h : f.reg ≠ .CPL_LINK_COUNTS) : (d.newWindow c n).fld f c = d.fld f c := by
  have hc : (c : Nat) < 255 := by omega
  exact congrArg f.get (Dev.reg_bump_name d CPL_LINK_COUNTS.FEC_UNCORR n c 0 ⟨f.reg, c, 0⟩ h ⟨hc, Nat.zero_lt_succ _⟩ hc (Nat.zero_lt_succ _))

theorem Dev.newWindow_activeLanes (d : Dev) (c : Die) (n : Nat) : (d.newWindow c n).activeLanes c = d.activeLanes c := by
  unfold Dev.activeLanes Dev.lane
  rw [Dev.newWindow_fld _ _ _ (by decide)]

/-- The window is judged on the lanes as they stood (R340): those beyond the limit are replaced, then the one that counts most where
there are too many uncorrectable codewords. -/
theorem Dev.serWindow_eq (d : Dev) (c : Die) (counts : List (Nat × Nat)) (n : Nat) :
    d.serWindow c counts n =
      (let e := ((d.activeLanes c).filter (fun j => decide (d.fld CPL_CTRL.SER_MAX c < d.windowCount c counts j))).foldl
        (fun (d : Dev) j => d.replaceLane c j) (d.newWindow c n)
       match (d.activeLanes c).foldl (worseLane (d.windowCount c counts)) none with
       | some j => if n + (d.port c).uncorr > 64 then e.replaceLane c j else e
       | none => e) := by
  rw [← Dev.newWindow_activeLanes d c n, ← Dev.newWindow_fld d c n (f := CPL_CTRL.SER_MAX) (by decide), ← Dev.foldl_replaceLane]
  rfl

theorem Dev.serWindow_few {d : Dev} {c : Die} {counts : List (Nat × Nat)} {n : Nat} {bad : List Nat} (hFew : n + (d.port c).uncorr ≤ 64)
    (hBad : (d.activeLanes c).filter (fun j => decide (d.fld CPL_CTRL.SER_MAX c < d.windowCount c counts j)) = bad) :
    d.serWindow c counts n = bad.foldl (fun (d : Dev) j => d.replaceLane c j) (d.newWindow c n) := by
  rw [Dev.serWindow_eq, hBad]
  dsimp only
  split
  · rw [if_neg (by omega)]
  · rfl

theorem Dev.serWindow_many {d : Dev} {c : Die} {counts : List (Nat × Nat)} {n j : Nat} (hMany : 64 < n + (d.port c).uncorr)
    (hBad : (d.activeLanes c).filter (fun j => decide (d.fld CPL_CTRL.SER_MAX c < d.windowCount c counts j)) = [])
    (hj : j ∈ d.activeLanes c) (hMost : ∀ k ∈ d.activeLanes c, d.windowCount c counts k ≤ d.windowCount c counts j ∧
      (d.windowCount c counts k = d.windowCount c counts j → j ≤ k)) :
    d.serWindow c counts n = (d.newWindow c n).replaceLane c j := by
  rw [Dev.serWindow_eq, hBad, foldl_worseLane (d.activeLanes_sorted c) hj hMost]
  exact if_pos hMany

/-- An ACTIVE lane of a port that is up, and has a STANDBY lane free, is asked to be swapped (R340, R341). -/
theorem Dev.replaceLane_asks {d : Dev} {c j : Nat} (hLane : d.lane c j = 2) (hUp : d.fld CPL_PORT_STATUS.STATE c = 2)
    (hSpare : (d.standby c).isSome = true) (hAgreed : (d.port c).agreed = []) (hSwap : (d.port c).swap = none ∨ (d.port c).swap = some j) :
    d.replaceLane c j = d.setPort c { d.port c with
      swap := some j, ctl := (d.port c).ctl ++ [.swapRequest (Fin.ofNat 8 ((d.logicalOf c j).getD 0))] } := by
  unfold Dev.replaceLane
  dsimp only
  rw [if_neg (by simp [hLane, hUp]), if_neg (by simp [hAgreed]), if_pos ⟨hSpare, by simp [hAgreed], hSwap⟩]

/-- Settles O35: each command is one branch of its port's meaning; a window is judged on the lanes as they stood. -/
theorem lanesTrainAndSwap : Obligations.LanesTrainAndSwap := by
  intro c s
  refine ⟨fun r hOn hDown hScan hLanes => ?_, fun v hOn hTrain => ?_, fun v _ hOff => ?_, fun lane hLane hUp hSpare hAgreed hSwap => ?_, ?_,
    fun lane hLane => ?_, ?_⟩
  · refine next_congr ((if_neg ?_).trans (if_pos hLanes))
    simp [hOn, hScan, hDown]
  · refine next_congr ((if_neg ?_).trans (if_pos (.inr hTrain)))
    rw [hOn]
    decide
  · exact next_congr (if_pos hOff)
  · exact next_congr (Dev.replaceLane_asks hLane hUp hSpare hAgreed hSwap)
  · intro e k hAgreed hSpare t j map d t' d'
    refine next_congr ?_
    change s.dev.laneSwap c = _
    unfold Dev.laneSwap
    dsimp only
    rw [hAgreed, hSpare]
  · exact next_congr ((if_neg (not_not_intro hLane)).trans (if_pos rfl))
  · intro counts n t cnt active bad e
    exact ⟨fun hBad hFew => next_congr (Dev.serWindow_few hFew hBad), fun j hBad hFew => next_congr (Dev.serWindow_few hFew hBad),
      fun j hBad hMany hj hMost => next_congr (Dev.serWindow_many hMany hBad hj hMost)⟩

end Sys2Proof.Machine

/-! Management messages that are heard (R385–R392, R400, R411): each taken by the rank that its type is for, where it acts. -/

namespace Sys2Proof.Machine

/-- The manager notes the READY of a message's sender (R391). -/
def Dev.noteReady (d : Dev) (m : Mgmt) (v : Nat × Nat × Nat × Nat) : Dev :=
  d.modPod (fun p => { p with ready := p.ready.filter (fun e => e.1 ≠ m.src.toNat) ++ [(m.src.toNat, v)] })

/-- Every rank that takes part has answered READY. -/
def Dev.allReady (d : Dev) : Bool := d.stepRanks.all (fun q => d.pod.ready.any (fun e => e.1 == q))

/-- The manager's decision on step n, sent to the standby first (R391). -/
def Dev.sendDecision (d : Dev) (n : Nat) : Dev :=
  let c := (n, d.decision.1, d.decision.2)
  let d := d.modPod (fun p => { p with committing := some c })
  match d.standbyRank with
  | some q => d.sendCommit [q] c
  | none => d.sendCommit d.stepRanks c

/-- READY on the manager, while the step that it names is open and neither aborted nor decided (R391). -/
theorem Dev.onReady_taken {d e : Dev} {m : Mgmt} (hMgr : d.isManager = true)
    (he : d.settled (fun w => isStart w.body && w.dst.toNat == m.src.toNat) = e) (hOpen : e.stepOpen = true)
    (hStep : m.step.toNat = e.committed + 1) (hAbort : e.pod.aborting = none) (hCommit : e.pod.committing = none)
    (hRank : e.stepRanks.contains m.src.toNat = true) (a b x y : Nat) :
    d.onReady m a b x y = if (e.noteReady m (a, b, x, y)).allReady then (e.noteReady m (a, b, x, y)).sendDecision m.step.toNat
      else e.noteReady m (a, b, x, y) := by
  have hMgr' : e.isManager = true := he ▸ hMgr
  have hActs : ¬(!e.stepOpen ∨ m.step.toNat ≠ e.committed + 1 ∨ e.pod.aborting.isSome ∨ e.pod.committing.isSome ∨
      !e.stepRanks.contains m.src.toNat) := by
    rw [hOpen, hAbort, hCommit, hRank]
    simp [hStep]
  have hShape : d.onReady m a b x y = if (!(e.noteReady m (a, b, x, y)).allReady) = true then e.noteReady m (a, b, x, y)
      else (e.noteReady m (a, b, x, y)).sendDecision m.step.toNat := by
    unfold Dev.onReady
    dsimp only
    rw [if_pos hMgr, he, if_neg (by simp [hMgr']), if_neg hActs]
    rfl
  rw [hShape]
  cases (e.noteReady m (a, b, x, y)).allReady <;> rfl

/-- COMMIT of the open step, from the manager (R391). -/
theorem Dev.onCommit_open {d : Dev} {m : Mgmt} (hFrom : d.fromManager m = true) (hNew : d.committed < m.step.toNat)
    (hOpen : d.openStep = some m.step.toNat) (dec k : Nat) :
    d.onCommit m dec k = ((((d.settled (fun w => isFault w.body)).settled (fun w => isReady w.body)).applyCommit m.step.toNat dec k).releasePublish).sendMgmt
      m.src.toNat m.step.toNat .committed := by
  have hFrom' : (d.settled (fun w => isFault w.body)).fromManager m = true := hFrom
  unfold Dev.onCommit
  dsimp only
  rw [if_pos hFrom, hFrom', if_neg (by decide)]
  exact (if_neg (Nat.not_le.mpr hNew)).trans (if_pos hOpen)

/-- START of the armed step, from the manager (R390). -/
theorem Dev.onStart_armed {d : Dev} {m : Mgmt} (hMgr : m.src.toNat = d.manager) (hStep : m.step.toNat = d.committed + 1)
    (hOpen : d.openStep = none) (hArmed : (d.pod.armed.map (·.step)) = some m.step.toNat) (hActivating : d.svc.activating = none)
    (hState : d.state ≠ 2) : d.onStart m = (d.settled (fun w => isFault w.body)).openStepNow m.step.toNat := by
  have hClosed : ¬(m.step.toNat ≠ d.committed + 1 ∨ d.openStep.isSome) := by simp [hStep, hOpen]
  have hGo : (d.pod.armed.map (·.step)) = some m.step.toNat ∧ d.svc.activating.isNone ∧ d.state ≠ 2 := ⟨hArmed, by rw [hActivating]; rfl, hState⟩
  unfold Dev.onStart
  dsimp only
  rw [if_pos hMgr]
  exact (if_neg (not_not_intro hMgr)).trans ((if_neg hClosed).trans (if_pos hGo))

/-- FAULT on the manager: the START of its sender is answered, then the cause is judged (R411). -/
theorem Dev.onFault_power {d : Dev} {m : Mgmt} {code : Nat} (hMgr : d.isManager = true) (hCode : powerCodes.contains code = true) (eng seq : Nat) :
    d.onFault m code eng seq = ((d.settled (fun w => isStart w.body && w.dst.toNat == m.src.toNat)).declareFailed m.src.toNat code).advance := by
  unfold Dev.onFault
  dsimp only
  rw [if_pos hMgr]
  exact (if_neg (by rw [show (d.settled _).isManager = true from hMgr]; decide)).trans (if_pos (.inl hCode))

theorem Dev.onFault_repair {d : Dev} {m : Mgmt} {code : Nat} (hMgr : d.isManager = true) (hCode : repairCodes.contains code = true)
    (hOpen : d.stepOpen = true) (hCommit : d.pod.committing = none) (eng seq : Nat) :
    d.onFault m code eng seq = ((d.settled (fun w => isStart w.body && w.dst.toNat == m.src.toNat)).modPod (fun p => { p with
      repairing := p.repairing.filter (· ≠ m.src.toNat) ++ [m.src.toNat] })).abortPod code m.src.toNat true := by
  have hElse : ¬(powerCodes.contains code = true ∨ code = 0x1101) ∧ code ≠ 0x1114 ∧ code ≠ 0xF012 ∧ code ≠ 0xB00C ∧ hangCodes.contains code = false := by
    revert hCode
    simp only [repairCodes, List.contains_cons, List.contains_nil, Bool.or_false, Bool.or_eq_true, beq_iff_eq]
    rintro (rfl | rfl | rfl | rfl | rfl | rfl | rfl | rfl | rfl | rfl | rfl | rfl | rfl) <;> decide
  obtain ⟨hPower, hState, hWear, hAborted, hHang⟩ := hElse
  have hActs : ¬(code = 0xB00C ∨ !d.stepOpen ∨ d.pod.committing.isSome) := by simp [hAborted, hOpen, hCommit]
  unfold Dev.onFault
  dsimp only
  rw [if_pos hMgr]
  refine (if_neg (by rw [show (d.settled _).isManager = true from hMgr]; decide)).trans ((if_neg hPower).trans ((if_neg hState).trans
    ((if_neg hWear).trans ((if_neg hActs).trans ((if_neg (ne_true_of_eq_false hHang)).trans (if_pos hCode))))))

/-- Settles O42: each message is heard, and its type's meaning takes the branch that acts. -/
theorem stepMessagesAreTaken : Obligations.StepMessagesAreTaken := by
  intro m s h d n r
  refine ⟨?_, ?_, ?_, ?_, ?_, ?_⟩
  · intro a b x y hBody hMgr d hOpen hStep hAbort hCommit hRank d' c d''
    refine next_congr ?_
    rw [hBody]
    exact (Dev.onNew_hears h _).trans (Dev.onReady_taken hMgr rfl hOpen hStep hAbort hCommit hRank ..)
  · intro dec k hBody hFrom hNew hOpen
    refine next_congr ?_
    rw [hBody]
    exact (Dev.onMgmt_hears h _).trans ((if_neg (by simp)).trans (Dev.onCommit_open hFrom hNew hOpen ..))
  · intro hBody _
    refine next_congr ?_
    rw [hBody]
    exact Dev.onNew_hears h _
  · intro hBody hMgr hStep hOpen hArmed hActivating hState
    refine next_congr ?_
    rw [hBody]
    exact (Dev.onNew_hears h _).trans (Dev.onStart_armed hMgr hStep hOpen hArmed hActivating hState)
  · intro code again copies hBody _ _
    refine next_congr ?_
    rw [hBody]
    exact Dev.onNew_hears h _
  · intro code eng seq hBody hMgr d'
    refine ⟨fun hCode => ?_, fun hCode hOpen hCommit => ?_⟩
    · refine next_congr ?_
      rw [hBody]
      exact (Dev.onNew_hears h _).trans (Dev.onFault_power hMgr hCode ..)
    · refine next_congr ?_
      rw [hBody]
      exact (Dev.onNew_hears h _).trans (Dev.onFault_repair hMgr hCode hOpen hCommit ..)

end Sys2Proof.Machine

/-! The messages of membership and takeover, triggers, forwarded commands (R387–R400, R465–R467, R494), and the timers of a pod. -/

namespace Sys2Proof.Machine

/-- A PUBLISH of a change of epoch waits for the open step, or is staged and answered (R387). -/
theorem Dev.stagePublish_changes {d : Dev} {c : Change} (hEpoch : c.epoch.toNat ≠ d.podEpoch) (m : Mgmt) :
    d.stagePublish m c =
      (let d := d.settled (fun w => isFault w.body)
       if d.openStep.isSome then d.modPod (fun p => { p with heldPublish := some m })
       else (d.modPod (fun p => { p with staged := some c })).sendMgmt m.src.toNat d.stepNow (.staged c.epoch)) := by
  unfold Dev.stagePublish
  exact if_neg hEpoch

theorem Dev.onStaged_changes {d : Dev} {e : Nat} (hMgr : d.isManager = true) (hEpoch : e ≠ d.podEpoch) (m : Mgmt) :
    d.onStaged m e = (d.stagedPublish m.src.toNat).advance := by
  unfold Dev.onStaged
  dsimp only
  rw [if_neg (by simp [hMgr]), if_pos hEpoch]

theorem Dev.onTrigger_fires {d : Dev} (hEn : bitOf (d.fld SNP_TRIG_CFG.EN) 6 = true) (hIdle : d.trig.busy = false) (rank num : Nat)
    (capture : Bool) : d.onTrigger rank num capture = d.deliver 64 capture (some (rank, num)) false := by
  unfold Dev.onTrigger
  rw [if_neg (by simp [hEn]), if_neg (by simp [hIdle])]

/-- A forwarded command whose head is good enters the forwarding queue (R466). -/
theorem Dev.onHostCmd_good {d : Dev} {m : Mgmt} {h : HostHdr} {bs : List Byte} {alive : Nat} (hMgr : m.src.toNat = d.manager)
    (hKind : h.kind = 1) (hHead : checkHead (padTo 128 bs) d.pod.takenAlive 96 = (none, alive)) :
    d.onHostCmd m h bs =
      (let d := (d.headCheck none (padTo 128 bs)).modPod (fun p => { p with takenAlive := alive })
       d.modPod (fun p => { p with taken := p.taken ++ [(h.rank.toNat, h.qp.toNat, padTo 128 bs)] })) := by
  unfold Dev.onHostCmd
  dsimp only
  rw [if_neg (not_not_intro hMgr), if_neg (not_not_intro hKind), hHead]

theorem Dev.onHostCpl_event {d : Dev} {h : HostHdr} (hMgr : d.isManager = true) (hKind : h.kind = 3) (m : Mgmt) (bs : List Byte) :
    d.onHostCpl m h bs = d.qps.foldl (fun d e =>
      d.putEvent e.1 (fieldAt bs 0 2) (fieldAt bs 4 2 % 4096) (fieldAt bs 6 6) (padTo 16 ((bs.drop 12).take 16))) d := by
  unfold Dev.onHostCpl
  dsimp only
  rw [if_neg (by simp [hMgr]), if_pos hKind]

/-- Settles O43: each message is heard, and its type's meaning takes the branch that acts. -/
theorem podMessagesAreTaken : Obligations.PodMessagesAreTaken := by
  intro m s h d r
  refine ⟨?_, ?_, ?_, ?_, ?_, ?_, ?_, ?_, ?_, ?_⟩
  · intro role c o hBody hHeeded d'
    refine next_congr ?_
    rw [hBody]
    exact (if_neg hHeeded).trans (Dev.onNew_hears h _)
  · intro c hBody d' hEpoch
    refine next_congr ?_
    rw [hBody]
    exact (Dev.onNew_hears h _).trans (Dev.stagePublish_changes (d := d) hEpoch m)
  · intro e hBody hMgr hEpoch
    refine next_congr ?_
    rw [hBody]
    exact (Dev.onNew_hears h _).trans (Dev.onStaged_changes hMgr hEpoch m)
  · intro e c hBody hStaged hEpoch
    refine next_congr ?_
    rw [hBody]
    refine (Dev.onNew_hears h _).trans ?_
    change (match d.pod.staged with | some c => _ | none => _) = _
    rw [hStaged]
    exact if_pos hEpoch
  · intro ports hBody
    refine next_congr ?_
    rw [hBody]
    exact (Dev.onNew_hears h _).trans rfl
  · intro silent hBody
    refine next_congr ?_
    rw [hBody]
    refine (Dev.onNew_hears h _).trans ?_
    cases silent <;> rfl
  · intro yes hBody
    refine next_congr ?_
    rw [hBody]
    exact (Dev.onNew_hears h _).trans rfl
  · intro rank num capture src hBody hEn hIdle
    refine next_congr ?_
    rw [hBody]
    exact (Dev.onNew_hears h _).trans (Dev.onTrigger_fires hEn hIdle ..)
  · intro hdr bs alive hBody hMgr hKind hHead
    refine next_congr ?_
    rw [hBody]
    exact (Dev.onNew_hears h _).trans (Dev.onHostCmd_good hMgr hKind hHead)
  · intro hdr bs hBody hMgr hKind
    refine next_congr ?_
    rw [hBody]
    exact (Dev.onNew_hears h _).trans (Dev.onHostCpl_event hMgr hKind m bs)

/-! ## Timers and boundaries -/

theorem Dev.stepClose_done {d : Dev} {n : Nat} (hOpen : d.openStep = some n) (hSent : d.pod.readySent = false)
    (hIdle : d.activeTiles.all d.tileIdle = true) (hTender : d.hasTender = false) (hDone : d.tenderDone = true) :
    d.stepClose = (d.modPod (fun p => { p with readySent := true })).sendMgmt d.manager n
      (.ready (sat32 d.stepSums.1) (sat32 d.stepSums.2.1) (sat32 d.stepSums.2.2.1) (sat32 d.stepSums.2.2.2)) := by
  unfold Dev.stepClose
  rw [hOpen]
  dsimp only
  rw [hSent, hIdle, if_neg (by decide), hTender, if_pos (show d.pod.trailerSent = true ∨ (!false) = true from .inr rfl), hDone]
  rfl

/-- Settles O44: each timer's condition holds, so its meaning takes the branch that acts. -/
theorem podTimersAct : Obligations.PodTimersAct := by
  intro s
  dsimp only
  refine ⟨?_, ?_, ?_, ?_, ?_, ?_, ?_, ?_, ?_, ?_, ?_, ?_, ?_⟩
  · intro n hOpen hSent hIdle hTender hDone
    exact next_congr (Dev.stepClose_done hOpen hSent hIdle hTender hDone)
  · intro hOpen hStorm
    exact next_congr (if_pos ⟨hOpen, decide_eq_true hStorm⟩)
  · intro hIn hMgr
    refine next_congr ((if_neg (by rw [hIn]; decide)).trans ?_)
    rw [if_pos hMgr]
  · intro r hMgr hOther hState hState'
    exact next_congr (if_neg (by simp [hMgr, hOther, hState, hState']))
  · intro r hMgr hOther hStep hOpen hAbort hCommit hReady
    exact next_congr (if_neg (by simp [hMgr, hOther, hOpen, hAbort, hCommit, hReady, List.contains_iff_mem.mp hStep]))
  · exact fun r => rfl
  · exact fun hIso => next_congr (if_neg (ne_true_of_eq_false hIso))
  · exact fun hIn hIso => next_congr (if_neg (by simp [hIn, hIso]))
  · intro hRole hVoting
    exact ⟨next_congr (if_neg (by simp [hRole, hVoting])), next_congr (if_neg (by simp [hRole, hVoting]))⟩
  · exact fun hVoting => next_congr (if_neg (by simp [hVoting]))
  · exact fun tag _ => rfl
  · intro failing hMgr hHold hBoundary
    exact next_congr ((if_neg (by simp [hMgr, hHold])).trans (if_pos hBoundary))
  · intro hMgr hOn
    exact next_congr (if_neg (by simp [hMgr, hOn]))

end Sys2Proof.Machine

/-! The repairs of a device (R20, R274, R292, R415–R419, R423). -/

namespace Sys2Proof.Machine

/-- A tile to be replaced, while no step is open, gives its engine to the spare of its die (R417). -/
theorem Dev.replaceTile_spare {d t : Dev} {l new : Nat} (hWaits : d.pod.replace.contains l = true) (hOpen : d.openStep = none)
    (ht : (d.markBad (d.tileOf l)).modPod (fun p => { p with replace := p.replace.filter (· ≠ l) }) = t)
    (hSpare : t.spareTile (d.tileOf l / 5) = some new) (copies : List (Nat × List Byte)) :
    d.replaceTile l copies = ((t.moveEngine l (d.tileOf l) new copies).raise 0x1112).tellRepaired := by
  unfold Dev.replaceTile
  dsimp only
  rw [hWaits, hOpen, if_neg (by decide), ht, hSpare]

/-- A SPARE device that refills takes the state, the program and its ward's (R418). -/
theorem Dev.refill_spare {d : Dev} (hSpare : d.fld SVC_ROLE.STATE = 2) (bind : Dev → RefillIn → Dev) (r : Nat) (x : RefillIn) :
    d.refill bind r x =
      (let d := (bind d x).withCommitted x.step.toNat
       let d := (d.putState d.cbuf x.state).modPod (fun p => { p with pins := x.pins.toNat, stateWritten := true })
       let d := d.write (d.tenderAddr (d.fld SVC_TENDER_CFG.TBUF) 0) (x.wardState.take d.wardBytes)
       let d := (d.write (d.tenderAddr 2 0) (x.wardProgram.take d.wardProgram)).setFld SVC_TENDER_CFG.VALID 1
       (((d.raise 0x111B).raise 0x1113).saveRecord).sendMgmt d.manager x.step.toNat .committed) := by
  unfold Dev.refill
  dsimp only
  rw [if_pos (.inl (decide_eq_true hSpare))]

/-- Settles O45: each repair's condition holds, so its meaning takes the branch that repairs. -/
theorem repairsComplete : Obligations.RepairsComplete := by
  intro s d
  refine ⟨?_, fun r x hSpare => next_congr (Dev.refill_spare hSpare ..), fun f reported copies hDue => ?_, rfl, fun _ => rfl,
    fun x ch hDie hOk => ?_⟩
  · intro l copies new hWaits hOpen t hSpare
    exact next_congr (Dev.replaceTile_spare hWaits hOpen rfl hSpare copies)
  · refine next_congr (if_neg ?_)
    rintro ⟨hOther, hUnreported⟩
    obtain hReported | hDue := hDue
    · simp [hReported] at hUnreported
    · exact hOther hDue
  · refine next_congr (if_neg ?_)
    rw [hDie, hOk]
    decide

end Sys2Proof.Machine

/-! The commands that set a device up: DEVICE_INFO, QP_CREATE, QP_DESTROY, GET_STATE, SET_CONFIG (R450, R456). -/

namespace Sys2Proof.Machine

/-- A queue pair other than 0 that is none yet, with fields in range, is made (R450). -/
theorem Dev.qpCreate_made {d : Dev} {b : List Byte} (hPos : 0 < fieldAt b 0 1) (hQ : fieldAt b 0 1 < 64)
    (hLogs : ∀ i, 1 ≤ i → i ≤ 3 → 4 ≤ fieldAt b i 1 ∧ fieldAt b i 1 ≤ 12) (hCpl : fieldAt b 1 1 ≤ fieldAt b 2 1)
    (hCplVec : 2 ≤ fieldAt b 4 1) (hEvtVec : 2 ≤ fieldAt b 5 1) (hCoal : fieldAt b 6 1 ≠ 0) (hCmdBase : fieldAt b 8 8 % 4096 = 0)
    (hCplBase : fieldAt b 16 8 % 4096 = 0) (hEvtBase : fieldAt b 24 8 % 4096 = 0) (hRest : fieldAt b 34 2 = 0)
    (hNone : d.qp (fieldAt b 0 1) = none) :
    d.qpCreate false b = (d.setQp (fieldAt b 0 1)
      { logCmd := fieldAt b 1 1, logCpl := fieldAt b 2 1, logEvt := fieldAt b 3 1, cplVec := fieldAt b 4 1, evtVec := fieldAt b 5 1
        coalCount := fieldAt b 6 1, coalTime := fieldAt b 7 1, cmdBase := fieldAt b 8 8, cplBase := fieldAt b 16 8
        evtBase := fieldAt b 24 8, evtMask := fieldAt b 32 2 }, 0, 0, 0) := by
  have h1 := hLogs 1 (by decide) (by decide)
  have h2 := hLogs 2 (by decide) (by decide)
  have h3 := hLogs 3 (by decide) (by decide)
  unfold Dev.qpCreate
  dsimp only
  rw [if_neg (by simp only [Bool.not_eq_true', decide_eq_false_iff_not]; omega), if_neg (fun h => Nat.ne_of_gt hPos h.1),
    if_neg (by simp [hNone]), if_neg (fun h => Nat.ne_of_gt hPos h.1)]

/-- A queue pair that is one is ended (R456). -/
theorem Dev.qpDestroy_ends {d : Dev} {b : List Byte} (hQ : fieldAt b 0 1 < 64) (hSome : d.qp (fieldAt b 0 1) ≠ none) :
    d.qpDestroy b = (d.destroyQp (fieldAt b 0 1), 0, 0, 0) :=
  if_neg fun h => h.elim (Nat.not_le.mpr hQ) fun h => hSome (Option.isNone_iff_eq_none.mp h)

/-- Settles O46: each command's checks pass, so it completes with status 0 and what its effect answers. -/
theorem setupCommandsComplete : Obligations.SetupCommandsComplete := by
  intro who tag b s
  refine ⟨fun out hRuns hSend => ?_, ?_, fun hRuns hQ hSome => ?_, fun hRuns => ?_, ?_⟩
  · exact next_congr (Dev.cmdNow_ok hRuns (Dev.sendOut_can (d := s.dev.withFree (s.dev.free + 1)) hSend tag _ _))
  · intro q hRuns hPos hQ hLogs hCpl hCplVec hEvtVec hCoal hCmdBase hCplBase hEvtBase hRest hNone
    exact next_congr (Dev.cmdNow_ok hRuns
      (Dev.qpCreate_made hPos hQ hLogs hCpl hCplVec hEvtVec hCoal hCmdBase hCplBase hEvtBase hRest hNone))
  · exact next_congr (Dev.cmdNow_ok hRuns (Dev.qpDestroy_ends hQ hSome))
  · exact next_congr (Dev.cmdNow_ok hRuns rfl)
  · intro key v hRuns hRest hOk
    exact next_congr (Dev.cmdNow_ok hRuns (if_neg (by simp [hRest, key, v, hOk])))

end Sys2Proof.Machine

/-! The commands that form a pod and change it: POD_FORM, POD_ADMIT, POD_REMOVE, GROUP_PLAN (R379, R382, R395, R397, R533). -/

namespace Sys2Proof.Machine

/-- A map that the host may give, with every admission that this device judges good, forms the pod (R379, R533). -/
theorem Dev.podForm_forms {d : Dev} {x : PodIn} (hMoved : x.failed = none) (hMap : d.badPod x = false)
    (hAdmit : d.seatIn x = x.manager.toNat → (d.admissions x).all (fun e => admitOk e.1.2.deviceId.toNat e.2) = true) :
    d.podForm x = (d.formPod x, 0, d.seatIn x, 0) := by
  unfold Dev.podForm
  rw [hMoved]
  dsimp only
  rw [if_neg (by simp [hMap]), if_neg (fun h => by simp [hAdmit h.1] at h)]

/-- A genuine device that no rank holds and that is not joining is to join at the lowest free rank (R395). -/
theorem Dev.podAdmit_joins {d : Dev} {device r : Nat} {a : AdmitIn} (hDev : device ≠ 0)
    (hNoRank : d.ranks.any (fun e => e.2.deviceId.toNat == device && e.2.state ≠ 5) = false)
    (hNotJoining : d.pod.joining.any (fun j => j.entry.deviceId.toNat == device) = false) (hGenuine : admitOk device a = true)
    (hFree : (List.range 4096).find? (fun r => d.rankState r == 0 && !d.pod.joining.any (fun j => j.rank == r)) = some r)
    (who : Issuer) (tag : Nat) :
    d.podAdmit who tag device a =
      (let e : RankEntry := { deviceId := BitVec.ofNat 64 device, state := 3, x := a.x, y := a.y }
       let far := ((neighbours (tset {} d.ranks r e) e r).map (·.1)).filter (· ≠ d.rank)
       (((d.addAdmitted device a).modPod (fun p => { p with
          fence := p.fence.filter (· ≠ device)
          joining := p.joining ++ [{ rank := r, entry := e, waiting := far, cmd := some (who, tag) }] })).greetPorts r e).advance) := by
  unfold Dev.podAdmit
  rw [if_neg (by rw [hNoRank, hNotJoining]; simpa using hDev), if_neg (by simp [hGenuine]), hFree]

/-- The checks of POD_REMOVE pass for a rank that is ACTIVE or SPARE (R397). -/
theorem Dev.podRemove_checks {d : Dev} {r how : Nat} (hRank : r < 4096) (hHow : how ≤ 1) (hOther : r ≠ d.rank)
    (hState : d.rankState r = 1 ∨ d.rankState r = 2) (hDrain : d.pod.draining.any (fun x => x.1 == r) = false) :
    ¬(r ≥ 4096 ∨ how > 1 ∨ r = d.rank ∨ ¬(d.rankState r = 1 ∨ d.rankState r = 2) ∨ d.pod.draining.any (fun x => x.1 == r)) := by
  rw [hDrain]
  rintro (h | h | h | h | h)
  · omega
  · omega
  · exact hOther h
  · exact h hState
  · exact Bool.false_ne_true h

/-- A SPARE rank leaves at once (R397). -/
theorem Dev.podRemove_spare {d : Dev} {r : Nat} (hRank : r < 4096) (hOther : r ≠ d.rank) (hState : d.rankState r = 2)
    (hDrain : d.pod.draining.any (fun x => x.1 == r) = false) (who : Issuer) (tag : Nat) :
    d.podRemove who tag r 1 =
      (let e := d.dropStandby r
       e.publishPod { e.newPod with ranks := withRoles (tset {} e.ranks r {}) e.rank e.standbyRank } [(r, r)] [] (some (who, tag, 0))) :=
  (if_neg (Dev.podRemove_checks hRank (Nat.le_refl 1) hOther (.inr hState) hDrain)).trans
    ((if_pos hState).trans (if_neg Nat.one_ne_zero))

/-- An ACTIVE rank drains while a spare can take its seat (R397). -/
theorem Dev.podRemove_active {d : Dev} {r how : Nat} (hRank : r < 4096) (hHow : how ≤ 1) (hOther : r ≠ d.rank)
    (hState : d.rankState r = 1) (hDrain : d.pod.draining.any (fun x => x.1 == r) = false) (hSpare : (d.spareFor r).isSome = true)
    (who : Issuer) (tag : Nat) :
    d.podRemove who tag r how =
      (d.modPod (fun p => { p with draining := p.draining ++ [(r, how == 1, some (who, tag))] })).advance :=
  (if_neg (Dev.podRemove_checks hRank hHow hOther (.inl hState) hDrain)).trans
    ((if_neg (by rw [hState]; decide)).trans (if_neg (by simpa [Option.isSome_iff_ne_none] using hSpare)))

/-- A plan whose table is good and whose members are ranks of the pod is taken up (R382). -/
theorem Dev.groupPlan_takes {d : Dev} {x : DmaIn} {l : List (Nat × Nat × List Nat)} (hMoved : x.failed = none)
    (hParse : parsePlan 256 x.bytes = some l) (hOnce : (l.map (·.1)).Nodup)
    (hRanks : l.any (fun g => g.2.2.any (fun r => d.rankState r == 0)) = false) (who : Issuer) (tag : Nat) :
    d.groupPlan who tag x = d.takePlan who tag x.bytes l := by
  unfold Dev.groupPlan
  rw [hMoved]
  dsimp only
  rw [hParse]
  exact if_neg (by rw [hRanks]; simpa using hOnce)

/-- A class S command whose checks pass has its effect once no change of the membership is under way (R387). -/
theorem Dev.cmd_changes {d : Dev} {who : Issuer} {tag : BitVec 32} {op : Nat} {b : List Byte} (h : d.Runs who tag op b)
    (hBusy : d.publishBusy = false) (f : List Byte → Dev → Dev) :
    d.cmd who tag op (fun b d => if d.publishBusy then d else f b d) = f b d :=
  (Dev.cmd_runs h _).trans (if_neg (by simp [hBusy]))

/-- Settles O47: each command's checks pass; POD_FORM completes, and the others change the membership, which none else is changing. -/
theorem podCommandsComplete : Obligations.PodCommandsComplete := by
  intro who tag b s d
  refine ⟨fun x hRuns hMoved hMap hAdmit => ?_, ?_, ?_, fun x l hRuns hBusy hMoved hParse hOnce hRanks => ?_⟩
  · exact next_congr (Dev.cmdNow_ok hRuns (Dev.podForm_forms hMoved hMap hAdmit))
  · intro a r dev hRuns hBusy hDev hNoRank hNotJoining hGenuine hFree
    exact next_congr ((Dev.cmd_changes hRuns hBusy _).trans
      (Dev.podAdmit_joins hDev hNoRank hNotJoining hGenuine hFree who tag.toNat))
  · intro r how hRuns hBusy hRank hHow hOther hDrain
    refine ⟨fun hState hLeaves => ?_, fun hState hSpare => ?_⟩
    · refine next_congr ((Dev.cmd_changes hRuns hBusy _).trans ?_)
      change d.podRemove who tag.toNat r how = _
      rw [hLeaves]
      exact Dev.podRemove_spare hRank hOther hState hDrain who tag.toNat
    · exact next_congr ((Dev.cmd_changes hRuns hBusy _).trans
        (Dev.podRemove_active hRank hHow hOther hState hDrain hSpare who tag.toNat))
  · exact next_congr ((Dev.cmd_changes hRuns hBusy _).trans (Dev.groupPlan_takes hMoved hParse hOnce hRanks who tag.toNat))

end Sys2Proof.Machine

/-! The commands that load and bind a program, move data and run steps (R216, R285, R297, R406, R412, R456–R460). -/

namespace Sys2Proof.Machine

theorem length_readBytes (m : List Host.Cell) (f : Option Nat) (a n : Nat) : (readBytes m f a n).length = n := by
  induction n generalizing a with
  | zero => rfl
  | succ n ih => exact congrArg (· + 1) (ih (a + 1))

@[simp] theorem Dev.length_bytes (d : Dev) (a n : Nat) : (d.bytes a n).length = n := length_readBytes _ _ _ _

/-- A binding without a fault binds, streams the program and saves the record (R166, R285, R408). -/
theorem Dev.tensorBind_binds {d : Dev} {x : BindIn} (hMoved : x.failed = none) (hLoaded : d.pod.loaded = true)
    (hRegions : badRegions x = false) (hTables : x.tables.any (fun e => !d.rangeData e.1 e.2.length) = false)
    (hSlots : slotConflict x.slots = false) (hApart : regionsOverlap x = false) (hBudget : d.overBudget x = false) :
    d.tensorBind x =
      ((d.bind x).streamProgram.saveRecord, 0, (d.bind x).streamProgram.saveRecord.stateBytes,
        (d.bind x).streamProgram.saveRecord.programBytes) := by
  unfold Dev.tensorBind
  rw [hMoved]
  dsimp only
  rw [if_neg (by simp [hLoaded]), if_neg (by rw [hRegions, hTables]; decide), if_neg (by simp [hSlots]), if_neg (by simp [hApart]),
    if_neg (by simp [hBudget])]

/-- A write of a range that may be written, without a failed unit in its way, writes every byte (R459). -/
theorem Dev.tensorWrite_writes {d : Dev} {b : List Byte} {x : DmaIn} (hMoved : x.failed = none) (hLen : fieldAt b 22 8 ≤ x.bytes.length)
    (hFree : d.protectedRange (fieldAt b 16 6) (fieldAt b 22 8) = false)
    (hRun : d.writeRun (fieldAt b 16 6) (fieldAt b 22 8) = fieldAt b 22 8) :
    d.tensorWrite b x = (d.hostWrite (fieldAt b 16 6) (x.bytes.take (fieldAt b 22 8)), 0, fieldAt b 22 8, 0) := by
  have hTaken : (x.bytes.take (fieldAt b 22 8)).length = fieldAt b 22 8 := List.length_take_of_le hLen
  unfold Dev.tensorWrite
  dsimp only
  rw [if_neg (fun h => by omega), if_neg (by simp [hFree]), hTaken, hRun, if_neg (by omega), hMoved, List.take_take, Nat.min_self]

/-- STATE_INIT comes the first time, for a bound program at step 0: the state is written, and streamed where there is a tender (R460). -/
theorem Dev.stateInit_writes {d : Dev} {x : DmaIn} (hIdle : d.pod.sending = none) (hBound : d.pod.bound = true) (hStart : d.committed = 0)
    (hNotArmed : d.armedStep = false) (hNoRestore : d.pod.restoring = none) (hMoved : x.failed = none)
    (hLen : d.stateBytes ≤ x.bytes.length) (who : Issuer) (tag : Nat) :
    d.stateInit who tag x =
      (let e := d.writeState (x.bytes.take d.stateBytes) 0
       if e.hasTender then e.modPod (fun p => { p with sending := some (who, tag) }) else e.complete who tag 0 d.stateBytes 0) := by
  unfold Dev.stateInit
  dsimp only
  rw [if_neg (by simp [hIdle]), if_neg (by simp [hIdle]), if_neg (by simp [hBound, hStart, hNotArmed, hNoRestore]), hMoved]
  exact if_neg (by omega)

/-- Settles O48: each command's checks pass, so it has its effect; a read's list takes the bytes of the range. -/
theorem programAndDataCommandsComplete : Obligations.ProgramAndDataCommandsComplete := by
  intro who tag b s d
  refine ⟨?_, ?_, ?_, ?_, ?_⟩
  · intro x hRuns hMoved hGood e
    refine next_congr (Dev.cmdNow_ok hRuns (r0 := low64 e.programHash) (r1 := 0) ?_)
    rw [hMoved]
    exact if_neg (by simpa using hGood)
  · intro x hRuns hMoved hLoaded hRegions hTables hSlots hApart hBudget e
    exact next_congr (Dev.cmdNow_ok hRuns (Dev.tensorBind_binds hMoved hLoaded hRegions hTables hSlots hApart hBudget))
  · intro a n x hRuns hMoved hLen hFree hRun
    exact next_congr (Dev.cmdNow_ok hRuns (Dev.tensorWrite_writes hMoved hLen hFree hRun))
  · intro a n e out hRuns hRun hSend
    refine next_congr (Dev.cmdNow_ok hRuns ?_)
    have hList := Dev.sendOut_can (bs := e.bytes a n) ((Dev.length_bytes e a n).symm ▸ hSend) tag n 0
    refine (if_neg (Nat.not_lt.mpr hSend.1)).trans ?_
    change (let res := e.sendOut who tag out (e.bytes a (d.goodRun a n)) (d.goodRun a n) 0
      if res.2.1 = 0 ∧ d.goodRun a n < n then (res.1, 0x19, d.goodRun a n, 0) else (res.1, res.2.1, res.2.2.1, res.2.2.2)) = _
    rw [hRun, hList]
    exact if_neg (fun h => Nat.lt_irrefl n h.2)
  · intro x hRuns hIdle hBound hStart hNotArmed hNoRestore hMoved hLen e
    exact next_congr ((Dev.cmd_runs hRuns _).trans
      (Dev.stateInit_writes hIdle hBound hStart hNotArmed hNoRestore hMoved hLen who tag.toNat))

/-- A step that may be armed has no status to be rejected with (R216, R447). -/
theorem Dev.runStatus_none {d : Dev} {n micro lr : Nat} (hNotArmed : d.armedStep = false) (hMicro : 1 ≤ micro) (hMicroMax : micro ≤ 256)
    (hLr : 0 < lr) (hLrMax : lr < 0x7F800000) (hNext : n = d.committed + 1) (hLast : d.committed ≠ 2 ^ 48 - 1)
    (hLoaded : d.pod.loaded = true) (hBound : d.pod.bound = true) (hState : n = 1 → d.pod.stateWritten = true) :
    d.runStatus n micro lr 0 = none := by
  unfold Dev.runStatus
  rw [if_neg (by simp [hNotArmed]), if_neg (by omega), if_neg (fun h => h.elim (fun h => h hNext) hLast), if_neg]
  rintro (h | h | ⟨hOne, h⟩)
  · simp [hLoaded] at h
  · simp [hBound] at h
  · simp [hState hOne] at h

/-- An open or armed step whose COMMIT has not gone out is aborted (R458). -/
theorem Dev.hostAbort_aborts {d : Dev} {n : Nat} (hNext : n = d.committed + 1) (hNoCommit : d.pod.committing.map (·.1) ≠ some n)
    (hStep : (d.armedStep || d.stepOpen) = true) : d.hostAbort n = (d.abortPod 0 d.rank false, 0, 0, 0) :=
  (if_neg fun h => h.elim (by omega) hNoCommit).trans (if_neg (by rw [hStep]; simpa using hNext))

/-- Settles O49: the step's checks pass, so it is armed, aborted, or its lost input counts as written. -/
theorem stepCommandsComplete : Obligations.StepCommandsComplete := by
  intro who tag b s d
  refine ⟨?_, ?_, fun hRuns hNext => ?_⟩
  · intro n micro lr hRuns hNotArmed hMicro hMicroMax hLr hLrMax hRest hNext hLast hLoaded hBound hState
    refine next_congr ((Dev.cmd_runs hRuns _).trans ?_)
    dsimp only
    rw [hRest, Dev.runStatus_none hNotArmed hMicro hMicroMax hLr hLrMax hNext hLast hLoaded hBound hState]
  · intro n hRuns hNext hNoCommit hStep
    exact next_congr (Dev.cmdNow_ok hRuns (Dev.hostAbort_aborts hNext hNoCommit hStep))
  · refine next_congr (Dev.cmdNow_ok hRuns ((if_neg (not_not_intro hNext)).trans ?_))
    cases hLost : d.lostInput.isEmpty <;> rfl

end Sys2Proof.Machine

/-! The commands of the generations (R420–R424, R427, R430, R431) and of observation (R482–R484, R489, R497, R499). -/

namespace Sys2Proof.Machine

/-- A rank's part whose source reads well and for which flash has room is written and reported (R421–R423). -/
theorem Dev.writeGen_good {d e w : Dev} {gs : List Gen} {state : List Byte}
    (he : ((d.sourceReads 4 (d.stateRanges d.cbuf)).1.withStackHard []).modPod (fun p => { p with hung := [] }) = e)
    (hSource : (d.sourceReads 4 (d.stateRanges d.cbuf)).2 = true) (hState : e.stateOf e.cbuf = state) (hFlash : e.flashDisabled = false)
    (hRoom : e.makeRoom e.rank state.length = some gs) (hw : e.wear state.length = w) (who : Issuer) (tag num step : Nat) :
    d.writeGen who tag num step true =
      ((w.modPod (fun p => { p with
          gens := gs ++ [{ num := num, step := step, rank := w.rank, state := state, manifest := w.manifest num step state false }] })).emit who
        tag (hashReport w.fuses.deviceId false (w.manifest num step state false)), some 0) := by
  subst he hState hw
  unfold Dev.writeGen
  dsimp only
  rw [if_neg (by simp [hSource]), if_neg (by simp [hFlash]), hRoom]
  rfl

/-- A restore whose pod manifest verifies begins (R430). -/
theorem Dev.beginRestore_begins {d : Dev} {num : Nat} {pm : List Byte} (hClosed : d.openStep = none)
    (hKept : d.pod.podManifests.find? (fun m => m.1 == num) = some (num, pm)) (hNum : fieldAt pm 8 4 = num)
    (hSigned : d.manifestSigned (fieldAt pm 20 8) pm = true) (cmd : Option (Issuer × Nat)) (source : Nat) :
    d.beginRestore cmd num source = .inl (((d.setFld SVC_RECOVERY_STATUS.OUTCOME (1 + source)).phase 5).sendRestore
      { cmd := cmd, num := num, source := source, step := fieldAt pm 12 6, waiting := [] }) := by
  unfold Dev.beginRestore
  rw [if_neg (by simp [hClosed]), hKept]
  exact if_neg (by simp [hNum, hSigned])

/-- Settles O50: each command's checks pass, so it starts its generation or restore, or has its part done. -/
theorem generationCommandsComplete : Obligations.GenerationCommandsComplete := by
  intro tag b s d
  refine ⟨?_, ?_, ?_, ?_, ?_, ?_, ?_⟩
  · intro q g hRuns hNone hStep hNum hClosed hNoHold hBoundary
    refine next_congr ((Dev.cmd_runs hRuns _).trans ?_)
    refine (if_neg ?_).trans ((if_neg ?_).trans (if_neg ?_))
    · rw [hNone]; exact nofun
    · simp [hStep, hNum, hClosed]
    · simp [hNoHold, hBoundary]
  · intro r q gs num hRuns hStep hClosed
    refine ⟨fun hKept good => ?_, ?_⟩
    · refine next_congr ((Dev.cmd_runs hRuns _).trans ((if_neg ?_).trans (if_pos hKept)))
      simp [hStep, hClosed]
    · intro o e state w m hNew hSource hFlash hRoom
      refine next_congr ((Dev.cmd_runs hRuns _).trans ((if_neg ?_).trans ((if_neg ?_).trans ?_)))
      · simp [hStep, hClosed]
      · exact Bool.eq_false_iff.mp hNew
      · rw [Dev.writeGen_good rfl hSource rfl hFlash hRoom rfl]
  · intro q f pm num source hRuns hSource hIdle hClosed hKept hNum hSigned
    refine next_congr ((Dev.cmd_runs hRuns _).trans ((if_neg (Nat.not_lt.mpr hSource)).trans ((if_neg ?_).trans ?_)))
    · simp [hIdle]
    · rw [Dev.beginRestore_begins hClosed hKept hNum hSigned]
  · intro r q f m state num hRuns hIdle hGen hRow
    refine next_congr ((Dev.cmd_runs hRuns _).trans ((if_neg ?_).trans ?_))
    · rw [hIdle]; exact nofun
    · rw [hGen]
      dsimp only
      rw [hRow]
  · intro who x num block n need hRuns hBlock hMoved hLen
    refine next_congr (Dev.cmdNow_ok hRuns ((if_neg ?_).trans ?_))
    · rintro ⟨h, h'⟩
      exact hBlock.elim h (Nat.not_lt.mpr h')
    · rw [hMoved]
      exact if_neg (Nat.not_lt.mpr hLen)
  · intro who out bs hRuns hItem hSend
    refine next_congr (Dev.cmdNow_ok hRuns ?_)
    rw [hItem]
    exact Dev.sendOut_can hSend tag _ _
  · intro who num e hRuns hPinned
    refine next_congr (Dev.cmdNow_ok hRuns ((if_neg (by rw [hPinned]; decide)).trans ?_))
    cases who <;> rfl

/-- Settles O51: each command's operands are in range, and the list takes the bytes. -/
theorem observationCommandsComplete : Obligations.ObservationCommandsComplete := by
  intro who tag b s d
  refine ⟨?_, ?_, ?_, ?_⟩
  · intro out p sel bs hRuns hTile hSel hSend
    refine next_congr (Dev.cmdNow_ok hRuns ((if_neg ?_).trans (Dev.sendOut_can hSend tag _ _)))
    omega
  · intro out x flags e hRuns hDie hFlags hSpace hSend
    refine next_congr (Dev.cmdNow_ok hRuns ((if_neg ?_).trans ?_))
    · exact not_or.mpr ⟨Nat.not_lt.mpr hDie, not_or.mpr ⟨Nat.not_lt.mpr hFlags, Nat.not_lt.mpr hSpace⟩⟩
    · change ((if (e.sendOut who tag out (e.traceBytes x) (tget {} e.traces x).recs.length 0).2.1 = 0 ∧ bitOf flags 1 = true then
          (e.sendOut who tag out (e.traceBytes x) (tget {} e.traces x).recs.length 0).1.armTrace x
        else (e.sendOut who tag out (e.traceBytes x) (tget {} e.traces x).recs.length 0).1), _) = _
      rw [Dev.sendOut_can hSend]
      simp
  · intro out flags e hRuns hFlags hSend
    refine next_congr (Dev.cmdNow_ok hRuns ((if_neg (Nat.not_lt.mpr hFlags)).trans ?_))
    dsimp only
    rw [Dev.sendOut_can hSend]
    by_cases hRelease : fieldAt b 16 1 = 1 <;> simp [flags, e, hRelease]
  · intro capture flags e hRuns hClass hFlags hRest hEn
    refine next_congr (Dev.cmdNow_ok hRuns ((if_neg ?_).trans (if_neg ?_)))
    · omega
    · simp [hEn]

end Sys2Proof.Machine

/-! Security: images, attestation, owner enrolment and debug access (R527, R530–R532, R535–R538), the handover and boundary scan
(R556–R559). -/

namespace Sys2Proof.Machine

/-- A whole image that is found valid, for the boot image that does not run, is written to flash (R530). -/
theorem Dev.fwUpdate_writes {d e : Dev} {target : Nat} {x : DmaIn} {img : List Byte}
    (hImg : x.bytes.take (512 + fieldAt x.bytes 16 4) = img) (he : (d.withFree (d.free + 1)).setImage (target == 1) img = e)
    (hTarget : target ≤ 1) (hIdle : target ≠ d.fld SEC_STATUS.IMAGE) (hMoved : x.failed = none)
    (hLen : 512 + fieldAt x.bytes 16 4 ≤ x.bytes.length) (hValid : d.checkImage img = 0) :
    d.fwUpdate target x true = (if e.svc.svnDeferred then e.svnRule else e, 0, imgVersion img, 0) := by
  subst hImg he
  unfold Dev.fwUpdate
  rw [if_neg (Nat.not_lt.mpr hTarget), if_neg hIdle, hMoved]
  dsimp only
  rw [if_neg (by omega), if_neg (not_not_intro hValid)]
  rfl

/-- A valid boot image that does not run is to be activated at the next boundary (R556). -/
theorem Dev.fwActivate_waits {d : Dev} {image : Nat} (hImage : image ≤ 1) (hIdle : image ≠ d.fld SEC_STATUS.IMAGE)
    (hValid : d.checkImage (d.bootImage (image == 1)) = 0) (who : Issuer) (tag : Nat) :
    d.fwActivate who tag image = d.withSvc { d.svc with activating := some (image == 1, who, tag) } :=
  (if_neg (Nat.not_lt.mpr hImage)).trans ((if_neg hIdle).trans (if_neg (not_not_intro hValid)))

/-- An owner whose signature verifies and who has signed both boot images is enrolled, where none is (R532). -/
theorem Dev.ownerEnrol_burns {d : Dev} {body key : List Byte} {h : Nat} (hKey : body.take 64 = key) (hHash : beNat (sha256 key) = h)
    (hLen : 128 ≤ body.length) (hNone : d.fuses.ownerHash = 0)
    (hSigned : ecdsaVerify (keyOf key) (enrolMsg d.fuses.deviceId key) (slice body 64 64) = true)
    (hImageA : ownerOk h d.flash.imageA = true) (hImageB : ownerOk h d.flash.imageB = true) :
    d.ownerEnrol body =
      (((d.withFuses { d.fuses with ownerHash := h }).setFld SEC_STATUS.OWNER_ENROLLED 1).raise 0xF805, 0, 0, 0) := by
  subst hKey hHash
  unfold Dev.ownerEnrol
  dsimp only
  rw [if_neg (Nat.not_lt.mpr hLen), if_neg (not_not_intro hNone), if_neg (by simp [hSigned, hImageA, hImageB])]

/-- Phase 0 of DEBUG_UNLOCK draws a challenge for the scope and the time asked for (R538). -/
theorem Dev.debugUnlock_draws {d : Dev} {b : List Byte} (hOwner : d.fuses.ownerHash ≠ 0) (hPhase : fieldAt b 0 1 = 0)
    (hScope : fieldAt b 1 1 ≤ 3) (hSome : 1 ≤ fieldAt b 2 2) (hMax : fieldAt b 2 2 ≤ 1440)
    (hRest : (slice b 4 76).all (· == 0) = true) (late : Bool) :
    d.debugUnlock b late = d.drawChallenge (fieldAt b 1 1) (fieldAt b 2 2) := by
  refine (if_neg hOwner).trans ((if_pos hPhase).trans (if_neg ?_))
  rw [hRest]
  rintro (h | h | h | h)
  · omega
  · omega
  · omega
  · exact Bool.false_ne_true h

/-- Phase 1 of DEBUG_UNLOCK opens the port for the owner's answer to the challenge (R538). -/
theorem Dev.debugUnlock_opens {d : Dev} {b : List Byte} {c scope duration : Nat} (hOwner : d.fuses.ownerHash ≠ 0)
    (hPhase : fieldAt b 0 1 = 1) (hRest : (slice b 1 15).all (· == 0) = true) (hDrawn : d.svc.challenge = some (c, scope, duration))
    (hKey : beNat (sha256 (imgOwner d.svc.resident)) = d.fuses.ownerHash)
    (hSigned : ecdsaVerify (keyOf (imgOwner d.svc.resident)) (unlockMsg d.fuses.deviceId c scope duration) (slice b 16 64) = true) :
    d.debugUnlock b false = ((d.withSvc { d.svc with challenge := none }).openDebug scope duration, 0, 0, 0) := by
  refine (if_neg hOwner).trans ((if_neg (by omega)).trans ((if_neg (by rw [hPhase, hRest]; decide)).trans ?_))
  unfold Dev.answerChallenge
  rw [hDrawn]
  refine if_neg ?_
  rintro (h | h | h)
  · exact Bool.false_ne_true h
  · exact h hKey
  · change (!ecdsaVerify (keyOf (imgOwner d.svc.resident)) (unlockMsg d.fuses.deviceId c scope duration) (slice b 16 64)) = true at h
    rw [hSigned] at h
    exact Bool.false_ne_true h

/-- Settles O52: each command's checks pass, so it completes with status 0, or waits for its boundary. -/
theorem securityCommandsComplete : Obligations.SecurityCommandsComplete := by
  intro who tag b s d
  refine ⟨?_, fun hRuns hImage hIdle hValid => ?_, ?_, ?_, ?_, ?_, ?_⟩
  · intro x target img e hRuns hTarget hIdle hMoved hLen hValid
    exact next_congr (Dev.cmdNow_ok hRuns (Dev.fwUpdate_writes rfl rfl hTarget hIdle hMoved hLen hValid))
  · exact next_congr ((Dev.cmd_runs hRuns _).trans (Dev.fwActivate_waits hImage hIdle hValid who tag.toNat))
  · intro out report hRuns hSend
    exact next_congr (Dev.cmdNow_ok hRuns (Dev.sendOut_can hSend tag _ _))
  · intro out c hRuns hItem hSend
    exact next_congr (Dev.cmdNow_ok hRuns ((if_neg (Nat.not_lt.mpr hItem)).trans (Dev.sendOut_can hSend tag _ _)))
  · intro body key h hRuns hLen hNone hSigned hImageA hImageB
    exact next_congr (Dev.cmdNow_ok hRuns (Dev.ownerEnrol_burns rfl rfl hLen hNone hSigned hImageA hImageB))
  · intro c hRuns hOwner hPhase hScope hSome hMax hRest late
    exact next_congr (Dev.cmdNow_ok hRuns (Dev.debugUnlock_draws hOwner hPhase hScope hSome hMax hRest late))
  · intro c scope duration key hRuns hOwner hPhase hRest hDrawn hKey hSigned
    exact next_congr (Dev.cmdNow_ok hRuns (Dev.debugUnlock_opens hOwner hPhase hRest hDrawn hKey hSigned))

/-- The old image resumes from the record of a handover that is under way (R559). -/
theorem Dev.handoverReverted_resumes {d : Dev} {b : Bool} {who : Issuer} {tag : Nat} (hActivating : d.svc.activating = some (b, who, tag))
    (hHandover : d.state = 2) :
    d.handoverReverted =
      ((((((d.withSvc { d.svc with activating := none }).setMbxState 1).raise 0xF00C).setFld PWR_RESET_CAUSE.REVERTED 1).complete who tag 7
        0xF00C 0).openHeld).advance := by
  unfold Dev.handoverReverted
  rw [hActivating]
  exact if_neg (not_not_intro hHandover)

/-- Settles O53: the handover stands where its row has it go on; the port is open; and EXTEST has no condition. -/
theorem securityEventsAct : Obligations.SecurityEventsAct := by
  intro s d
  refine ⟨fun b who tag ok hActivating hReady hDue => ?_, fun b who tag hActivating hHandover => ⟨?_, ?_⟩, ?_, rfl⟩
  · refine next_congr ?_
    change d.handoverStep ok = _
    unfold Dev.handoverStep
    rw [hActivating]
    exact (if_neg (by rw [hReady]; decide)).trans (if_pos ⟨hReady, hDue⟩)
  · refine next_congr ?_
    change d.handoverStep true = _
    unfold Dev.handoverStep
    rw [hActivating]
    exact if_pos hHandover
  · have hReverts := Dev.handoverReverted_resumes hActivating hHandover
    refine List.forall_mem_cons.mpr ⟨next_congr ?_, List.forall_mem_singleton.mpr (next_congr hReverts)⟩
    change d.handoverStep false = _
    unfold Dev.handoverStep
    rw [hActivating]
    exact (if_pos hHandover).trans hReverts
  · intro v hOpen hClose
    have hCloses : d.closeDebug = (((d.setFld SEC_STATUS.DEBUG_OPEN 0).setFld SEC_DEBUG.SCOPE 0).setFld SEC_DEBUG.REMAIN 0).raise 0xF807 :=
      if_neg (by rw [hOpen]; decide)
    exact List.forall_mem_cons.mpr ⟨next_congr hCloses, List.forall_mem_singleton.mpr (next_congr ((if_pos hClose).trans hCloses))⟩

end Sys2Proof.Machine

/-! The observers: trigger pins, beacon, counter clears, trace rearming and the management bus (R480, R485, R489, R492, R495, R576,
R577). -/

namespace Sys2Proof.Machine

theorem Dev.tile_modTile_same (d : Dev) (p : Nat) (f : TileSt → TileSt) : (d.modTile p f).tile p = f (d.tile p) := Dev.setTile_tile ..

theorem Dev.tile_modTile_other (d : Dev) {p q : Nat} (f : TileSt → TileSt) (h : q ≠ p) : (d.modTile p f).tile q = d.tile q :=
  tget_tset_other _ _ d.tiles p q _ h

/-- Tiles that a list does not name are left alone. -/
theorem Dev.tile_foldl_modTile_other (g : Nat → Nat) (f : TileSt → TileSt) {q : Nat} {l : List Nat} (h : ∀ t ∈ l, q ≠ g t) (d : Dev) :
    (l.foldl (fun d t => d.modTile (g t) f) d).tile q = d.tile q := by
  induction l generalizing d with
  | nil => rfl
  | cons t l ih =>
    obtain ⟨ht, hl⟩ := List.forall_mem_cons.mp h
    exact (ih hl _).trans (d.tile_modTile_other f ht)

/-- A tile that a list names once is changed once. -/
theorem Dev.tile_foldl_modTile_same {g : Nat → Nat} (hg : Function.Injective g) (f : TileSt → TileSt) {k : Nat} {l : List Nat} (hk : k ∈ l)
    (hl : l.Nodup) (d : Dev) : (l.foldl (fun d t => d.modTile (g t) f) d).tile (g k) = f (d.tile (g k)) := by
  induction l generalizing d with
  | nil => exact absurd hk List.not_mem_nil
  | cons t l ih =>
    obtain ⟨ht, hl⟩ := List.nodup_cons.mp hl
    by_cases hkt : k = t
    · subst hkt
      have hOther : ∀ u ∈ l, g k ≠ g u := fun u hu h => ht ((hg h).symm ▸ hu)
      exact (Dev.tile_foldl_modTile_other g f hOther (d.modTile (g k) f)).trans (d.tile_modTile_same (g k) f)
    · have hkl : k ∈ l := (List.mem_cons.mp hk).resolve_left hkt
      exact (ih hkl hl (d.modTile (g t) f)).trans (congrArg f (d.tile_modTile_other f (fun h => hkt (hg h))))

theorem tile_of_die_injective (x : Nat) : Function.Injective (fun t => 5 * x + t) := fun _ _ h => Nat.add_left_cancel h

/-- A block's counters with the cumulative bank cleared (R480). -/
def BlockCnt.cleared (b : BlockCnt) : BlockCnt := { b with cum := {}, idle := 0 }

/-- A tile's counters with the cumulative bank and the per-layer table cleared (R480). -/
def TileSt.cntCleared (t : TileSt) : TileSt :=
  { t with layers := [], blocks := (List.range 6).foldl (fun (r : Tbl BlockCnt) b => tset {} r b (tget {} t.blocks b).cleared) [] }

/-- A table that holds f at b, or is given it there, holds it after every key of a list is given f. -/
theorem tget_foldl_tset {α : Type} [DecidableEq α] (dflt : α) (f : Nat → α) {b : Nat} {l : List Nat} {r : Tbl α}
    (hb : tget dflt r b = f b ∨ b ∈ l) :
    tget dflt (l.foldl (fun r b => tset dflt r b (f b)) r) b = f b := by
  induction l generalizing r with
  | nil => exact hb.resolve_right List.not_mem_nil
  | cons c l ih =>
    refine ih (r := tset dflt r c (f c)) ?_
    by_cases hc : b = c
    · subst hc
      exact .inl (tget_tset_same ..)
    · exact hb.imp (fun hb => (tget_tset_other dflt dflt r c b _ hc).trans hb) fun hb => (List.mem_cons.mp hb).resolve_left hc

theorem TileSt.block_cntCleared (t : TileSt) {b : Nat} (hb : b < 6) : tget {} t.cntCleared.blocks b = (tget {} t.blocks b).cleared :=
  tget_foldl_tset {} (fun b => (tget {} t.blocks b).cleared) (.inr (List.mem_range.mpr hb))

/-- CNT_CTRL.CLEAR clears the counters of the tiles that its bits select (R480). -/
theorem Dev.tile_cntClear (d : Dev) (x v : Nat) {k : Nat} (hk : k < 5) (hBit : bitOf v k = true) :
    (d.cntClear x v).tile (5 * x + k) = (d.tile (5 * x + k)).cntCleared :=
  Dev.tile_foldl_modTile_same (tile_of_die_injective x) TileSt.cntCleared (List.mem_filter.mpr ⟨List.mem_range.mpr hk, hBit⟩)
    (List.nodup_range.filter _) d

theorem Dev.traces_armTrace (d : Dev) (x : Nat) : tget {} (d.armTrace x).traces x = {} :=
  tget_tset_same {} d.traces x {}

/-- A trace that is rearmed holds no record, and is neither frozen nor triggered (R489). -/
theorem Dev.fld_armTrace_status (d : Dev) (x : Nat) :
    (d.armTrace x).fld TRC_STATUS.COUNT x = 0 ∧ (d.armTrace x).fld TRC_STATUS.FROZEN x = 0 ∧
      (d.armTrace x).fld TRC_STATUS.TRIGGERED x = 0 := by
  unfold Dev.armTrace
  refine ⟨?_, ?_, Dev.fld_setFld_same ..⟩
  · rw [Dev.fld_setFld_apart _ TRC_STATUS.TRIGGERED TRC_STATUS.COUNT _ _ _ rfl (by decide),
      Dev.fld_setFld_apart _ TRC_STATUS.FROZEN TRC_STATUS.COUNT _ _ _ rfl (by decide)]
    exact Dev.fld_setFld_same ..
  · rw [Dev.fld_setFld_apart _ TRC_STATUS.TRIGGERED TRC_STATUS.FROZEN _ _ _ rfl (by decide)]
    exact Dev.fld_setFld_same ..

/-- Rearming a trace writes TRC_STATUS alone. -/
theorem Dev.fld_armTrace_other (d : Dev) {x : Nat} (hx : x < 255) {f : Fld} (hf : f.reg ≠ .TRC_STATUS) :
    (d.armTrace x).fld f x = d.fld f x := by
  have hKey : (⟨f.reg, x, 0⟩ : RegId).key ≠ (⟨.TRC_STATUS, x, 0⟩ : RegId).key :=
    RegId.key_ne_of_name hf hx (Nat.zero_lt_succ _) hx (Nat.zero_lt_succ _)
  unfold Dev.armTrace
  rw [Dev.fld_setFld_key _ TRC_STATUS.TRIGGERED f 0 x 0 x 0 hKey, Dev.fld_setFld_key _ TRC_STATUS.FROZEN f 0 x 0 x 0 hKey,
    Dev.fld_setFld_key _ TRC_STATUS.COUNT f 0 x 0 x 0 hKey]
  rfl

/-- A field of a register of another name is left alone. -/
theorem Dev.fld_setReg_name (d : Dev) {f : Fld} {n : RegName} (hf : f.reg ≠ n) {i x : Nat} (hi : i < 255) (hx : x < 255) (v : Nat) :
    (d.setReg ⟨n, x, 0⟩ v).fld f i = d.fld f i :=
  congrArg f.get (Dev.reg_setReg_other _ _ _ _ (RegId.key_ne_of_name hf hi (Nat.zero_lt_succ _) hx (Nat.zero_lt_succ _)))

/-- TRC_CTRL written by its access codes, and the trace of the die rearmed. -/
def Dev.armWritten (d : Dev) (x v : Nat) : Dev :=
  (d.setReg ⟨.TRC_CTRL, x, 0⟩ (writeByAccess ⟨.TRC_CTRL, x, 0⟩ true (d.reg ⟨.TRC_CTRL, x, 0⟩) v)).armTrace x

/-- A write of TRC_CTRL that arms writes the register by its access codes and rearms the trace (R489). -/
theorem Dev.writeTrcCtrl_arm (d : Dev) (x : Nat) {v : Nat} (h : TRC_CTRL.ARM.get v = 1) : d.writeTrcCtrl x v = d.armWritten x v :=
  if_pos (.inl h)

theorem Dev.status_armWritten (d : Dev) (x v : Nat) :
    (d.armWritten x v).fld TRC_STATUS.COUNT x = 0 ∧ (d.armWritten x v).fld TRC_STATUS.FROZEN x = 0 ∧
      (d.armWritten x v).fld TRC_STATUS.TRIGGERED x = 0 := Dev.fld_armTrace_status _ x

/-- The sequence number of the next record goes on. -/
theorem Dev.next_armWritten (d : Dev) {x : Nat} (hx : x < 255) (v : Nat) : (d.armWritten x v).fld TRC_RSEQ.NEXT x = d.fld TRC_RSEQ.NEXT x :=
  (Dev.fld_armTrace_other _ hx (f := TRC_RSEQ.NEXT) (by decide)).trans (Dev.fld_setReg_name _ (f := TRC_RSEQ.NEXT) (by decide) hx hx _)

theorem Dev.mode_armWritten (d : Dev) {x : Nat} (hx : x < 255) (v : Nat) :
    (d.armWritten x v).fld TRC_CTRL.MODE x = TRC_CTRL.MODE.get v := by
  have hMode : TRC_CTRL.MODE ∈ RegName.TRC_CTRL.fields := by decide
  refine (Dev.fld_armTrace_other _ hx (f := TRC_CTRL.MODE) (by decide)).trans ((Dev.fld_setReg_same ..).trans ?_)
  exact get_writeByAccess (r := ⟨.TRC_CTRL, x, 0⟩) (f := TRC_CTRL.MODE) hMode ..

/-- CNT_CTRL.CLEAR leaves the selected tiles' current bank, and clears the cumulative one (R480). -/
theorem cntCtrlClear_clears (s : State) (x : Die) (v : BitVec 32) (k : Fin 5) (hBit : bitOf v.toNat k = true) :
    ∃ t, exec (.cntCtrlClear x v) s = .next t ∧ (t.dev.tile (5 * x.val + k.val)).layers = [] ∧
      ∀ b, b < 6 → (t.dev.block (5 * x.val + k.val) b).cum = {} ∧
        (t.dev.block (5 * x.val + k.val) b).cur = (s.dev.block (5 * x.val + k.val) b).cur := by
  have hTile := s.dev.tile_cntClear x v.toNat k.isLt hBit
  have hBlock : ∀ b, b < 6 → (s.dev.cntClear x v.toNat).block (5 * x.val + k.val) b = (s.dev.block (5 * x.val + k.val) b).cleared := by
    intro b hb
    unfold Dev.block
    rw [hTile]
    exact TileSt.block_cntCleared _ hb
  refine ⟨s.put (s.dev.cntClear x v.toNat), rfl, congrArg TileSt.layers hTile, fun b hb => ?_⟩
  exact ⟨congrArg BlockCnt.cum (hBlock b hb), (congrArg BlockCnt.cur (hBlock b hb)).trans rfl⟩

/-- The trace of die x is empty, neither frozen nor triggered, under the sequence number that it had and the mode given. -/
def Dev.TraceArmed (d e : Dev) (x mode : Nat) : Prop :=
  tget {} e.traces x = {} ∧ e.fld TRC_STATUS.COUNT x = 0 ∧ e.fld TRC_STATUS.FROZEN x = 0 ∧ e.fld TRC_STATUS.TRIGGERED x = 0 ∧
    e.fld TRC_RSEQ.NEXT x = d.fld TRC_RSEQ.NEXT x ∧ e.fld TRC_CTRL.MODE x = mode

/-- What stands of the trace in a device stands in the state that takes it. -/
theorem Dev.TraceArmed.put {d e : Dev} {x mode : Nat} (h : d.TraceArmed e x mode) (s : State) : d.TraceArmed (s.put e).dev x mode := h

/-- A write of TRC_CTRL that arms empties the trace, under the sequence number that goes on and the mode written (R489). -/
theorem Dev.traceArmed_armWritten (d : Dev) {x : Nat} (hx : x < 255) (v : Nat) :
    d.TraceArmed (d.armWritten x v) x (TRC_CTRL.MODE.get v) := by
  obtain ⟨hCount, hFrozen, hTriggered⟩ := d.status_armWritten x v
  exact ⟨Dev.traces_armTrace _ x, hCount, hFrozen, hTriggered, d.next_armWritten hx v, d.mode_armWritten hx v⟩

theorem trcCtrlArm_arms (s : State) (x : Die) (v : BitVec 32) (hArm : TRC_CTRL.ARM.get v.toNat = 1) :
    ∃ t, exec (.trcCtrlArm x v) s = .next t ∧ s.dev.TraceArmed t.dev x (TRC_CTRL.MODE.get v.toNat) :=
  ⟨s.put (s.dev.armWritten x v.toNat), next_congr (s.dev.writeTrcCtrl_arm x hArm),
    (s.dev.traceArmed_armWritten (Nat.lt_trans x.isLt (by decide)) v.toNat).put s⟩

/-- Settles O57: each event's condition holds, so it acts; the clears and the rearming are read off field by field. -/
theorem observersAct : Obligations.ObserversAct := by
  intro s d
  refine ⟨fun n hPin hOut hSince => ?_, fun hPin => next_congr (if_neg (by simp [d, hPin])), rfl, rfl,
    fun hFault => next_congr (if_neg (by simp [d, hFault])), fun hBeacon => next_congr (if_neg hBeacon), cntCtrlClear_clears s,
    fun x v hBit => next_congr (if_pos hBit), trcCtrlArm_arms s, fun sda scl hStuck hTries => ?_, fun freed => ?_⟩
  · refine next_congr ((if_neg (by rw [hPin]; decide)).trans (if_neg ?_))
    rintro (h | h)
    · rw [hOut] at h
      exact Bool.false_ne_true h
    · obtain ⟨k, hk, hLate⟩ := (Option.any_eq_true _ _).mp h
      exact absurd (hSince k hk) (by simpa using hLate)
  · refine next_congr ((if_neg ?_).trans (if_pos rfl))
    rw [hStuck]
    simpa using hTries
  · intro sda scl hStuck
    exact next_congr (if_pos hStuck)

end Sys2Proof.Machine

/-! Resets, power-on and losses of the host link (R441, R465, R552–R555). -/

namespace Sys2Proof.Machine

/-! ## The mailbox at a function-level reset (R441) -/

theorem Dev.qp_destroyQp_same (d : Dev) (q : Nat) : (d.destroyQp q).qp q = none := by
  unfold Dev.destroyQp
  cases h : d.qp q with
  | none => exact h
  | some x => exact tget_tset_same none d.qps q none

/-- No queue pair comes back when one is ended. -/
theorem Dev.qp_destroyQp_none {d : Dev} {q : Nat} (r : Nat) (h : d.qp q = none) : (d.destroyQp r).qp q = none := by
  by_cases hqr : q = r
  · exact hqr ▸ d.qp_destroyQp_same r
  · unfold Dev.destroyQp
    split
    · exact h
    · exact (tget_tset_other none none d.qps r q none hqr).trans h

/-- Queue pairs that a list names have ended after it, and those that were none are none still. -/
theorem Dev.qp_foldl_destroyQp {q : Nat} {l : Tbl (Option QP)} {d : Dev} (h : d.qp q = none ∨ ∃ e ∈ l, e.1 = q) :
    (l.foldl (fun (d : Dev) e => d.destroyQp e.1) d).qp q = none := by
  induction l generalizing d with
  | nil => simpa using h
  | cons e l ih =>
    refine ih ?_
    by_cases he : e.1 = q
    · exact .inl (he ▸ d.qp_destroyQp_same e.1)
    · refine h.imp (Dev.qp_destroyQp_none e.1) fun ⟨x, hx, hxq⟩ => ⟨x, ?_, hxq⟩
      exact (List.mem_cons.mp hx).resolve_left (fun hxe => he (hxe ▸ hxq))

theorem Dev.qp_resetMailbox (d : Dev) (q : Nat) : d.resetMailbox.qp q = none := by
  refine Dev.qp_foldl_destroyQp (d := d) (l := d.qps) ?_
  by_cases h : ∃ e ∈ d.qps, e.1 = q
  · exact .inr h
  · exact .inl (tget_of_not_mem none fun e he hq => h ⟨e, he, hq⟩)

theorem Dev.base_resetMailbox (d : Dev) : d.resetMailbox.fld MBX_APERTURE.BASE = 0 :=
  (Dev.fld_setReg_same _ MBX_APERTURE.BASE 0 0 0).trans (by decide)

theorem Dev.withSvc_committed (d : Dev) (x : Service) : (d.withSvc x).committed = d.committed := rfl

theorem Dev.withMsix_committed (d : Dev) (x y : List Nat) : ((d.withMsixOpen x).withMsixPending y).committed = d.committed := rfl

@[simp] theorem Dev.destroyQp_committed (d : Dev) (q : Nat) : (d.destroyQp q).committed = d.committed := by
  unfold Dev.destroyQp
  split <;> rfl

@[simp] theorem Dev.raise_committed (d : Dev) (code : Nat) : (d.raise code).committed = d.committed :=
  show (d.raise code).rest.committed = d.rest.committed from congrArg (fun d : Dev => d.committed) (Dev.raise_rest d code)

theorem Dev.resetMailbox_committed (d : Dev) : d.resetMailbox.committed = d.committed := by
  simp only [Dev.resetMailbox, Dev.withSvc_committed, Dev.withMsix_committed, Dev.setReg_committed]
  exact foldl_keeps (fun d : Dev => d.committed) (fun d (e : Nat × Option QP) => d.destroyQp e.1) d.qps d
    fun d e => d.destroyQp_committed e.1

theorem Dev.closeDebug_committed (d : Dev) : d.closeDebug.committed = d.committed := by
  unfold Dev.closeDebug
  split
  · rfl
  · simp only [Dev.raise_committed, Dev.setFld_committed]

/-- A function-level reset leaves the committed step. -/
theorem Dev.flr_committed (d : Dev) : d.flr.committed = d.committed := by
  unfold Dev.flr
  rw [Dev.raise_committed, Dev.setFld_committed, Dev.closeDebug_committed, Dev.resetMailbox_committed]

/-! ## The boot after power-on (R529, R555) -/

@[simp] theorem Dev.fireMsi_power (d : Dev) (v : Nat) : (d.fireMsi v).power = d.power :=
  show (d.fireMsi v).rest.power = d.rest.power from congrArg (fun d : Dev => d.power) (Dev.fireMsi_rest d v)

@[simp] theorem Dev.withSvc_power (d : Dev) (x : Service) : (d.withSvc x).power = d.power := rfl

@[simp] theorem Dev.withFuses_power (d : Dev) (x : Fuses) : (d.withFuses x).power = d.power := rfl

@[simp] theorem Dev.setMbxState_power (d : Dev) (v : Nat) : (d.setMbxState v).power = d.power := by simp [Dev.setMbxState]

@[simp] theorem Dev.showSvn_power (d : Dev) : d.showSvn.power = d.power := by simp [Dev.showSvn]

@[simp] theorem Dev.showImage_power (d : Dev) (b : Bool) : (d.showImage b).power = d.power := by simp [Dev.showImage]

@[simp] theorem Dev.svnRule_power (d : Dev) : d.svnRule.power = d.power := by
  unfold Dev.svnRule
  dsimp only
  split
  · rfl
  · split
    · simp [Dev.burnSvn]
    · simp

@[simp] theorem Dev.startImage_power (d : Dev) (b fallback : Bool) : (d.startImage b fallback).power = d.power := by
  cases fallback <;> simp [Dev.startImage]

@[simp] theorem Dev.bootFlash_power (d : Dev) : d.bootFlash.power = d.power := by
  unfold Dev.bootFlash
  dsimp only
  split
  · exact d.startImage_power ..
  · split
    · exact d.startImage_power ..
    · simp

/-- A device that has booted has lost its memory. -/
theorem Dev.booted_mem (d : Dev) : d.booted.mem = [] := by
  have hLost : d.afterPower.mem = [] := rfl
  unfold Dev.booted
  dsimp only
  split <;> simp [hLost]

theorem Dev.booted_power_on (d : Dev) : d.booted.power.on = true := by
  unfold Dev.booted
  dsimp only
  split <;> simp

/-! ## The reset of a tile (R552, R554) -/

/-- A value whose low five bits are the one bit k selects tile k alone. -/
theorem filter_bitOf_of_single {v : Nat} {k : Fin 5} (h : v % 32 = 2 ^ k.val) : (List.range 5).filter (bitOf v) = [k.val] := by
  have hBits : ∀ t ∈ List.range 5, bitOf v t = decide (k.val = t) := fun t ht => by
    have hLow : (v % 2 ^ 5).testBit t = v.testBit t := by
      rw [Nat.testBit_mod_two_pow, decide_eq_true (List.mem_range.mp ht), Bool.true_and]
    rw [show v % 2 ^ 5 = 2 ^ k.val from h, Nat.testBit_two_pow, Nat.testBit_eq_decide_div_mod_eq] at hLow
    exact hLow.symm
  exact (List.filter_congr hBits).trans (by clear hBits h; revert k; decide)

/-- An idle tile stays idle when PWR_TILE_CTRL is written. -/
theorem Dev.tileIdle_setReg_tileCtrl (d : Dev) {p x : Nat} (hp : p < 255) (hx : x < 255) (v : Nat) :
    (d.setReg ⟨.PWR_TILE_CTRL, x, 0⟩ v).tileIdle p = d.tileIdle p := by
  have hFld : ∀ f : Fld, f.reg ≠ .PWR_TILE_CTRL → (d.setReg ⟨.PWR_TILE_CTRL, x, 0⟩ v).fld f p = d.fld f p :=
    fun f hf => Dev.fld_setReg_name d hf hp hx v
  unfold Dev.tileIdle Dev.flag
  rw [hFld ENG_CQ_PTR.HEAD (by decide), hFld ENG_CQ_PTR.TAIL (by decide), hFld ENG_STATUS.HALTED (by decide)]
  rfl

/-- The registers but those of an engine's units on tile p. -/
def otherRegs (regs : Tbl Nat) (p : Nat) : Tbl Nat :=
  regs.filter (fun (e : Nat × Nat) => !((engineRegs.map RegName.ctorIdx).contains (e.1 / 0x100000) && e.1 / 0x1000 % 0x100 == p))

/-- An idle tile's reset empties it and drops its unit registers; its counters and its fitness stay (R554). -/
theorem Dev.resetTile_idle {d : Dev} {p : Nat} (h : d.tileIdle p = true) :
    d.resetTile p = (d.withRegs (otherRegs d.regs p)).setTile p
      { blocks := (d.tile p).blocks, layers := (d.tile p).layers, usable := (d.tile p).usable, resetting := true } := by
  unfold Dev.resetTile
  rw [if_pos h]
  rfl

/-- No register of the tile's units is among the others, so each reads its reset value. -/
theorem tget_otherRegs (regs : Tbl Nat) {n : RegName} (hn : n ∈ engineRegs) {p idx : Nat} (hp : p < 256) (hidx : idx < 4096) (v : Nat) :
    tget v (otherRegs regs p) (⟨n, p, idx⟩ : RegId).key = v := by
  refine tget_of_not_mem v fun e he hKey => ?_
  have hOther := (List.mem_filter.mp he).2
  have hName : e.1 / 0x100000 = n.ctorIdx := by rw [hKey]; unfold RegId.key; dsimp only; omega
  have hInst : e.1 / 0x1000 % 0x100 = p := by rw [hKey]; unfold RegId.key; dsimp only; omega
  have hContains : (engineRegs.map RegName.ctorIdx).contains n.ctorIdx = true :=
    List.contains_iff_mem.mpr (List.mem_map_of_mem hn)
  rw [hName, hInst, hContains] at hOther
  simp at hOther

/-- What the reset of tile p leaves of it: nothing waits, and its units' registers hold their reset values. -/
def Dev.TileCleared (d : Dev) (p : Nat) : Prop :=
  (d.tile p).resetting = true ∧ (d.tile p).issue = [] ∧
    ∀ n ∈ engineRegs, ∀ idx, idx < 4096 → d.reg ⟨n, p, idx⟩ = n.resetValue p

theorem Dev.TileCleared.put {d : Dev} {p : Nat} (h : d.TileCleared p) (s : State) : (s.put d).dev.TileCleared p := h

theorem Dev.resetTile_clears {d : Dev} {p : Nat} (hp : p < 256) (h : d.tileIdle p = true) : (d.resetTile p).TileCleared p := by
  rw [Dev.resetTile_idle h]
  have hTile := Dev.setTile_tile (d.withRegs (otherRegs d.regs p)) p
    { blocks := (d.tile p).blocks, layers := (d.tile p).layers, usable := (d.tile p).usable, resetting := true }
  exact ⟨congrArg TileSt.resetting hTile, congrArg TileSt.issue hTile, fun n hn idx hidx => tget_otherRegs d.regs hn hp hidx _⟩

/-- Settles O55: each reset's effect is its meaning; what it clears and keeps follows from the lemmas above. -/
theorem resetsAct : Obligations.ResetsAct := by
  intro s d
  refine ⟨⟨rfl, d.qp_resetMailbox, rfl, rfl, d.base_resetMailbox, rfl, ?_⟩, rfl, rfl, ?_, ?_, ?_, ?_, ?_⟩
  · intro t ht
    obtain rfl : s.put d.flr = t := Host.Outcome.next.inj ht
    exact ⟨congrArg Memory.canon d.flr_mem, d.flr_committed⟩
  · intro hSaid hLost
    refine next_congr (if_neg ?_)
    rw [hSaid]
    rcases hLost with hLost | hLost
    · simp [show s.dev.hostOff = true from hLost]
    · simp [show s.dev.fld MBX_CTRL.HWD ≠ 0 from hLost]
  · intro hValid
    refine ⟨next_congr (if_pos hValid), fun t ht => ?_⟩
    obtain rfl : s.put d.fundReset = t := Host.Outcome.next.inj ht
    exact congrArg Memory.canon d.fundReset_mem
  · intro failing hOff hBoots
    refine ⟨next_congr ((if_neg (by rw [hOff]; decide)).trans (if_neg hBoots)), rfl, rfl, rfl, rfl, rfl, d.booted_mem, d.booted_power_on⟩
  · intro x v k hBit hIdle
    have hp : 5 * x.val + k.val < 255 := by omega
    have hx : x.val < 255 := by omega
    let e := d.setReg ⟨.PWR_TILE_CTRL, x, 0⟩ (writeByAccess ⟨.PWR_TILE_CTRL, x, 0⟩ true (d.reg ⟨.PWR_TILE_CTRL, x, 0⟩) v.toNat)
    have hRun : d.writeTileCtrl x v.toNat = e.resetTile (5 * x.val + k.val) := by
      unfold Dev.writeTileCtrl
      rw [filter_bitOf_of_single hBit]
      rfl
    have hCleared : (e.resetTile (5 * x.val + k.val)).TileCleared (5 * x.val + k.val) :=
      Dev.resetTile_clears (by omega) ((d.tileIdle_setReg_tileCtrl hp hx _).trans hIdle)
    obtain ⟨hResetting, hIssue, hRegs⟩ := hCleared.put s
    exact ⟨s.put (e.resetTile (5 * x.val + k.val)), next_congr hRun, hResetting, hIssue, congrArg Memory.canon (e.resetTile_mem _), hRegs⟩
  · intro p pass hResetting
    refine next_congr ((if_neg (by rw [hResetting]; decide)).trans ?_)
    cases pass <;> simp [d]

end Sys2Proof.Machine
